-- ==== Sys2Proof/Word.lean ====
section
/-! DEFINITION. The word types of the block: registers are 64 bits wide (R13), bytes are 8 bits. -/

namespace Sys2Proof

/-- A register, record or array word (R13). -/
abbrev Word := BitVec 64

/-- A byte of a record, frame or memory. -/
abbrev Byte := BitVec 8

end Sys2Proof
end

