-- ==== Sys2Proof/Payload.lean ====
section
/-! DEFINITION. The operand bundles of commands: the fields of an Ehrile instruction word by format (R125), and what a packet, a
frame, a heartbeat or a mirror message carries to the block. -/

namespace Sys2Proof

/-- Which half of a register a host write addresses (R13, R15). -/
inductive Lanes where
  | full | lo | hi
  deriving DecidableEq, Repr

/-- Format A of R125. -/
structure FmtA where
  rd : BitVec 5
  ra : BitVec 5
  rb : BitVec 5
  qp : BitVec 3
  qn : Bool
  deriving DecidableEq, Repr

/-- Format I of R125. -/
structure FmtI where
  rd : BitVec 5
  ra : BitVec 5
  imm : BitVec 16
  deriving DecidableEq, Repr

/-- Format M of R125. -/
structure FmtM where
  rd : BitVec 5
  ra : BitVec 5
  size : BitVec 2
  sx : Bool
  imm : BitVec 13
  deriving DecidableEq, Repr

/-- Format B of R125. -/
structure FmtB where
  p : BitVec 3
  pn : Bool
  disp : BitVec 22
  deriving DecidableEq, Repr

/-- Format T of R125. -/
structure FmtT where
  rd : BitVec 5
  ra : BitVec 5
  rb : BitVec 5
  pd : BitVec 3
  ctl : BitVec 8
  deriving DecidableEq, Repr

/-- The kinds of unit that self-test or a runtime fault maps out (R32, R395). -/
inductive MapKind where
  | core | bank | imago | exportLane | mirrorLane
  deriving DecidableEq, Repr

/-- A TRACE packet as it arrives on a pipeline attachment (R197, R198); `payload` holds what the attachment delivers. -/
structure TracePkt where
  dest : Nat
  src : Nat
  kind : Nat
  format : Nat
  len : Nat
  cepoch : Nat
  payload : List Byte
  deriving DecidableEq, Repr

/-- What the pipeline returns of a tagged packet (R192): egress port (`none` when none was reached), outcome code, length, and the
raw count and 16-bit tick fraction of each stamped stage 0 to 7. -/
structure FlightInfo where
  egress : Option Nat
  outcome : Nat
  len : Nat
  stages : List (Option (Nat × Nat))
  deriving DecidableEq, Repr

/-- An egress slot, one cycle of a port's egress MAC (R188): what the bytes that it carries belong to, and, of an idle one, whether some
frame of the port waits, blocked only by credit, a pause or a closed scheduled queue. -/
structure EgressSlot where
  replay : Bool
  dup : Bool
  drop : Bool
  abort : Bool
  fill : Bool
  packet : Bool
  control : Bool
  blocked : Bool
  deriving DecidableEq, Repr

/-- What an antenna sees (R172): an event with its amount, or an egress slot, which the antenna classes itself (R188). -/
inductive AntEvent where
  | count (ev amount : Nat)
  | slot (x : EgressSlot)
  deriving DecidableEq, Repr

/-- Events 60 to 63 are the classes of egress slots and come from slots alone. -/
def AntEvent.ok : AntEvent → Bool
  | .count ev _ => decide (ev < 60)
  | .slot _ => true

/-- A schedule tag (R257). -/
structure SchedTag where
  job : Nat
  phase : Nat
  pass : Nat
  last : Bool
  deriving DecidableEq, Repr

/-- A record that a block unit or the funnel offers to the queue manager (R26, R34): tenant, class, type, source, the SEQ that an
engine record brings (R35), the short stamp with its epoch (R39) and the payload. -/
structure RecIn where
  typ : Nat
  cls : Nat
  tenant : Nat
  source : Nat
  seq : Option Nat := none
  stamp : Nat
  epoch : Nat
  payload : List Byte
  deriving DecidableEq, Repr

/-- A heartbeat as received (R383), with the path it came on and the local short stamp of its receipt. -/
structure Beat where
  mirror : Bool
  blockId : Nat
  pairId : Nat
  tx : Nat
  epoch : Nat
  quality : Nat
  state : Nat
  joinReady : Bool
  locked : Bool
  ack : Nat
  echo : Nat
  turn : Nat
  receipt : Nat
  deriving DecidableEq, Repr

/-- A mirror message with the content that R379 names for its kind. Three kinds carry one bit more, for the rules have the receiver tell
apart what no content listed tells: a LEDGER of a step boundary from one of another change of state (R393), a TENANT that asks for a
partition afresh (R390), and a HOME of a write to the entry from one of its liveness (R375) (DESIGN CHOICE, log entry 99). -/
inductive MirMsg where
  | time (offset : Nat) (incr epoch quality : Nat) (effect : Nat)
  | scAdd (counter amount expAmount : Nat)
  | ledger (tenant state pass next pbase epoch : Nat) (boundary : Bool)
  | window (tenant cur next : Nat) (wnCfg : Word)
  | tenant (tenant state : Nat) (tnCfg : Word) (stream : Nat) (request : Bool)
  | home (entry : Nat) (addr cred : Word) (live jobView expelSent : Nat) (written : Bool)
  | govCharge (tenant tokens spares : Nat)
  | govState (tenant level spare : Nat)
  | soft (offset : Nat) (lo hi : Word)
  | snapBegin (number : Nat)
  | snapEnd (number count : Nat)
  | admission (instant epoch : Nat)
  | scState (counter value exp flags lost : Nat)
  | leave
  deriving DecidableEq, Repr

/-- The kind of a message, which its byte 0 holds (R379). -/
def MirMsg.kind : MirMsg → Nat
  | .time .. => 0x01
  | .scAdd .. => 0x02
  | .ledger .. => 0x03
  | .window .. => 0x04
  | .tenant .. => 0x05
  | .home .. => 0x06
  | .govCharge .. => 0x07
  | .govState .. => 0x08
  | .soft .. => 0x09
  | .snapBegin .. => 0x0A
  | .snapEnd .. => 0x0B
  | .admission .. => 0x0C
  | .scState .. => 0x0D
  | .leave => 0x0E

/-- A frame as the mirror port receives it (R376, R377): its EtherType, whether it carries a tag, its length, and what a MIRROR frame says. -/
structure MirFrame where
  etherType : Nat := 0x88B5
  tagged : Bool := false
  bytes : Nat := 64
  blockId : Nat
  pairId : Nat
  mseq : Nat
  ack : Nat
  msgs : List MirMsg
  deriving DecidableEq, Repr

/-- The mirror port receives frames of EtherType 0x88B5 without tags, up to 9,216 bytes, and no others (R376). -/
def MirFrame.foreign (f : MirFrame) : Bool := f.etherType != 0x88B5 || f.tagged || decide (9216 < f.bytes)

/-- The five PMBus words of a sample (R415). -/
structure Sensor where
  vin : BitVec 16
  iin : BitVec 16
  pin : BitVec 16
  temp : BitVec 16
  status : BitVec 16
  deriving DecidableEq, Repr

/-- What self-test finds (R406): failing banks, cores, imago units, export lanes and mirror lanes, as masks. -/
structure BistResult where
  banks : Word
  cores : Word
  imago : BitVec 4
  exportLanes : BitVec 8
  mirrorLanes : BitVec 2
  deriving DecidableEq, Repr

end Sys2Proof
end

