-- ==== Sys2Proof/Syntax.lean ====
section
/-! DEFINITION. The commands of the block: one constructor for each row of the opcode table, with the operands that the event or
register access carries. A command that is a register write carries the 64-bit word written. -/
namespace Sys2Proof
/-- The commands: host accesses, bus and pin events, the events of the block's own units and the instructions of its probe contexts
(context `c` issues the instruction with the given fields). -/
inductive Instr where
  /-- REGISTER_WRITE, R8. -/
  | registerWrite (off : BitVec 24) (lanes : Lanes) (data : Word)
  /-- HOST_ACCESS_ERROR, R14. -/
  | hostAccessError (off : BitVec 24) (wide write : Bool)
  /-- BLKID_LOCK, R31. -/
  | blkidLock (data : Word)
  /-- UNIT_MAP_OUT, R32. -/
  | unitMapOut (kind : MapKind) (n : Nat)
  /-- TICK, R43. -/
  | tick
  /-- TB_RUN, R46. -/
  | tbRun (data : Word)
  /-- TIME_START, R46. -/
  | timeStart
  /-- TB_INCR_WRITE, R58. -/
  | tbIncrWrite (data : Word)
  /-- INCR_CHANGE_EFFECT, R48. -/
  | incrChangeEffect
  /-- PROJECTION_COMMIT, R60. -/
  | projectionCommit (data : Word)
  /-- PROJECTION_CANCEL, R63. -/
  | projectionCancel (data : Word)
  /-- PROJECTION_EFFECT, R61. -/
  | projectionEffect
  /-- STEP_EFFECT, R62. -/
  | stepEffect
  /-- HISTORY_ENTRY_EXPIRE, R51. -/
  | historyEntryExpire
  /-- QUALITY_WRITE, R431. -/
  | qualityWrite (data : Word)
  /-- HOLD_ENTER, R68. -/
  | holdEnter (data : Word)
  /-- HOLD_EXIT, R68. -/
  | holdExit (data : Word)
  /-- HOLD_TIMER_EXPIRE, R68. -/
  | holdTimerExpire
  /-- PATH_GEN_CHANGE, R82. -/
  | pathGenChange (port cls : Nat)
  /-- LINK_DLY_WRITE, R82. -/
  | linkDlyWrite (slot : Nat) (lanes : Lanes) (data : Word)
  /-- PPS_PULSE, R74. -/
  | ppsPulse
  /-- PPS_PULSE_END, R74. -/
  | ppsPulseEnd
  /-- TIME_WORD, R71. -/
  | timeWord (bad : List Nat)
  /-- TIME_WORD_LOSS, R73. -/
  | timeWordLoss (tile : Nat)
  /-- SNAP_READ, R89. -/
  | snapRead (lanes : Lanes)
  /-- PTP_RX, R77. -/
  | ptpRx (port raw frac : Nat) (frame : List Byte)
  /-- RX_RING_HEAD_WRITE, R78. -/
  | rxRingHeadWrite (data : Word)
  /-- TX_POST, R79. -/
  | txPost (data : Word)
  /-- TX_WITHDRAW, R80. -/
  | txWithdraw (data : Word)
  /-- TX_DEPART, R81. -/
  | txDepart (slot raw frac : Nat)
  /-- SG_ARM, R87. -/
  | sgArm (data : Word)
  /-- SG_CANCEL, R87. -/
  | sgCancel (data : Word)
  /-- GATE_FIRE, R86. -/
  | gateFire (gate : Nat) (scheduled waiting : Bool)
  /-- GATE_DELAYED_LAUNCH, R87. -/
  | gateDelayedLaunch (gate delayNs : Nat)
  /-- EGRESS_OPEN_EXPIRE, R86. -/
  | egressOpenExpire (port queue : Nat)
  /-- TIMER_FIRE, R153. -/
  | timerFire (c timer : Nat)
  /-- CTX_MASK_WRITE, R98. -/
  | ctxMaskWrite (t i : Nat) (data : Word)
  /-- TN_GATES_WRITE, R97. -/
  | tnGatesWrite (t : Nat) (data : Word)
  /-- ACTIVATE, R99. -/
  | activate (t : Nat)
  /-- PREEMPT, R106. -/
  | preempt (t : Nat)
  /-- PREEMPT_QUIESCED, R106. -/
  | preemptQuiesced (t : Nat)
  /-- CHRYSALIS_TRAILER_WRITTEN, R99. -/
  | chrysalisTrailerWritten (t : Nat)
  /-- CHRYSALIS_FAULT, R111. -/
  | chrysalisFault (t cause : Nat) (va : Nat)
  /-- RETRY_SAVE, R111. -/
  | retrySave (t : Nat)
  /-- RESTORE, R114. -/
  | restore (t : Nat) (hold : Bool)
  /-- RESTORE_IMAGE_LOADED, R115. -/
  | restoreImageLoaded (t : Nat)
  /-- RESTORE_FAULT, R99. -/
  | restoreFault (t cause va : Nat)
  /-- RELEASE, R115. -/
  | release (t : Nat)
  /-- TENANT_RESET, R116. -/
  | tenantReset (t : Nat)
  /-- TENANT_RESET_COMPLETE, R99. -/
  | tenantResetComplete (t : Nat)
  /-- LOADER_GO, R101. -/
  | loaderGo (data : Word)
  /-- LOAD_HEADER_READ, R101. -/
  | loadHeaderRead
  /-- LOAD_COMPLETE, R101. -/
  | loadComplete
  /-- LOAD_FAULT, R102. -/
  | loadFault (cause va pos : Nat)
  /-- LOADER_RESUME, R102. -/
  | loaderResume (data : Word)
  /-- LOADER_ABANDON, R102. -/
  | loaderAbandon (data : Word)
  /-- MB_ACK, R120. -/
  | mbAck (m : Nat) (data : Word)
  /-- MB_HDR_READ, R121. -/
  | mbHdrRead (m : Nat) (lanes : Lanes)
  /-- STORE_MEMERR_REPORT, R138. -/
  | storeMemerrReport (c : Nat)
  /-- ADD, R129. -/
  | add (c : Nat) (f : FmtA)
  /-- SUB, R129. -/
  | sub (c : Nat) (f : FmtA)
  /-- AND, R129. -/
  | and (c : Nat) (f : FmtA)
  /-- OR, R129. -/
  | or (c : Nat) (f : FmtA)
  /-- XOR, R129. -/
  | xor (c : Nat) (f : FmtA)
  /-- ANDN, R129. -/
  | andn (c : Nat) (f : FmtA)
  /-- SLL, R129. -/
  | sll (c : Nat) (f : FmtA)
  /-- SRL, R129. -/
  | srl (c : Nat) (f : FmtA)
  /-- SRA, R129. -/
  | sra (c : Nat) (f : FmtA)
  /-- ROR, R129. -/
  | ror (c : Nat) (f : FmtA)
  /-- CLZ, R129. -/
  | clz (c : Nat) (f : FmtA)
  /-- CTZ, R129. -/
  | ctz (c : Nat) (f : FmtA)
  /-- POPC, R129. -/
  | popc (c : Nat) (f : FmtA)
  /-- MIN, R129. -/
  | min (c : Nat) (f : FmtA)
  /-- MAX, R129. -/
  | max (c : Nat) (f : FmtA)
  /-- MINU, R129. -/
  | minu (c : Nat) (f : FmtA)
  /-- MAXU, R129. -/
  | maxu (c : Nat) (f : FmtA)
  /-- SEXT, R129. -/
  | sext (c : Nat) (f : FmtA)
  /-- ZEXT, R129. -/
  | zext (c : Nat) (f : FmtA)
  /-- BSWAP, R129. -/
  | bswap (c : Nat) (f : FmtA)
  /-- MUL, R130. -/
  | mul (c : Nat) (f : FmtA)
  /-- MULHU, R130. -/
  | mulhu (c : Nat) (f : FmtA)
  /-- MULH, R130. -/
  | mulh (c : Nat) (f : FmtA)
  /-- DIVU, R130. -/
  | divu (c : Nat) (f : FmtA)
  /-- REMU, R130. -/
  | remu (c : Nat) (f : FmtA)
  /-- DIV, R130. -/
  | div (c : Nat) (f : FmtA)
  /-- REM, R130. -/
  | rem (c : Nat) (f : FmtA)
  /-- EQ, R131. -/
  | eq (c : Nat) (f : FmtA)
  /-- NE, R131. -/
  | ne (c : Nat) (f : FmtA)
  /-- LT, R131. -/
  | lt (c : Nat) (f : FmtA)
  /-- GE, R131. -/
  | ge (c : Nat) (f : FmtA)
  /-- LTU, R131. -/
  | ltu (c : Nat) (f : FmtA)
  /-- GEU, R131. -/
  | geu (c : Nat) (f : FmtA)
  /-- TST, R131. -/
  | tst (c : Nat) (f : FmtA)
  /-- TSTZ, R131. -/
  | tstz (c : Nat) (f : FmtA)
  /-- FEQ, R131. -/
  | feq (c : Nat) (f : FmtA)
  /-- FLT, R131. -/
  | flt (c : Nat) (f : FmtA)
  /-- FLE, R131. -/
  | fle (c : Nat) (f : FmtA)
  /-- FUNORD, R131. -/
  | funord (c : Nat) (f : FmtA)
  /-- PAND, R132. -/
  | pand (c : Nat) (f : FmtA)
  /-- POR, R132. -/
  | por (c : Nat) (f : FmtA)
  /-- PXOR, R132. -/
  | pxor (c : Nat) (f : FmtA)
  /-- PANDN, R132. -/
  | pandn (c : Nat) (f : FmtA)
  /-- SEL, R132. -/
  | sel (c : Nat) (f : FmtA)
  /-- PRD, R132. -/
  | prd (c : Nat) (f : FmtA)
  /-- PWR, R132. -/
  | pwr (c : Nat) (f : FmtA)
  /-- FADD, R134. -/
  | fadd (c : Nat) (f : FmtA)
  /-- FSUB, R134. -/
  | fsub (c : Nat) (f : FmtA)
  /-- FMUL, R134. -/
  | fmul (c : Nat) (f : FmtA)
  /-- FFMA, R134. -/
  | ffma (c : Nat) (f : FmtA)
  /-- FMIN, R134. -/
  | fmin (c : Nat) (f : FmtA)
  /-- FMAX, R134. -/
  | fmax (c : Nat) (f : FmtA)
  /-- FABS, R134. -/
  | fabs (c : Nat) (f : FmtA)
  /-- FNEG, R134. -/
  | fneg (c : Nat) (f : FmtA)
  /-- FCVT_S_L, R134. -/
  | fcvtSL (c : Nat) (f : FmtA)
  /-- FCVT_L_S, R134. -/
  | fcvtLS (c : Nat) (f : FmtA)
  /-- FCVT_BF_S, R134. -/
  | fcvtBfS (c : Nat) (f : FmtA)
  /-- FCVT_S_BF, R134. -/
  | fcvtSBf (c : Nat) (f : FmtA)
  /-- FCVT_E4_S, R135. -/
  | fcvtE4S (c : Nat) (f : FmtA)
  /-- FCVT_E5_S, R135. -/
  | fcvtE5S (c : Nat) (f : FmtA)
  /-- FCVT_S_E4, R134. -/
  | fcvtSE4 (c : Nat) (f : FmtA)
  /-- FCVT_S_E5, R134. -/
  | fcvtSE5 (c : Nat) (f : FmtA)
  /-- JMPR, R139. -/
  | jmpr (c : Nat) (f : FmtA)
  /-- ADDI, R129. -/
  | addi (c : Nat) (f : FmtI)
  /-- ANDI, R129. -/
  | andi (c : Nat) (f : FmtI)
  /-- ORI, R129. -/
  | ori (c : Nat) (f : FmtI)
  /-- XORI, R129. -/
  | xori (c : Nat) (f : FmtI)
  /-- SHI, R129. -/
  | shi (c : Nat) (f : FmtI)
  /-- CMPI, R131. -/
  | cmpi (c : Nat) (f : FmtI)
  /-- CMPIU, R131. -/
  | cmpiu (c : Nat) (f : FmtI)
  /-- BR, R139. -/
  | br (c : Nat) (f : FmtB)
  /-- CALL, R139. -/
  | call (c : Nat) (f : FmtB)
  /-- LD, R136. -/
  | ld (c : Nat) (f : FmtM)
  /-- ST, R136. -/
  | st (c : Nat) (f : FmtM)
  /-- L, R127. -/
  | l (c : Nat) (imm : BitVec 26)
  /-- RDTIME, R142. -/
  | rdtime (c : Nat) (f : FmtT)
  /-- RDCTR, R143. -/
  | rdctr (c : Nat) (f : FmtT)
  /-- EMIT, R144. -/
  | emit (c : Nat) (f : FmtT)
  /-- DEQ, R146. -/
  | deq (c : Nat) (f : FmtT)
  /-- PEEK, R147. -/
  | peek (c : Nat) (f : FmtT)
  /-- DEPSTAT, R147. -/
  | depstat (c : Nat) (f : FmtT)
  /-- SCADD, R149. -/
  | scadd (c : Nat) (f : FmtT)
  /-- SCWAIT, R150. -/
  | scwait (c : Nat) (f : FmtT)
  /-- SCWAIT_COMPLETE, R244. -/
  | scwaitComplete (c : Nat)
  /-- SCRD, R151. -/
  | scrd (c : Nat) (f : FmtT)
  /-- ATARM, R152. -/
  | atarm (c : Nat) (f : FmtT)
  /-- ATCAN, R154. -/
  | atcan (c : Nat) (f : FmtT)
  /-- HARVEST, R156. -/
  | harvest (c : Nat) (f : FmtT)
  /-- SEAL, R157. -/
  | seal (c : Nat) (f : FmtT)
  /-- VOID, R157. -/
  | void (c : Nat) (f : FmtT)
  /-- HIST, R158. -/
  | hist (c : Nat) (f : FmtT)
  /-- SKETCH, R159. -/
  | sketch (c : Nat) (f : FmtT)
  /-- TLAUNCH, R160. -/
  | tlaunch (c : Nat) (f : FmtT)
  /-- TWAIT, R155. -/
  | twait (c : Nat) (f : FmtT)
  /-- MBPOST, R161. -/
  | mbpost (c : Nat) (f : FmtT)
  /-- FENCE, R164. -/
  | fence (c : Nat) (f : FmtT)
  /-- YIELD, R162. -/
  | yield (c : Nat) (f : FmtT)
  /-- HALT, R162. -/
  | halt (c : Nat) (f : FmtT)
  /-- TRAP, R162. -/
  | trap (c : Nat) (f : FmtT)
  /-- ANTENNA_FLUSH, R173. -/
  | antennaFlush (a : Nat)
  /-- FLUSH_APPLY, R182. -/
  | flushApply (tile : Nat)
  /-- LIVE_READ, R176. -/
  | liveRead (i : Nat)
  /-- COUNTER_PRESET, R178. -/
  | counterPreset (i : Nat) (data : Word)
  /-- HARVEST_REQUEST, R180. -/
  | harvestRequest (data : Word)
  /-- HARVEST_TICK, R181. -/
  | harvestTick (number : Nat)
  /-- HARVEST_LATCH, R181. -/
  | harvestLatch (tile : Nat)
  /-- HARVEST_EXCHANGE, R183. -/
  | harvestExchange
  /-- RAKE_PERIOD, R186. -/
  | rakePeriod
  /-- RAKE_HEAD_WRITE, R196. -/
  | rakeHeadWrite (data : Word)
  /-- AN_TAG_WRITE, R191. -/
  | anTagWrite (a : Nat) (data : Word)
  /-- PORT_RECONFIGURE, R171. -/
  | portReconfigure (first width : Nat)
  /-- PACKET_INGRESS, R191. -/
  | packetIngress (port raw frac : Nat)
  /-- TAGGED_PACKET_END, R192. -/
  | taggedPacketEnd (port : Nat) (info : FlightInfo)
  /-- QUEUE_SAMPLE, R194. -/
  | queueSample (port lo peak : Nat) (peaks : List Nat)
  /-- PORT_SAMPLE_INTERVAL, R194. -/
  | portSampleInterval (port : Nat)
  /-- SLOT_SUMMARY_INTERVAL, R190. -/
  | slotSummaryInterval (port : Nat)
  /-- ANTENNA_RECORD_INGEST, R23. -/
  | antennaRecordIngest (tile : Nat)
  /-- TRACE_PACKET, R216. -/
  | tracePacket (p : TracePkt)
  /-- SEQ_GAP_LOSS_TICK, R217. -/
  | seqGapLossTick
  /-- CREDIT_GRANT, R202. -/
  | creditGrant
  /-- HT_ADDR_WRITE, R203. -/
  | htAddrWrite (i : Nat) (data : Word)
  /-- TS_RUN_START, R225. -/
  | tsRunStart (t : Nat) (data : Word)
  /-- TS_RUN_STOP, R225. -/
  | tsRunStop (t : Nat) (data : Word)
  /-- TS_FORCE, R225. -/
  | tsForce (t : Nat) (data : Word)
  /-- TS_MANUAL, R225. -/
  | tsManual (t : Nat) (data : Word)
  /-- SEQUENCER_EVALUATE, R224. -/
  | sequencerEvaluate (t : Nat)
  /-- SC_PART_WRITE, R232. -/
  | scPartWrite (t : Nat) (data : Word)
  /-- SC_HOSTADD, R235. -/
  | scHostadd (data : Word)
  /-- SC_CHECK, R241. -/
  | scCheck (data : Word)
  /-- SC_FLAGCLR, R242. -/
  | scFlagclr (data : Word)
  /-- WATCH_ARM, R245. -/
  | watchArm (w : Nat) (data : Word)
  /-- WATCH_DISARM, R245. -/
  | watchDisarm (w : Nat) (data : Word)
  /-- LG_LOAD, R276. -/
  | lgLoad (t : Nat)
  /-- LG_RUN, R275. -/
  | lgRun (t : Nat)
  /-- LG_RUN_TIMED, R275. -/
  | lgRunTimed (t : Nat)
  /-- LG_HOLD, R275. -/
  | lgHold (t : Nat)
  /-- LG_HOLD_AT_PASS, R275. -/
  | lgHoldAtPass (t : Nat)
  /-- LG_HOLD_STOP_AT_PASS, R275. -/
  | lgHoldStopAtPass (t : Nat)
  /-- LG_RELEASE, R275. -/
  | lgRelease (t : Nat)
  /-- LG_STOP, R275. -/
  | lgStop (t : Nat)
  /-- LEDGER_ENTRY_PREFETCH, R274. -/
  | ledgerEntryPrefetch (t : Nat)
  /-- PHASE_ACCUM_FLUSH, R259. -/
  | phaseAccumFlush (tile : Nat)
  /-- PHASE_FLUSH_APPLY, R260. -/
  | phaseFlushApply (tile : Nat)
  /-- LEDGER_EVALUATE, R262. -/
  | ledgerEvaluate (t : Nat)
  /-- PHASE_SHORT_TIMEOUT, R265. -/
  | phaseShortTimeout (t phase : Nat)
  /-- PHASE_GIVEUP, R265. -/
  | phaseGiveup (t phase : Nat)
  /-- PHASE_SETTLE_EXPIRE, R265. -/
  | phaseSettleExpire (t phase : Nat)
  /-- LINK_FAILURE, R268. -/
  | linkFailure (port : Nat)
  /-- RECORD_APPEND, R287. -/
  | recordAppend (r : RecIn)
  /-- QCFG_WRITE, R285. -/
  | qcfgWrite (data : Word)
  /-- QUEUE_RESET, R293. -/
  | queueReset (data : Word)
  /-- FREEZE, R292. -/
  | freeze (data : Word)
  /-- THAW, R292. -/
  | thaw (data : Word)
  /-- QM_BANK_MAPOUT, R293. -/
  | qmBankMapout (data : Word)
  /-- SCRUB_WALK_START, R294. -/
  | scrubWalkStart
  /-- SCRUB_WALK_END, R294. -/
  | scrubWalkEnd
  /-- SPILL_START, R300. -/
  | spillStart (t : Nat)
  /-- SPILL_COMPLETE, R300. -/
  | spillComplete (t : Nat)
  /-- DRAIN_START, R301. -/
  | drainStart (t : Nat)
  /-- DRAIN_COMPLETE, R301. -/
  | drainComplete (t : Nat)
  /-- SP_PEAK_CLEAR, R303. -/
  | spPeakClear (t : Nat) (data : Word)
  /-- XL_INVALIDATE, R306. -/
  | xlInvalidate (data : Word)
  /-- XL_INV_COMPLETE, R306. -/
  | xlInvComplete
  /-- DMA_FAULT, R310. -/
  | dmaFault (t k cause va : Nat)
  /-- DS_RESUME, R310. -/
  | dsResume (t k : Nat)
  /-- DS_ABANDON, R310. -/
  | dsAbandon (t k : Nat)
  /-- WN_EN_SET, R318. -/
  | wnEnSet (t : Nat) (data : Word)
  /-- WN_EN_CLEAR, R318. -/
  | wnEnClear (t : Nat) (data : Word)
  /-- WN_SEAL, R318. -/
  | wnSeal (t : Nat) (data : Word)
  /-- WN_VOID, R322. -/
  | wnVoid (t : Nat) (data : Word)
  /-- WINDOW_NATURAL_END, R316. -/
  | windowNaturalEnd (t : Nat)
  /-- WINDOW_CAP, R316. -/
  | windowCap (t : Nat)
  /-- VOID_SETTLE, R322. -/
  | voidSettle (t : Nat)
  /-- LOSS_TALLY_TIMEOUT, R329. -/
  | lossTallyTimeout (source : Nat)
  /-- LOSS_REOFFER, R329. -/
  | lossReoffer
  /-- EXPORT_TAKE, R335. -/
  | exportTake (q : Nat)
  /-- FRAME_FLUSH_TIMEOUT, R335. -/
  | frameFlushTimeout (t cls : Nat)
  /-- FRAME_START, R337. -/
  | frameStart (p : Nat)
  /-- FRAME_END, R434. -/
  | frameEnd (p : Nat)
  /-- PFC_RECEIVE, R338. -/
  | pfcReceive (p : Nat) (mask : BitVec 8) (quanta : List Nat)
  /-- PAUSE_EXPIRE, R338. -/
  | pauseExpire (p prio : Nat)
  /-- RETURN_FRAME, R339. -/
  | returnFrame (p dmac : Nat) (hdr : List Byte)
  /-- EXPORT_RX_OTHER, R331. -/
  | exportRxOther (p : Nat)
  /-- CREDIT_TIMEOUT, R340. -/
  | creditTimeout (t : Nat)
  /-- SHED_EVALUATE, R341. -/
  | shedEvaluate
  /-- EXPORT_LANE_FAILURE, R332. -/
  | exportLaneFailure (lane : Nat)
  /-- PORT_TRAINED, R332. -/
  | portTrained (p : Nat)
  /-- EXPORT_ENABLE, R434. -/
  | exportEnable (data : Word)
  /-- EXPORT_DISABLE, R434. -/
  | exportDisable (data : Word)
  /-- LAUNCH_START, R355. -/
  | launchStart (u : Nat)
  /-- LAUNCH_COMPLETE, R354. -/
  | launchComplete (u : Nat)
  /-- VERDICT_ENTRY, R365. -/
  | verdictEntry (t : Nat)
  /-- MODEL_LOAD, R358. -/
  | modelLoad (t m : Nat)
  /-- MODEL_UNLOAD, R359. -/
  | modelUnload (t m : Nat)
  /-- MODEL_COPY_COMPLETE, R359. -/
  | modelCopyComplete (t m : Nat)
  /-- WEIGHT_STORE_MEMERR, R359. -/
  | weightStoreMemerr (t m : Nat)
  /-- CADENCE_RECOMPUTE, R358. -/
  | cadenceRecompute
  /-- LEASE_PERIOD_END, R367. -/
  | leasePeriodEnd
  /-- LS_VIEW, R368. -/
  | lsView (i : Nat) (data : Word)
  /-- LS_DECIDE, R368. -/
  | lsDecide (i : Nat) (data : Word)
  /-- GOVERNOR_REFILL, R370. -/
  | governorRefill
  /-- GV_LEVEL_WRITE, R370. -/
  | gvLevelWrite (t : Nat) (data : Word)
  /-- PAIR_ENABLE, R384. -/
  | pairEnable (data : Word)
  /-- PAIR_DISABLE, R384. -/
  | pairDisable (data : Word)
  /-- PR_LEAVE, R384. -/
  | prLeave (data : Word)
  /-- PR_YIELD, R385. -/
  | prYield (data : Word)
  /-- PR_TAKE, R386. -/
  | prTake (data : Word)
  /-- PR_ADMIT, R392. -/
  | prAdmit (data : Word)
  /-- BEAT_SEND, R383. -/
  | beatSend
  /-- BEAT_RECEIVE, R384. -/
  | beatReceive (b : Beat)
  /-- BEAT_PERIOD_END, R384. -/
  | beatPeriodEnd
  /-- MIRROR_FRAME_RECEIVE, R378. -/
  | mirrorFrameReceive (fr : MirFrame)
  /-- MIRROR_RETRANSMIT, R378. -/
  | mirrorRetransmit
  /-- MIRROR_FRAME_CLOSE, R378. -/
  | mirrorFrameClose
  /-- MIRROR_TIME, R379. -/
  | mirrorTime (offset incr epoch quality effect : Nat)
  /-- MIRROR_SC_ADD, R380. -/
  | mirrorScAdd (counter amount expAmount : Nat)
  /-- MIRROR_LEDGER, R379. -/
  | mirrorLedger (t state pass next pbase epoch : Nat) (boundary : Bool)
  /-- MIRROR_WINDOW, R379. -/
  | mirrorWindow (t cur next : Nat) (wnCfg : Word)
  /-- MIRROR_TENANT, R379. -/
  | mirrorTenant (t state : Nat) (tnCfg : Word) (stream : Nat) (request : Bool)
  /-- MIRROR_HOME, R375. -/
  | mirrorHome (entry : Nat) (addr cred : Word) (live jobView expelSent : Nat) (written : Bool)
  /-- MIRROR_GOV_CHARGE, R381. -/
  | mirrorGovCharge (t tokens spares : Nat)
  /-- MIRROR_GOV_STATE, R379. -/
  | mirrorGovState (t level spare : Nat)
  /-- MIRROR_SOFT, R379. -/
  | mirrorSoft (offset : Nat) (lo hi : Word)
  /-- MIRROR_SNAP_BEGIN, R390. -/
  | mirrorSnapBegin (number : Nat)
  /-- MIRROR_SNAP_END, R390. -/
  | mirrorSnapEnd (number count : Nat)
  /-- MIRROR_SC_STATE, R390. -/
  | mirrorScState (counter value exp flags lost : Nat)
  /-- MIRROR_ADMIT, R392. -/
  | mirrorAdmit (instant epoch : Nat)
  /-- MIRROR_LEAVE, R384. -/
  | mirrorLeave
  /-- ADMISSION_INSTANT, R393. -/
  | admissionInstant
  /-- MIRROR_LANE_FAILURE, R376. -/
  | mirrorLaneFailure (lane : Nat)
  /-- RESET_ASSERT, R403. -/
  | resetAssert (pwrOk chipRstN : Bool)
  /-- BLOCK_RESET, R403. -/
  | blockReset (data : Word)
  /-- BLOCK_RESET_RELEASE, R403. -/
  | blockResetRelease
  /-- BLOCK_READY, R403. -/
  | blockReady
  /-- REF_LOST, R400. -/
  | refLost
  /-- BIST_GO, R406. -/
  | bistGo (data : Word)
  /-- BIST_DONE, R406. -/
  | bistDone (r : BistResult)
  /-- IRQ_MASK_WRITE, R408. -/
  | irqMaskWrite (i : Nat) (data : Word)
  /-- MICROSECOND_TICK, R411. -/
  | microsecondTick
  /-- PM_GRANT, R412. -/
  | pmGrant (units : Nat)
  /-- PM_CUT, R412. -/
  | pmCut (units cyclesLeft : Nat)
  /-- SENSOR_SAMPLE_START, R416. -/
  | sensorSampleStart
  /-- SENSOR_SAMPLE_END, R416. -/
  | sensorSampleEnd (reply : Option Sensor)
  /-- TENANT_PAGE_READ, R429. -/
  | tenantPageRead (t off : Nat) (wide : Bool)
  /-- ANTENNA_EVENT, R172. -/
  | antennaEvent (a : Nat) (e : AntEvent)
  /-- CHIP_EVENT, R175. -/
  | chipEvent (n : Nat)
  /-- PACKET_DELIVERED, R259. -/
  | packetDelivered (port : Nat) (tag : SchedTag) (bytes raw frac : Nat)
  /-- HARVEST_IMAGE_COMPLETE, R184. -/
  | harvestImageComplete
  /-- RAKE_ENTRY_COMPLETE, R186. -/
  | rakeEntryComplete
  /-- PLL_RELOCK, R400. -/
  | pllRelock
  deriving DecidableEq, Repr

end Sys2Proof
end

