-- ==== Sys2Proof/Decode.lean ====
section
/-! DEFINITION. The command that a word spells by the opcode table's bits. No row of the table gives bits: a command reaches the
block as an access, an event or an instruction of a context, with the operands that `Instr` carries. -/

namespace Sys2Proof

/-- The command that an `nbits`-bit word spells: none, for the table gives no row bits. -/
def decodeTableWord (_nbits _w : Nat) : Option Instr := none

end Sys2Proof
end

