-- ==== Sys2Proof/Config.lean ====
section
/-! DEFINITION. What the part or the implementation fixes (R427) and the free values: constants without a body, so that nothing
can be proved about the value itself. -/

namespace Sys2Proof

/-- MYB_IDENT.STEPPING: 0x01 on the first production stepping (R30). DESIGN CHOICE: the model is the first stepping. -/
def Config.stepping : Nat := 1

/-- QM_POOL.SALT_GIB, per chip, 0 to 256 (R314). DESIGN CHOICE: 64 GiB. -/
def Config.saltGib : Nat := 64

/-- Free values: the value a 64-bit field holds where the manual leaves it undefined (R15), one for each draw of the counter
`freeCtr` of the state. -/
opaque Config.freeWord : Nat → Word

/-- Free values: the table-driven functions EXP (0), SIGMOID (1) and GELU (2) of R353, whose results the manual bounds but does
not fix, as a function of the function code and the FP32 operand; a use takes the value only within the bound. -/
opaque Config.tableFunction : Nat → BitVec 32 → BitVec 32

/-- Free values: which zero FMIN (false) and FMAX (true) give for operands that are both zero with different signs: true gives the
first (R134 orders values only). -/
opaque Config.zeroPick : Bool → BitVec 32 → BitVec 32 → Bool

/-- Free values: sign and payload bits of the NaN that a conversion to BF16 (0), E4M3 (1) or E5M2 (2) gives for a NaN operand (R134
and R135 say that it is a NaN and no more). -/
opaque Config.nanBits : Nat → BitVec 32 → Nat

end Sys2Proof
end

