-- ==== Sys2Proof/Machine/Float.lean ====
section
/-! DEFINITION. Floating point (R133 to R135): exact values, one rounding to nearest with ties to even, and the formats FP32, BF16,
E4M3 and E5M2. -/

namespace Sys2Proof.Machine

/-- What a floating-point datum stands for: a NaN, a signed infinity, or the sign and the value `m` × 2^`e`. -/
inductive FVal where
  | nan
  | inf (neg : Bool)
  | fin (neg : Bool) (m : Nat) (e : Int)
  deriving DecidableEq, Repr

/-- A format: bits of the stored mantissa, bits of the exponent, and whether the all-ones exponent holds finite values but for the
all-ones mantissa (E4M3). -/
structure FFormat where
  man : Nat
  exp : Nat
  finiteTop : Bool := false
  deriving DecidableEq, Repr

def fp32 : FFormat := { man := 23, exp := 8 }
def bf16 : FFormat := { man := 7, exp := 8 }
def e4m3 : FFormat := { man := 3, exp := 4, finiteTop := true }
def e5m2 : FFormat := { man := 2, exp := 5 }

/-- The exponent bias of a format. -/
def FFormat.bias (f : FFormat) : Nat := 2 ^ (f.exp - 1) - 1

/-- The greatest biased exponent that holds finite values. -/
def FFormat.topExp (f : FFormat) : Nat := if f.finiteTop then 2 ^ f.exp - 1 else 2 ^ f.exp - 2

/-- What a code of a format stands for, subnormals included. -/
def FFormat.decode (f : FFormat) (code : Nat) : FVal :=
  let neg := code / 2 ^ (f.man + f.exp) % 2 == 1
  let e := code / 2 ^ f.man % 2 ^ f.exp
  let m := code % 2 ^ f.man
  if f.finiteTop && e == 2 ^ f.exp - 1 && m == 2 ^ f.man - 1 then .nan
  else if !f.finiteTop && e == 2 ^ f.exp - 1 then (if m == 0 then .inf neg else .nan)
  else if e == 0 then .fin neg m (1 - (f.bias : Int) - f.man)
  else .fin neg (2 ^ f.man + m) ((e : Int) - f.bias - f.man)

/-- `m` / 2^`r` rounded to the nearest integer, ties to even. -/
def roundShift (m r : Nat) : Nat :=
  let q := m / 2 ^ r
  let rem := m % 2 ^ r
  if r = 0 then q
  else if 2 ^ (r - 1) < rem || (rem == 2 ^ (r - 1) && q % 2 == 1) then q + 1 else q

/-- A nonzero magnitude `m` × 2^`e` in a format: the code without its sign, or `none` when the rounded value is too large. -/
def FFormat.round (f : FFormat) (m : Nat) (e : Int) : Option Nat :=
  let low : Int := 1 - (f.bias : Int) - f.man
  let top : Int := (Nat.log2 m : Int) + e - f.man
  let q := if low ≤ top then top else low
  let n := if q ≤ e then m * 2 ^ (e - q).toNat else roundShift m (q - e).toNat
  let (n, q) := if n = 2 ^ (f.man + 1) then (2 ^ f.man, q + 1) else (n, q)
  if n < 2 ^ f.man then some n
  else
    let be := (q - low).toNat + 1
    let code := be * 2 ^ f.man + (n - 2 ^ f.man)
    if f.topExp < be || (f.finiteTop && code == 2 ^ (f.man + f.exp) - 1) then none else some code

/-- The sign bit of a format. -/
def FFormat.sign (f : FFormat) (neg : Bool) : Nat := if neg then 2 ^ (f.man + f.exp) else 0

/-! ### FP32 with the choices of R133 -/

/-- An FP32 operand, a subnormal read as a zero of its sign. -/
def fread (w : BitVec 32) : FVal :=
  match fp32.decode w.toNat with
  | .fin neg m e => if m < 2 ^ 23 then .fin neg 0 e else .fin neg m e
  | v => v

/-- An FP32 result: rounded, a subnormal written as a zero of its sign, every NaN as 0x7FC0_0000. -/
def fwrite (v : FVal) : BitVec 32 :=
  match v with
  | .nan => 0x7FC00000
  | .inf neg => BitVec.ofNat 32 (fp32.sign neg + 0x7F800000)
  | .fin neg m e =>
    if m = 0 then BitVec.ofNat 32 (fp32.sign neg)
    else match fp32.round m e with
      | none => BitVec.ofNat 32 (fp32.sign neg + 0x7F800000)
      | some code => BitVec.ofNat 32 (fp32.sign neg + if code < 2 ^ 23 then 0 else code)

/-- The sign of a value changed. -/
def FVal.negate : FVal → FVal
  | .nan => .nan
  | .inf n => .inf (!n)
  | .fin n m e => .fin (!n) m e

/-- The exact sum of two finite values; a zero sum has the sign that both have, else plus. -/
def finAdd (n1 : Bool) (m1 : Nat) (e1 : Int) (n2 : Bool) (m2 : Nat) (e2 : Int) : FVal :=
  let e := if e1 ≤ e2 then e1 else e2
  let a := m1 * 2 ^ (e1 - e).toNat
  let b := m2 * 2 ^ (e2 - e).toNat
  if n1 == n2 then .fin n1 (a + b) e
  else if a = b then .fin false 0 e
  else if b < a then .fin n1 (a - b) e
  else .fin n2 (b - a) e

/-- The exact sum. -/
def FVal.add : FVal → FVal → FVal
  | .nan, _ => .nan
  | _, .nan => .nan
  | .inf a, .inf b => if a == b then .inf a else .nan
  | .inf a, .fin _ _ _ => .inf a
  | .fin _ _ _, .inf b => .inf b
  | .fin n1 m1 e1, .fin n2 m2 e2 => finAdd n1 m1 e1 n2 m2 e2

/-- The exact product. -/
def FVal.mul : FVal → FVal → FVal
  | .nan, _ => .nan
  | _, .nan => .nan
  | .inf a, .inf b => .inf (a != b)
  | .inf a, .fin n m _ => if m = 0 then .nan else .inf (a != n)
  | .fin n m _, .inf b => if m = 0 then .nan else .inf (n != b)
  | .fin n1 m1 e1, .fin n2 m2 e2 => .fin (n1 != n2) (m1 * m2) (e1 + e2)

/-- A value is NaN. -/
def FVal.isNan : FVal → Bool
  | .nan => true
  | _ => false

/-- The signed magnitude of a finite value at exponent `e`, not above its own. -/
def signedAt (neg : Bool) (m : Nat) (e1 e : Int) : Int :=
  let a : Int := (m * 2 ^ (e1 - e).toNat : Nat)
  if neg then -a else a

/-- Comparison of two values that are not NaN: less. -/
def FVal.lt : FVal → FVal → Bool
  | .inf a, .inf b => a && !b
  | .inf a, .fin _ _ _ => a
  | .fin _ _ _, .inf b => !b
  | .fin n1 m1 e1, .fin n2 m2 e2 =>
    let e := if e1 ≤ e2 then e1 else e2
    decide (signedAt n1 m1 e1 e < signedAt n2 m2 e2 e)
  | _, _ => false

/-- Neither value is NaN and neither is less. -/
def FVal.eqv (a b : FVal) : Bool := !a.isNan && !b.isNan && !a.lt b && !b.lt a

/-! ### The functions of R131 and R134 -/

def fAdd (a b : BitVec 32) : BitVec 32 := fwrite ((fread a).add (fread b))
def fSub (a b : BitVec 32) : BitVec 32 := fwrite ((fread a).add (fread b).negate)
def fMul (a b : BitVec 32) : BitVec 32 := fwrite ((fread a).mul (fread b))

/-- a × b + d with one rounding. -/
def fFma (a b d : BitVec 32) : BitVec 32 := fwrite (((fread a).mul (fread b)).add (fread d))

/-- The smaller (`max` false) or larger value; a NaN operand yields the other operand. Zeros of different signs are equal values, and
which one results is a free value. -/
def fPick (max : Bool) (a b : BitVec 32) : BitVec 32 :=
  let x := fread a
  let y := fread b
  if x.isNan then fwrite y
  else if y.isNan then fwrite x
  else if x.lt y then fwrite (if max then y else x)
  else if y.lt x then fwrite (if max then x else y)
  else if Config.zeroPick max a b then fwrite x else fwrite y

/-- FABS; a NaN result is 0x7FC0_0000. -/
def fAbs (a : BitVec 32) : BitVec 32 :=
  match fread a with
  | .nan => fwrite .nan
  | .inf _ => fwrite (.inf false)
  | .fin _ m e => fwrite (.fin false m e)

/-- FNEG; a NaN result is 0x7FC0_0000. -/
def fNeg (a : BitVec 32) : BitVec 32 := fwrite (fread a).negate

def fEq (a b : BitVec 32) : Bool := (fread a).eqv (fread b)
def fLt (a b : BitVec 32) : Bool := (fread a).lt (fread b)
def fLe (a b : BitVec 32) : Bool := (fread a).lt (fread b) || (fread a).eqv (fread b)
def fUnord (a b : BitVec 32) : Bool := (fread a).isNan || (fread b).isNan

/-- A signed 64-bit integer as FP32. -/
def fOfInt (v : Int) : BitVec 32 := fwrite (.fin (decide (v < 0)) v.natAbs 0)

/-- FP32 to a signed 64-bit integer: toward zero, saturating, 0 for NaN. -/
def fToInt (a : BitVec 32) : BitVec 64 :=
  match fread a with
  | .nan => 0
  | .inf neg => if neg then 0x8000000000000000 else 0x7FFFFFFFFFFFFFFF
  | .fin neg m e =>
    let n := if 0 ≤ e then m * 2 ^ e.toNat else m / 2 ^ (-e).toNat
    if neg then (if 2 ^ 63 ≤ n then 0x8000000000000000 else BitVec.ofInt 64 (-(n : Int)))
    else if 2 ^ 63 ≤ n then 0x7FFFFFFFFFFFFFFF else BitVec.ofNat 64 n

/-- A value in another format: the code, with `big` given for an overflow and `inf` for an infinity, as codes without the sign, and
`nan` for a NaN. -/
def FFormat.encode (f : FFormat) (big inf nan : Nat) (v : FVal) : Nat :=
  match v with
  | .nan => nan
  | .inf neg => f.sign neg + inf
  | .fin neg m e => if m = 0 then f.sign neg else f.sign neg + (f.round m e).getD big

/-- FP32 to BF16. -/
def fToBf (a : BitVec 32) : BitVec 16 :=
  let x := Config.nanBits 0 a
  BitVec.ofNat 16 (bf16.encode 0x7F80 0x7F80 (x % 2 * 32768 + 0x7F80 + (1 + x / 2 % 127)) (fread a))

/-- FP32 to E4M3 (R135): without saturation an overflow or infinity gives the NaN of its sign, with saturation 448. -/
def fToE4 (sat : Bool) (a : BitVec 32) : BitVec 8 :=
  let top := if sat then 0x7E else 0x7F
  BitVec.ofNat 8 (e4m3.encode top top (Config.nanBits 1 a % 2 * 128 + 0x7F) (fread a))

/-- FP32 to E5M2 (R135): without saturation an overflow gives an infinity, with saturation 57,344. -/
def fToE5 (sat : Bool) (a : BitVec 32) : BitVec 8 :=
  let top := if sat then 0x7B else 0x7C
  let x := Config.nanBits 2 a
  BitVec.ofNat 8 (e5m2.encode top top (x % 2 * 128 + 0x7C + (1 + x / 2 % 3)) (fread a))

/-- BF16, E4M3 or E5M2 to FP32. -/
def fFrom (f : FFormat) (code : Nat) : BitVec 32 := fwrite (f.decode code)

end Sys2Proof.Machine
end

