-- ==== Sys2Proof/Machine/Encode.lean ====
section
/-! DEFINITION. The words of the Ehrile instructions (R125): the encoders that a trap's INFO needs, and the fields that a restore reads
back from an instruction word. -/

namespace Sys2Proof.Machine

/-- A format-A word. -/
def encA (op fn : Nat) (f : FmtA) : Nat :=
  op * 2 ^ 26 + f.rd.toNat * 2 ^ 21 + f.ra.toNat * 2 ^ 16 + f.rb.toNat * 2 ^ 11 + f.qp.toNat * 2 ^ 8 + f.qn.toNat * 2 ^ 7 + fn

/-- A format-I word. -/
def encI (op : Nat) (f : FmtI) : Nat := op * 2 ^ 26 + f.rd.toNat * 2 ^ 21 + f.ra.toNat * 2 ^ 16 + f.imm.toNat

/-- A format-M word. -/
def encM (op : Nat) (f : FmtM) : Nat :=
  op * 2 ^ 26 + f.rd.toNat * 2 ^ 21 + f.ra.toNat * 2 ^ 16 + f.size.toNat * 2 ^ 14 + f.sx.toNat * 2 ^ 13 + f.imm.toNat

/-- A format-B word. -/
def encB (op : Nat) (f : FmtB) : Nat := op * 2 ^ 26 + f.p.toNat * 2 ^ 23 + f.pn.toNat * 2 ^ 22 + f.disp.toNat

/-- A format-T word. -/
def encT (op : Nat) (f : FmtT) : Nat :=
  op * 2 ^ 26 + f.rd.toNat * 2 ^ 21 + f.ra.toNat * 2 ^ 16 + f.rb.toNat * 2 ^ 11 + f.pd.toNat * 2 ^ 8 + f.ctl.toNat

/-- The word of L. -/
def encL (imm : BitVec 26) : Nat := 0x3F * 2 ^ 26 + imm.toNat

/-- RD of an instruction word. -/
def wordRd (w : Nat) : Nat := w / 2 ^ 21 % 32

/-- PD of a format-T word. -/
def wordPd (w : Nat) : Nat := w / 2 ^ 8 % 8

end Sys2Proof.Machine
end

