-- ==== Sys2Proof/Machine/Ehrile.lean ====
section
/-! DEFINITION. The Ehrile instruction words (R125, R128 to R141): the instruction of context `c` that a word spells, and the word of
each instruction. -/

namespace Sys2Proof.Machine

/-- The fields of a format-A word. -/
def fieldsA (w : Nat) : FmtA :=
  ⟨BitVec.ofNat 5 (w / 2 ^ 21), BitVec.ofNat 5 (w / 2 ^ 16), BitVec.ofNat 5 (w / 2 ^ 11), BitVec.ofNat 3 (w / 2 ^ 8), w / 2 ^ 7 % 2 == 1⟩

/-- The fields of a format-I word. -/
def fieldsI (w : Nat) : FmtI := ⟨BitVec.ofNat 5 (w / 2 ^ 21), BitVec.ofNat 5 (w / 2 ^ 16), BitVec.ofNat 16 w⟩

/-- The fields of a format-M word. -/
def fieldsM (w : Nat) : FmtM :=
  ⟨BitVec.ofNat 5 (w / 2 ^ 21), BitVec.ofNat 5 (w / 2 ^ 16), BitVec.ofNat 2 (w / 2 ^ 14), w / 2 ^ 13 % 2 == 1, BitVec.ofNat 13 w⟩

/-- The fields of a format-B word. -/
def fieldsB (w : Nat) : FmtB := ⟨BitVec.ofNat 3 (w / 2 ^ 23), w / 2 ^ 22 % 2 == 1, BitVec.ofNat 22 w⟩

/-- The fields of a format-T word. -/
def fieldsT (w : Nat) : FmtT :=
  ⟨BitVec.ofNat 5 (w / 2 ^ 21), BitVec.ofNat 5 (w / 2 ^ 16), BitVec.ofNat 5 (w / 2 ^ 11), BitVec.ofNat 3 (w / 2 ^ 8), BitVec.ofNat 8 w⟩

/-- The functions of OP 0x00 (R129). -/
def decodeAlu (c : Nat) (f : FmtA) (fn : Nat) : Option Instr :=
  match fn with
  | 0 => some (.add c f)
  | 1 => some (.sub c f)
  | 2 => some (.and c f)
  | 3 => some (.or c f)
  | 4 => some (.xor c f)
  | 5 => some (.andn c f)
  | 6 => some (.sll c f)
  | 7 => some (.srl c f)
  | 8 => some (.sra c f)
  | 9 => some (.ror c f)
  | 10 => some (.clz c f)
  | 11 => some (.ctz c f)
  | 12 => some (.popc c f)
  | 13 => some (.min c f)
  | 14 => some (.max c f)
  | 15 => some (.minu c f)
  | 16 => some (.maxu c f)
  | 17 => some (.sext c f)
  | 18 => some (.zext c f)
  | 19 => some (.bswap c f)
  | _ => none

/-- The functions of OP 0x01 (R130). -/
def decodeMul (c : Nat) (f : FmtA) (fn : Nat) : Option Instr :=
  match fn with
  | 0 => some (.mul c f)
  | 1 => some (.mulhu c f)
  | 2 => some (.mulh c f)
  | 3 => some (.divu c f)
  | 4 => some (.remu c f)
  | 5 => some (.div c f)
  | 6 => some (.rem c f)
  | _ => none

/-- The functions of OP 0x02 (R131). -/
def decodeCompare (c : Nat) (f : FmtA) (fn : Nat) : Option Instr :=
  match fn with
  | 0 => some (.eq c f)
  | 1 => some (.ne c f)
  | 2 => some (.lt c f)
  | 3 => some (.ge c f)
  | 4 => some (.ltu c f)
  | 5 => some (.geu c f)
  | 6 => some (.tst c f)
  | 7 => some (.tstz c f)
  | 16 => some (.feq c f)
  | 17 => some (.flt c f)
  | 18 => some (.fle c f)
  | 19 => some (.funord c f)
  | _ => none

/-- The functions of OP 0x03 (R132). -/
def decodePredicate (c : Nat) (f : FmtA) (fn : Nat) : Option Instr :=
  match fn with
  | 0 => some (.pand c f)
  | 1 => some (.por c f)
  | 2 => some (.pxor c f)
  | 3 => some (.pandn c f)
  | 4 => some (.sel c f)
  | 5 => some (.prd c f)
  | 6 => some (.pwr c f)
  | _ => none

/-- The functions of OP 0x04 (R134). -/
def decodeFloat (c : Nat) (f : FmtA) (fn : Nat) : Option Instr :=
  match fn with
  | 0 => some (.fadd c f)
  | 1 => some (.fsub c f)
  | 2 => some (.fmul c f)
  | 3 => some (.ffma c f)
  | 4 => some (.fmin c f)
  | 5 => some (.fmax c f)
  | 6 => some (.fabs c f)
  | 7 => some (.fneg c f)
  | 16 => some (.fcvtSL c f)
  | 17 => some (.fcvtLS c f)
  | 20 => some (.fcvtBfS c f)
  | 21 => some (.fcvtSBf c f)
  | 22 => some (.fcvtE4S c f)
  | 23 => some (.fcvtE5S c f)
  | 24 => some (.fcvtSE4 c f)
  | 25 => some (.fcvtSE5 c f)
  | _ => none

/-- The telemetry and system instructions (R141); PEEK with MODE 3 is DEPSTAT (R147). -/
def decodeTelemetry (c : Nat) (f : FmtT) (op : Nat) : Option Instr :=
  match op with
  | 32 => some (.rdtime c f)
  | 33 => some (.rdctr c f)
  | 34 => some (.emit c f)
  | 35 => some (.deq c f)
  | 36 => some (if f.ctl = 3 then .depstat c f else .peek c f)
  | 37 => some (.scadd c f)
  | 38 => some (.scwait c f)
  | 39 => some (.scrd c f)
  | 40 => some (.atarm c f)
  | 41 => some (.atcan c f)
  | 42 => some (.harvest c f)
  | 43 => some (.seal c f)
  | 44 => some (.void c f)
  | 45 => some (.hist c f)
  | 46 => some (.sketch c f)
  | 47 => some (.tlaunch c f)
  | 48 => some (.twait c f)
  | 49 => some (.mbpost c f)
  | 50 => some (.fence c f)
  | 51 => some (.yield c f)
  | 52 => some (.halt c f)
  | 53 => some (.trap c f)
  | _ => none

/-- The instruction of context `c` that a word spells; none for a reserved opcode or function code, which is ILLEGAL (R128). -/
def decodeEhrile (c w : Nat) : Option Instr :=
  match w / 2 ^ 26 with
  | 0 => decodeAlu c (fieldsA w) (w % 128)
  | 1 => decodeMul c (fieldsA w) (w % 128)
  | 2 => decodeCompare c (fieldsA w) (w % 128)
  | 3 => decodePredicate c (fieldsA w) (w % 128)
  | 4 => decodeFloat c (fieldsA w) (w % 128)
  | 5 => if w % 128 = 0 then some (.jmpr c (fieldsA w)) else none
  | 8 => some (.addi c (fieldsI w))
  | 9 => some (.andi c (fieldsI w))
  | 10 => some (.ori c (fieldsI w))
  | 11 => some (.xori c (fieldsI w))
  | 12 => some (.shi c (fieldsI w))
  | 13 => some (.cmpi c (fieldsI w))
  | 14 => some (.cmpiu c (fieldsI w))
  | 16 => some (.br c (fieldsB w))
  | 17 => some (.call c (fieldsB w))
  | 20 => some (.ld c (fieldsM w))
  | 21 => some (.st c (fieldsM w))
  | 63 => some (.l c (BitVec.ofNat 26 w))
  | op => decodeTelemetry c (fieldsT w) op

/-- The word of an instruction; none for a command that is no instruction. -/
def encodeEhrile : Instr → Option Nat
  | .add _ f => some (encA 0 0 f)
  | .sub _ f => some (encA 0 1 f)
  | .and _ f => some (encA 0 2 f)
  | .or _ f => some (encA 0 3 f)
  | .xor _ f => some (encA 0 4 f)
  | .andn _ f => some (encA 0 5 f)
  | .sll _ f => some (encA 0 6 f)
  | .srl _ f => some (encA 0 7 f)
  | .sra _ f => some (encA 0 8 f)
  | .ror _ f => some (encA 0 9 f)
  | .clz _ f => some (encA 0 10 f)
  | .ctz _ f => some (encA 0 11 f)
  | .popc _ f => some (encA 0 12 f)
  | .min _ f => some (encA 0 13 f)
  | .max _ f => some (encA 0 14 f)
  | .minu _ f => some (encA 0 15 f)
  | .maxu _ f => some (encA 0 16 f)
  | .sext _ f => some (encA 0 17 f)
  | .zext _ f => some (encA 0 18 f)
  | .bswap _ f => some (encA 0 19 f)
  | .mul _ f => some (encA 1 0 f)
  | .mulhu _ f => some (encA 1 1 f)
  | .mulh _ f => some (encA 1 2 f)
  | .divu _ f => some (encA 1 3 f)
  | .remu _ f => some (encA 1 4 f)
  | .div _ f => some (encA 1 5 f)
  | .rem _ f => some (encA 1 6 f)
  | .eq _ f => some (encA 2 0 f)
  | .ne _ f => some (encA 2 1 f)
  | .lt _ f => some (encA 2 2 f)
  | .ge _ f => some (encA 2 3 f)
  | .ltu _ f => some (encA 2 4 f)
  | .geu _ f => some (encA 2 5 f)
  | .tst _ f => some (encA 2 6 f)
  | .tstz _ f => some (encA 2 7 f)
  | .feq _ f => some (encA 2 16 f)
  | .flt _ f => some (encA 2 17 f)
  | .fle _ f => some (encA 2 18 f)
  | .funord _ f => some (encA 2 19 f)
  | .pand _ f => some (encA 3 0 f)
  | .por _ f => some (encA 3 1 f)
  | .pxor _ f => some (encA 3 2 f)
  | .pandn _ f => some (encA 3 3 f)
  | .sel _ f => some (encA 3 4 f)
  | .prd _ f => some (encA 3 5 f)
  | .pwr _ f => some (encA 3 6 f)
  | .fadd _ f => some (encA 4 0 f)
  | .fsub _ f => some (encA 4 1 f)
  | .fmul _ f => some (encA 4 2 f)
  | .ffma _ f => some (encA 4 3 f)
  | .fmin _ f => some (encA 4 4 f)
  | .fmax _ f => some (encA 4 5 f)
  | .fabs _ f => some (encA 4 6 f)
  | .fneg _ f => some (encA 4 7 f)
  | .fcvtSL _ f => some (encA 4 16 f)
  | .fcvtLS _ f => some (encA 4 17 f)
  | .fcvtBfS _ f => some (encA 4 20 f)
  | .fcvtSBf _ f => some (encA 4 21 f)
  | .fcvtE4S _ f => some (encA 4 22 f)
  | .fcvtE5S _ f => some (encA 4 23 f)
  | .fcvtSE4 _ f => some (encA 4 24 f)
  | .fcvtSE5 _ f => some (encA 4 25 f)
  | .jmpr _ f => some (encA 5 0 f)
  | .addi _ f => some (encI 8 f)
  | .andi _ f => some (encI 9 f)
  | .ori _ f => some (encI 10 f)
  | .xori _ f => some (encI 11 f)
  | .shi _ f => some (encI 12 f)
  | .cmpi _ f => some (encI 13 f)
  | .cmpiu _ f => some (encI 14 f)
  | .br _ f => some (encB 16 f)
  | .call _ f => some (encB 17 f)
  | .ld _ f => some (encM 20 f)
  | .st _ f => some (encM 21 f)
  | .l _ imm => some (encL imm)
  | .rdtime _ f => some (encT 32 f)
  | .rdctr _ f => some (encT 33 f)
  | .emit _ f => some (encT 34 f)
  | .deq _ f => some (encT 35 f)
  | .peek _ f => some (encT 36 f)
  | .depstat _ f => some (encT 36 f)
  | .scadd _ f => some (encT 37 f)
  | .scwait _ f => some (encT 38 f)
  | .scrd _ f => some (encT 39 f)
  | .atarm _ f => some (encT 40 f)
  | .atcan _ f => some (encT 41 f)
  | .harvest _ f => some (encT 42 f)
  | .seal _ f => some (encT 43 f)
  | .void _ f => some (encT 44 f)
  | .hist _ f => some (encT 45 f)
  | .sketch _ f => some (encT 46 f)
  | .tlaunch _ f => some (encT 47 f)
  | .twait _ f => some (encT 48 f)
  | .mbpost _ f => some (encT 49 f)
  | .fence _ f => some (encT 50 f)
  | .yield _ f => some (encT 51 f)
  | .halt _ f => some (encT 52 f)
  | .trap _ f => some (encT 53 f)
  | _ => none

/-- The context that issues an instruction; none for a command that is no instruction. -/
def issuer : Instr → Option Nat
  | .add c _ => some c
  | .sub c _ => some c
  | .and c _ => some c
  | .or c _ => some c
  | .xor c _ => some c
  | .andn c _ => some c
  | .sll c _ => some c
  | .srl c _ => some c
  | .sra c _ => some c
  | .ror c _ => some c
  | .clz c _ => some c
  | .ctz c _ => some c
  | .popc c _ => some c
  | .min c _ => some c
  | .max c _ => some c
  | .minu c _ => some c
  | .maxu c _ => some c
  | .sext c _ => some c
  | .zext c _ => some c
  | .bswap c _ => some c
  | .mul c _ => some c
  | .mulhu c _ => some c
  | .mulh c _ => some c
  | .divu c _ => some c
  | .remu c _ => some c
  | .div c _ => some c
  | .rem c _ => some c
  | .eq c _ => some c
  | .ne c _ => some c
  | .lt c _ => some c
  | .ge c _ => some c
  | .ltu c _ => some c
  | .geu c _ => some c
  | .tst c _ => some c
  | .tstz c _ => some c
  | .feq c _ => some c
  | .flt c _ => some c
  | .fle c _ => some c
  | .funord c _ => some c
  | .pand c _ => some c
  | .por c _ => some c
  | .pxor c _ => some c
  | .pandn c _ => some c
  | .sel c _ => some c
  | .prd c _ => some c
  | .pwr c _ => some c
  | .fadd c _ => some c
  | .fsub c _ => some c
  | .fmul c _ => some c
  | .ffma c _ => some c
  | .fmin c _ => some c
  | .fmax c _ => some c
  | .fabs c _ => some c
  | .fneg c _ => some c
  | .fcvtSL c _ => some c
  | .fcvtLS c _ => some c
  | .fcvtBfS c _ => some c
  | .fcvtSBf c _ => some c
  | .fcvtE4S c _ => some c
  | .fcvtE5S c _ => some c
  | .fcvtSE4 c _ => some c
  | .fcvtSE5 c _ => some c
  | .jmpr c _ => some c
  | .addi c _ => some c
  | .andi c _ => some c
  | .ori c _ => some c
  | .xori c _ => some c
  | .shi c _ => some c
  | .cmpi c _ => some c
  | .cmpiu c _ => some c
  | .br c _ => some c
  | .call c _ => some c
  | .ld c _ => some c
  | .st c _ => some c
  | .l c _ => some c
  | .rdtime c _ => some c
  | .rdctr c _ => some c
  | .emit c _ => some c
  | .deq c _ => some c
  | .peek c _ => some c
  | .depstat c _ => some c
  | .scadd c _ => some c
  | .scwait c _ => some c
  | .scrd c _ => some c
  | .atarm c _ => some c
  | .atcan c _ => some c
  | .harvest c _ => some c
  | .seal c _ => some c
  | .void c _ => some c
  | .hist c _ => some c
  | .sketch c _ => some c
  | .tlaunch c _ => some c
  | .twait c _ => some c
  | .mbpost c _ => some c
  | .fence c _ => some c
  | .yield c _ => some c
  | .halt c _ => some c
  | .trap c _ => some c
  | _ => none

end Sys2Proof.Machine
end

