-- ==== Sys2Proof/Machine/Regs.lean ====
section
/-! DEFINITION. The register file: every register and register-like array of the window, with the offset, the index ranges,
the fields and the reset values that the register tables of the chapters and the register index (R427) give. -/

namespace Sys2Proof.Machine

/-- Every register (or array of one layout) that the register tables name, under its own name. -/
inductive Reg where
  | MYB_IDENT | MYB_BLKID | MYB_SYSTEN | MYB_CAPS | TB_CTRL | TB_STATUS
  | TB_INCR | TB_LIMITS | TB_POLICY | TB_UPSTREAM | TB_TEN_CMPMODE | TB_REJ
  | TB_SNAP_SHORT | TB_SNAP_RAW | TB_SNAP_HI | TB_SNAP_LO | TB_PRJ_OFS_SEC | TB_PRJ_OFS_NSF
  | TB_PRJ_INCR | TB_PRJ_AT_LO | TB_PRJ_AT_HI | TB_PRJ_CMD | TB_PTP_CFG | TB_RX_PTR
  | TB_TX_POST | TB_TX_STAT | SG_TGT_LO | SG_TGT_HI | SG_CFG | SG_CMD
  | SG_SEL | SG_STAT | SG_COUNT | TB_LANE_ADJ | TB_PORT_TIME | LD_SRC
  | LD_CFG | LD_CMD | LD_STAT | CORE_STAT | TN_CFG | TN_CMD
  | TN_STATUS | TN_CHRY | TN_GATES | TN_CTX_MASK | TN_PORT_MASK | CX_CFG
  | CX_STATUS | CX_PC | CX_TRAP | MB_HDR | MB_DATA | MB_ACK
  | HV_CMD | HV_TGT_LO | HV_TGT_HI | HV_CFG | HV_STAT | HV_TICK
  | HV_STAT2 | HV_DMA | RK_CFG | RK_RING | RK_PTR | RK_STAT
  | AN_TAG | AN_PCFG | RK_LIST | CTR_OVF | HV_OVF | TI_CTRL
  | TI_ADDR | TI_CRCFG | TI_STAT | TI_NOHOME | TI_SEQSEL | TI_SEQVAL
  | HT_ADDR | HT_CRED | HT_STAT | HT_CTL | TS_CTL | TS_CFG
  | TS_STAT | TS_CMD | TS_EMASK | TS_MARK | TS_TIME_LO | TS_TIME_HI
  | TS_PSEL | TS_PROG0 | TS_PROG1 | SC_PART | SC_CMD | SC_FLAGCLR
  | SC_HOSTADD | SC_ERR | SC_TSTAT | SC_RGRANT | SC_WCFG | SC_WTGT
  | SC_WPEND | LG_ADDR | LG_LEN | LG_CFG | LG_TIMING | LG_START_LO
  | LG_START_HI | LG_CMD | LG_STATUS | LG_CURSOR | LG_PBASE_LO | LG_PBASE_HI
  | LG_TSTAT | LG_FAULT | LG_PASSES | LG_PGSEL | LG_PGWORD | LG_GSTAT
  | QM_CFG | QM_POOL | QM_BANK | QM_ERR | QM_CMD | XL_INV
  | QM_QSEL | QM_QCFG | QM_QSTAT | QM_SRCSEL | QM_SRCMAP | QT_LIMIT
  | QT_UNITQ | QT_USE | SP_BASE | SP_SIZE | SP_LEVEL | SP_PEAK
  | XL_BASE | DS_STAT | DS_FAULT | DS_CMD | WN_CFG | WN_GEN
  | WN_CMD | WN_LAST | WN_LASTCNT | WN_STAT | EX_STREAM | EX_DMAC
  | EX_SHED | EX_SHSTAT | EX_CRSTAT | EX_CFG | EX_MAC | EX_PFC
  | EX_GSHED | EX_STAT | EX_PORT | IM_UNIT | IM_TCFG | IM_TSTAT
  | HL_TEN | GV_CFG | GV_SPARE | GV_LEVEL | HM_WADDR | HM_WORK
  | HM_CAD | HM_CTL | LS_CFG | LS_ENT | PR_CTL | PR_PEER
  | PR_CMD | PR_STATUS | PR_OWN | PR_TAKEN | PR_LINK | PR_DELAY
  | PR_TEN | MYB_CTRL | MYB_STATUS | MYB_HOSTERR | MYB_BIST | MYB_BIST_STAT
  | MYB_BIST_CORES | MYB_BIST_BANKS | MYB_BIST_MISC | IRQ_PEND | IRQ_MASK | IRQ_TCAUSE
  | PW_CFG | PW_GRANT | PW_ALLOC | PW_SAMP | PW_SENSE | PW_SENSE2
  | BD_PPS | BD_LTRIM | TN_PAGE | SC_COUNT | SC_EXP | SC_AUX
  | CTR_LIVE | HV_SHADOW | RX_RING | TX_CTL | TX_OFS | TX_CORR_REF
  | TX_STAMP | TX_FRAME | PI_TIME | PI_TEN | PI_LIVE | PI_SOFT
  | SOFT_PAGE
  deriving DecidableEq, Repr

/-- The number of a register in the order of `Reg`; it keys the register file. -/
def Reg.num : Reg → Nat
  | .MYB_IDENT => 0
  | .MYB_BLKID => 1
  | .MYB_SYSTEN => 2
  | .MYB_CAPS => 3
  | .TB_CTRL => 4
  | .TB_STATUS => 5
  | .TB_INCR => 6
  | .TB_LIMITS => 7
  | .TB_POLICY => 8
  | .TB_UPSTREAM => 9
  | .TB_TEN_CMPMODE => 10
  | .TB_REJ => 11
  | .TB_SNAP_SHORT => 12
  | .TB_SNAP_RAW => 13
  | .TB_SNAP_HI => 14
  | .TB_SNAP_LO => 15
  | .TB_PRJ_OFS_SEC => 16
  | .TB_PRJ_OFS_NSF => 17
  | .TB_PRJ_INCR => 18
  | .TB_PRJ_AT_LO => 19
  | .TB_PRJ_AT_HI => 20
  | .TB_PRJ_CMD => 21
  | .TB_PTP_CFG => 22
  | .TB_RX_PTR => 23
  | .TB_TX_POST => 24
  | .TB_TX_STAT => 25
  | .SG_TGT_LO => 26
  | .SG_TGT_HI => 27
  | .SG_CFG => 28
  | .SG_CMD => 29
  | .SG_SEL => 30
  | .SG_STAT => 31
  | .SG_COUNT => 32
  | .TB_LANE_ADJ => 33
  | .TB_PORT_TIME => 34
  | .LD_SRC => 35
  | .LD_CFG => 36
  | .LD_CMD => 37
  | .LD_STAT => 38
  | .CORE_STAT => 39
  | .TN_CFG => 40
  | .TN_CMD => 41
  | .TN_STATUS => 42
  | .TN_CHRY => 43
  | .TN_GATES => 44
  | .TN_CTX_MASK => 45
  | .TN_PORT_MASK => 46
  | .CX_CFG => 47
  | .CX_STATUS => 48
  | .CX_PC => 49
  | .CX_TRAP => 50
  | .MB_HDR => 51
  | .MB_DATA => 52
  | .MB_ACK => 53
  | .HV_CMD => 54
  | .HV_TGT_LO => 55
  | .HV_TGT_HI => 56
  | .HV_CFG => 57
  | .HV_STAT => 58
  | .HV_TICK => 59
  | .HV_STAT2 => 60
  | .HV_DMA => 61
  | .RK_CFG => 62
  | .RK_RING => 63
  | .RK_PTR => 64
  | .RK_STAT => 65
  | .AN_TAG => 66
  | .AN_PCFG => 67
  | .RK_LIST => 68
  | .CTR_OVF => 69
  | .HV_OVF => 70
  | .TI_CTRL => 71
  | .TI_ADDR => 72
  | .TI_CRCFG => 73
  | .TI_STAT => 74
  | .TI_NOHOME => 75
  | .TI_SEQSEL => 76
  | .TI_SEQVAL => 77
  | .HT_ADDR => 78
  | .HT_CRED => 79
  | .HT_STAT => 80
  | .HT_CTL => 81
  | .TS_CTL => 82
  | .TS_CFG => 83
  | .TS_STAT => 84
  | .TS_CMD => 85
  | .TS_EMASK => 86
  | .TS_MARK => 87
  | .TS_TIME_LO => 88
  | .TS_TIME_HI => 89
  | .TS_PSEL => 90
  | .TS_PROG0 => 91
  | .TS_PROG1 => 92
  | .SC_PART => 93
  | .SC_CMD => 94
  | .SC_FLAGCLR => 95
  | .SC_HOSTADD => 96
  | .SC_ERR => 97
  | .SC_TSTAT => 98
  | .SC_RGRANT => 99
  | .SC_WCFG => 100
  | .SC_WTGT => 101
  | .SC_WPEND => 102
  | .LG_ADDR => 103
  | .LG_LEN => 104
  | .LG_CFG => 105
  | .LG_TIMING => 106
  | .LG_START_LO => 107
  | .LG_START_HI => 108
  | .LG_CMD => 109
  | .LG_STATUS => 110
  | .LG_CURSOR => 111
  | .LG_PBASE_LO => 112
  | .LG_PBASE_HI => 113
  | .LG_TSTAT => 114
  | .LG_FAULT => 115
  | .LG_PASSES => 116
  | .LG_PGSEL => 117
  | .LG_PGWORD => 118
  | .LG_GSTAT => 119
  | .QM_CFG => 120
  | .QM_POOL => 121
  | .QM_BANK => 122
  | .QM_ERR => 123
  | .QM_CMD => 124
  | .XL_INV => 125
  | .QM_QSEL => 126
  | .QM_QCFG => 127
  | .QM_QSTAT => 128
  | .QM_SRCSEL => 129
  | .QM_SRCMAP => 130
  | .QT_LIMIT => 131
  | .QT_UNITQ => 132
  | .QT_USE => 133
  | .SP_BASE => 134
  | .SP_SIZE => 135
  | .SP_LEVEL => 136
  | .SP_PEAK => 137
  | .XL_BASE => 138
  | .DS_STAT => 139
  | .DS_FAULT => 140
  | .DS_CMD => 141
  | .WN_CFG => 142
  | .WN_GEN => 143
  | .WN_CMD => 144
  | .WN_LAST => 145
  | .WN_LASTCNT => 146
  | .WN_STAT => 147
  | .EX_STREAM => 148
  | .EX_DMAC => 149
  | .EX_SHED => 150
  | .EX_SHSTAT => 151
  | .EX_CRSTAT => 152
  | .EX_CFG => 153
  | .EX_MAC => 154
  | .EX_PFC => 155
  | .EX_GSHED => 156
  | .EX_STAT => 157
  | .EX_PORT => 158
  | .IM_UNIT => 159
  | .IM_TCFG => 160
  | .IM_TSTAT => 161
  | .HL_TEN => 162
  | .GV_CFG => 163
  | .GV_SPARE => 164
  | .GV_LEVEL => 165
  | .HM_WADDR => 166
  | .HM_WORK => 167
  | .HM_CAD => 168
  | .HM_CTL => 169
  | .LS_CFG => 170
  | .LS_ENT => 171
  | .PR_CTL => 172
  | .PR_PEER => 173
  | .PR_CMD => 174
  | .PR_STATUS => 175
  | .PR_OWN => 176
  | .PR_TAKEN => 177
  | .PR_LINK => 178
  | .PR_DELAY => 179
  | .PR_TEN => 180
  | .MYB_CTRL => 181
  | .MYB_STATUS => 182
  | .MYB_HOSTERR => 183
  | .MYB_BIST => 184
  | .MYB_BIST_STAT => 185
  | .MYB_BIST_CORES => 186
  | .MYB_BIST_BANKS => 187
  | .MYB_BIST_MISC => 188
  | .IRQ_PEND => 189
  | .IRQ_MASK => 190
  | .IRQ_TCAUSE => 191
  | .PW_CFG => 192
  | .PW_GRANT => 193
  | .PW_ALLOC => 194
  | .PW_SAMP => 195
  | .PW_SENSE => 196
  | .PW_SENSE2 => 197
  | .BD_PPS => 198
  | .BD_LTRIM => 199
  | .TN_PAGE => 200
  | .SC_COUNT => 201
  | .SC_EXP => 202
  | .SC_AUX => 203
  | .CTR_LIVE => 204
  | .HV_SHADOW => 205
  | .RX_RING => 206
  | .TX_CTL => 207
  | .TX_OFS => 208
  | .TX_CORR_REF => 209
  | .TX_STAMP => 210
  | .TX_FRAME => 211
  | .PI_TIME => 212
  | .PI_TEN => 213
  | .PI_LIVE => 214
  | .PI_SOFT => 215
  | .SOFT_PAGE => 216

/-- Access types of R8. -/
inductive Access where
  | ro | rw | wo | w1c | w1s | wlk
  deriving DecidableEq, Repr

/-- One field of a register: bits `hi` down to `lo` (R6), its access type (R8), its reset value and the value ranges that its
table marks reserved (R10). -/
structure FieldDesc where
  hi : Nat
  lo : Nat
  acc : Access
  reset : Nat := 0
  res : List (Nat × Nat) := []
  deriving DecidableEq, Repr

/-- The fields of each register. Bits in no listed field are reserved: they read zero and writes to them are discarded (R9). -/
def Reg.fields : Reg → List FieldDesc
  | .MYB_IDENT => [⟨63, 48, .ro, 19289, []⟩, ⟨47, 32, .ro, 19716, []⟩, ⟨31, 24, .ro, 0, []⟩, ⟨23, 16, .ro, 1, []⟩]
  | .MYB_BLKID => [⟨63, 63, .w1s, 0, []⟩, ⟨15, 0, .wlk, 0, []⟩]
  | .MYB_SYSTEN => [⟨5, 0, .rw, 0, []⟩]
  | .MYB_CAPS => [⟨63, 56, .ro, 64, []⟩, ⟨55, 52, .ro, 4, []⟩, ⟨51, 44, .ro, 64, []⟩, ⟨43, 40, .ro, 8, []⟩, ⟨39, 38, .ro, 2, []⟩]
  | .TB_CTRL => [⟨63, 63, .w1s, 0, []⟩, ⟨62, 62, .wlk, 0, []⟩, ⟨61, 61, .rw, 0, []⟩, ⟨60, 60, .wo, 0, []⟩, ⟨59, 59, .wo, 0, []⟩, ⟨2, 0, .rw, 0, [(3, 7)]⟩]
  | .TB_STATUS => [⟨63, 48, .ro, 0, []⟩, ⟨47, 47, .ro, 0, []⟩, ⟨46, 46, .ro, 0, []⟩, ⟨45, 45, .ro, 0, []⟩, ⟨44, 44, .ro, 0, []⟩, ⟨40, 32, .ro, 0, []⟩, ⟨31, 16, .ro, 0, []⟩, ⟨15, 0, .ro, 0, []⟩]
  | .TB_INCR => [⟨47, 0, .rw, 703687441777, []⟩]
  | .TB_LIMITS => [⟨57, 48, .rw, 200, []⟩, ⟨47, 0, .rw, 703687441777, []⟩]
  | .TB_POLICY => [⟨63, 32, .rw, 1000, []⟩, ⟨15, 0, .rw, 1000, []⟩]
  | .TB_UPSTREAM => [⟨63, 63, .rw, 0, []⟩, ⟨62, 62, .rw, 0, []⟩, ⟨24, 16, .rw, 0, []⟩, ⟨8, 0, .rw, 0, []⟩]
  | .TB_TEN_CMPMODE => [⟨63, 0, .rw, 0, []⟩]
  | .TB_REJ => [⟨63, 63, .w1c, 0, []⟩, ⟨47, 32, .ro, 0, []⟩, ⟨7, 0, .ro, 0, []⟩]
  | .TB_SNAP_SHORT => [⟨63, 0, .ro, 0, []⟩]
  | .TB_SNAP_RAW => [⟨63, 0, .ro, 0, []⟩]
  | .TB_SNAP_HI => [⟨63, 48, .ro, 0, []⟩, ⟨47, 0, .ro, 0, []⟩]
  | .TB_SNAP_LO => [⟨63, 48, .ro, 0, []⟩, ⟨47, 16, .ro, 0, []⟩, ⟨15, 0, .ro, 0, []⟩]
  | .TB_PRJ_OFS_SEC => [⟨47, 0, .rw, 0, []⟩]
  | .TB_PRJ_OFS_NSF => [⟨63, 34, .rw, 0, []⟩, ⟨33, 0, .rw, 0, []⟩]
  | .TB_PRJ_INCR => [⟨47, 0, .rw, 703687441777, []⟩]
  | .TB_PRJ_AT_LO => [⟨63, 0, .rw, 0, []⟩]
  | .TB_PRJ_AT_HI => [⟨15, 0, .rw, 0, []⟩]
  | .TB_PRJ_CMD => [⟨63, 63, .wo, 0, []⟩, ⟨62, 62, .wo, 0, []⟩, ⟨61, 61, .wo, 0, []⟩, ⟨15, 0, .wo, 0, []⟩]
  | .TB_PTP_CFG => [⟨63, 63, .rw, 0, []⟩, ⟨7, 0, .rw, 0, []⟩]
  | .TB_RX_PTR => [⟨63, 48, .ro, 0, []⟩, ⟨47, 32, .ro, 0, []⟩, ⟨15, 8, .ro, 0, []⟩, ⟨7, 0, .rw, 0, []⟩]
  | .TB_TX_POST => [⟨63, 63, .wo, 0, []⟩, ⟨62, 62, .wo, 0, []⟩, ⟨6, 0, .wo, 0, []⟩]
  | .TB_TX_STAT => [⟨63, 32, .ro, 0, []⟩, ⟨31, 16, .ro, 0, []⟩]
  | .SG_TGT_LO => [⟨63, 0, .rw, 0, []⟩]
  | .SG_TGT_HI => [⟨47, 0, .rw, 0, []⟩]
  | .SG_CFG => [⟨63, 62, .rw, 0, [(3, 3)]⟩, ⟨61, 61, .rw, 0, []⟩, ⟨60, 58, .rw, 0, [(4, 7)]⟩, ⟨57, 52, .rw, 0, []⟩, ⟨50, 48, .rw, 0, []⟩, ⟨47, 39, .rw, 0, []⟩, ⟨38, 32, .rw, 0, []⟩, ⟨31, 16, .rw, 0, []⟩, ⟨15, 0, .rw, 0, []⟩]
  | .SG_CMD => [⟨63, 63, .wo, 0, []⟩, ⟨62, 62, .wo, 0, []⟩, ⟨11, 0, .wo, 0, []⟩]
  | .SG_SEL => [⟨11, 0, .rw, 0, []⟩]
  | .SG_STAT => [⟨63, 61, .ro, 0, []⟩, ⟨60, 60, .ro, 0, []⟩, ⟨47, 32, .ro, 0, []⟩, ⟨31, 0, .ro, 0, []⟩]
  | .SG_COUNT => [⟨63, 32, .ro, 0, []⟩, ⟨31, 0, .ro, 0, []⟩]
  | .TB_LANE_ADJ => [⟨63, 56, .rw, 0, []⟩, ⟨47, 24, .rw, 0, []⟩, ⟨23, 0, .rw, 0, []⟩]
  | .TB_PORT_TIME => [⟨63, 48, .ro, 0, []⟩, ⟨47, 44, .ro, 0, []⟩, ⟨43, 43, .rw, 0, []⟩, ⟨42, 42, .ro, 0, []⟩, ⟨31, 0, .rw, 0, []⟩]
  | .LD_SRC => [⟨47, 0, .rw, 0, []⟩]
  | .LD_CFG => [⟨63, 63, .rw, 0, []⟩, ⟨61, 56, .rw, 0, []⟩, ⟨55, 52, .rw, 0, []⟩, ⟨51, 46, .rw, 0, []⟩]
  | .LD_CMD => [⟨63, 63, .wo, 0, []⟩, ⟨62, 62, .wo, 0, []⟩, ⟨61, 61, .wo, 0, []⟩]
  | .LD_STAT => [⟨63, 63, .ro, 0, []⟩, ⟨62, 62, .w1c, 0, []⟩, ⟨61, 61, .ro, 0, []⟩, ⟨55, 48, .ro, 0, []⟩, ⟨47, 0, .ro, 0, []⟩]
  | .CORE_STAT => [⟨63, 63, .ro, 0, []⟩, ⟨47, 32, .ro, 1500, []⟩, ⟨31, 0, .ro, 0, []⟩]
  | .TN_CFG => [⟨63, 63, .rw, 0, []⟩, ⟨62, 62, .rw, 0, []⟩, ⟨59, 56, .rw, 0, []⟩, ⟨55, 48, .rw, 0, []⟩]
  | .TN_CMD => [⟨4, 4, .wo, 0, []⟩, ⟨3, 0, .wo, 0, [(0, 0), (7, 15)]⟩]
  | .TN_STATUS => [⟨63, 61, .ro, 0, []⟩, ⟨60, 60, .w1c, 0, []⟩, ⟨59, 59, .ro, 0, []⟩, ⟨58, 58, .ro, 0, []⟩, ⟨55, 48, .ro, 0, []⟩, ⟨47, 0, .ro, 0, []⟩]
  | .TN_CHRY => [⟨63, 48, .rw, 0, []⟩, ⟨47, 16, .rw, 0, []⟩]
  | .TN_GATES => [⟨28, 16, .rw, 0, []⟩, ⟨11, 0, .rw, 0, []⟩]
  | .TN_CTX_MASK => [⟨63, 0, .rw, 0, []⟩]
  | .TN_PORT_MASK => [⟨63, 0, .rw, 0, []⟩]
  | .CX_CFG => [⟨63, 63, .rw, 0, []⟩, ⟨47, 42, .rw, 0, []⟩, ⟨41, 35, .rw, 16, [(0, 0), (65, 127)]⟩, ⟨34, 30, .rw, 0, []⟩, ⟨29, 24, .rw, 8, [(0, 0), (33, 63)]⟩]
  | .CX_STATUS => [⟨63, 60, .ro, 0, []⟩, ⟨59, 57, .ro, 0, []⟩, ⟨56, 56, .ro, 0, []⟩, ⟨55, 55, .ro, 0, []⟩, ⟨54, 54, .ro, 0, []⟩, ⟨53, 48, .ro, 0, []⟩, ⟨47, 16, .ro, 0, []⟩]
  | .CX_PC => [⟨16, 0, .ro, 0, []⟩]
  | .CX_TRAP => [⟨63, 48, .ro, 0, []⟩, ⟨47, 0, .ro, 0, []⟩]
  | .MB_HDR => [⟨63, 63, .ro, 0, []⟩, ⟨62, 62, .ro, 0, []⟩, ⟨55, 48, .ro, 0, []⟩, ⟨47, 40, .ro, 0, []⟩, ⟨39, 32, .ro, 0, []⟩, ⟨31, 0, .ro, 0, []⟩]
  | .MB_DATA => [⟨63, 0, .ro, 0, []⟩]
  | .MB_ACK => [⟨63, 63, .wo, 0, []⟩, ⟨31, 0, .wo, 0, []⟩]
  | .HV_CMD => [⟨63, 63, .wo, 0, []⟩, ⟨62, 62, .wo, 0, []⟩, ⟨61, 60, .wo, 0, [(3, 3)]⟩]
  | .HV_TGT_LO => [⟨63, 0, .rw, 0, []⟩]
  | .HV_TGT_HI => [⟨47, 0, .rw, 0, []⟩]
  | .HV_CFG => [⟨63, 63, .rw, 0, []⟩, ⟨62, 62, .rw, 0, []⟩, ⟨61, 61, .rw, 0, []⟩]
  | .HV_STAT => [⟨63, 32, .ro, 0, []⟩, ⟨31, 0, .ro, 0, []⟩]
  | .HV_TICK => [⟨63, 0, .ro, 0, []⟩]
  | .HV_STAT2 => [⟨63, 32, .ro, 0, []⟩, ⟨31, 28, .ro, 0, []⟩, ⟨27, 27, .ro, 0, []⟩, ⟨26, 26, .ro, 0, []⟩, ⟨15, 8, .ro, 0, []⟩, ⟨7, 0, .ro, 0, []⟩]
  | .HV_DMA => [⟨47, 0, .rw, 0, []⟩]
  | .RK_CFG => [⟨63, 63, .rw, 0, []⟩, ⟨62, 62, .rw, 0, []⟩, ⟨61, 61, .rw, 0, []⟩, ⟨47, 32, .rw, 1000, [(0, 0)]⟩, ⟨12, 0, .rw, 0, [(0, 0), (4097, 8191)]⟩]
  | .RK_RING => [⟨63, 48, .rw, 0, []⟩, ⟨47, 16, .rw, 0, []⟩]
  | .RK_PTR => [⟨63, 32, .ro, 0, []⟩, ⟨31, 0, .rw, 0, []⟩]
  | .RK_STAT => [⟨63, 32, .ro, 0, []⟩, ⟨31, 16, .ro, 0, []⟩]
  | .AN_TAG => [⟨63, 63, .rw, 0, []⟩, ⟨60, 56, .rw, 12, [(0, 5), (25, 31)]⟩, ⟨31, 0, .rw, 0, [(0, 0)]⟩]
  | .AN_PCFG => [⟨63, 63, .rw, 0, []⟩, ⟨62, 62, .rw, 0, []⟩, ⟨61, 57, .rw, 10, [(0, 5), (21, 31)]⟩, ⟨56, 56, .rw, 0, []⟩, ⟨55, 52, .rw, 10, [(0, 3)]⟩]
  | .RK_LIST => [⟨63, 48, .rw, 0, [(36864, 65535)]⟩, ⟨47, 32, .rw, 0, [(36864, 65535)]⟩, ⟨31, 16, .rw, 0, [(36864, 65535)]⟩, ⟨15, 0, .rw, 0, [(36864, 65535)]⟩]
  | .CTR_OVF => [⟨63, 0, .w1c, 0, []⟩]
  | .HV_OVF => [⟨63, 0, .ro, 0, []⟩]
  | .TI_CTRL => [⟨63, 63, .rw, 0, []⟩]
  | .TI_ADDR => [⟨47, 0, .rw, 0, []⟩]
  | .TI_CRCFG => [⟨47, 32, .rw, 2000, [(2001, 65535)]⟩, ⟨31, 24, .rw, 32, []⟩, ⟨23, 16, .rw, 64, [(0, 0)]⟩]
  | .TI_STAT => [⟨63, 52, .ro, 0, []⟩, ⟨51, 40, .ro, 0, []⟩, ⟨39, 28, .ro, 0, []⟩, ⟨27, 16, .ro, 0, []⟩, ⟨15, 0, .ro, 0, []⟩]
  | .TI_NOHOME => [⟨47, 0, .ro, 0, []⟩]
  | .TI_SEQSEL => [⟨14, 0, .rw, 0, []⟩]
  | .TI_SEQVAL => [⟨63, 63, .ro, 0, []⟩, ⟨27, 0, .ro, 0, []⟩]
  | .HT_ADDR => [⟨63, 63, .rw, 0, []⟩, ⟨61, 56, .rw, 0, []⟩, ⟨47, 7, .rw, 0, []⟩]
  | .HT_CRED => [⟨63, 48, .ro, 0, []⟩, ⟨47, 32, .rw, 384, [(0, 127)]⟩, ⟨15, 0, .rw, 7, []⟩]
  | .HT_STAT => [⟨63, 32, .ro, 0, []⟩, ⟨31, 0, .ro, 0, []⟩]
  | .HT_CTL => [⟨63, 48, .ro, 0, []⟩, ⟨47, 32, .ro, 0, []⟩, ⟨31, 16, .ro, 0, []⟩, ⟨2, 0, .ro, 0, []⟩]
  | .TS_CTL => [⟨63, 63, .rw, 0, []⟩, ⟨59, 56, .rw, 0, []⟩]
  | .TS_CFG => [⟨63, 48, .rw, 20, []⟩, ⟨33, 32, .rw, 3, []⟩, ⟨1, 0, .rw, 0, [(3, 3)]⟩]
  | .TS_STAT => [⟨63, 62, .ro, 0, []⟩, ⟨61, 58, .ro, 0, []⟩, ⟨57, 54, .ro, 0, []⟩, ⟨53, 52, .ro, 0, []⟩, ⟨51, 51, .ro, 0, []⟩, ⟨50, 50, .w1c, 0, []⟩, ⟨49, 46, .ro, 0, []⟩, ⟨31, 0, .ro, 0, []⟩]
  | .TS_CMD => [⟨63, 63, .wo, 0, []⟩, ⟨62, 62, .wo, 0, []⟩, ⟨61, 57, .wo, 0, []⟩, ⟨51, 48, .wo, 0, []⟩]
  | .TS_EMASK => [⟨63, 0, .rw, 18446744073709551615, []⟩]
  | .TS_MARK => [⟨15, 0, .rw, 1, []⟩]
  | .TS_TIME_LO => [⟨63, 0, .rw, 0, []⟩]
  | .TS_TIME_HI => [⟨47, 0, .rw, 0, []⟩]
  | .TS_PSEL => [⟨5, 0, .rw, 0, []⟩]
  | .TS_PROG0 => [⟨63, 61, .rw, 0, [(7, 7)]⟩, ⟨60, 56, .rw, 0, []⟩, ⟨55, 52, .rw, 0, []⟩, ⟨51, 50, .rw, 0, [(3, 3)]⟩, ⟨49, 49, .rw, 0, []⟩, ⟨47, 0, .rw, 0, []⟩]
  | .TS_PROG1 => [⟨63, 0, .rw, 0, []⟩]
  | .SC_PART => [⟨46, 32, .rw, 0, []⟩, ⟨13, 0, .rw, 0, []⟩]
  | .SC_CMD => [⟨63, 63, .wo, 0, []⟩, ⟨5, 0, .wo, 0, []⟩]
  | .SC_FLAGCLR => [⟨61, 61, .wo, 0, []⟩, ⟨60, 60, .wo, 0, []⟩, ⟨59, 59, .wo, 0, []⟩, ⟨58, 58, .wo, 0, []⟩, ⟨13, 0, .wo, 0, []⟩]
  | .SC_HOSTADD => [⟨61, 48, .wo, 0, []⟩, ⟨47, 0, .wo, 0, []⟩]
  | .SC_ERR => [⟨63, 48, .ro, 0, []⟩, ⟨47, 32, .ro, 0, []⟩, ⟨31, 16, .ro, 0, []⟩]
  | .SC_TSTAT => [⟨63, 63, .w1c, 0, []⟩, ⟨62, 62, .ro, 0, []⟩, ⟨61, 61, .ro, 0, []⟩, ⟨47, 32, .ro, 0, []⟩, ⟨31, 0, .ro, 0, []⟩]
  | .SC_RGRANT => [⟨63, 63, .rw, 0, []⟩, ⟨61, 56, .rw, 0, []⟩, ⟨46, 32, .rw, 0, []⟩, ⟨13, 0, .rw, 0, []⟩]
  | .SC_WCFG => [⟨63, 63, .wo, 0, []⟩, ⟨62, 62, .wo, 0, []⟩, ⟨61, 60, .ro, 0, []⟩, ⟨13, 0, .rw, 0, []⟩]
  | .SC_WTGT => [⟨47, 0, .rw, 0, []⟩]
  | .SC_WPEND => [⟨63, 0, .w1c, 0, []⟩]
  | .LG_ADDR => [⟨47, 0, .rw, 0, []⟩]
  | .LG_LEN => [⟨52, 32, .rw, 0, []⟩, ⟨21, 0, .rw, 0, []⟩]
  | .LG_CFG => [⟨63, 48, .rw, 0, []⟩, ⟨44, 32, .rw, 64, []⟩, ⟨27, 16, .rw, 16, []⟩, ⟨15, 15, .rw, 1, []⟩, ⟨14, 14, .rw, 1, []⟩, ⟨7, 0, .rw, 16, []⟩]
  | .LG_TIMING => [⟨63, 32, .rw, 1000, []⟩, ⟨31, 16, .rw, 10, []⟩, ⟨15, 0, .rw, 1000, []⟩]
  | .LG_START_LO => [⟨63, 0, .rw, 0, []⟩]
  | .LG_START_HI => [⟨47, 0, .rw, 0, []⟩]
  | .LG_CMD => [⟨63, 60, .wo, 0, [(0, 0), (6, 15)]⟩, ⟨59, 59, .wo, 0, []⟩, ⟨58, 58, .wo, 0, []⟩, ⟨57, 57, .wo, 0, []⟩]
  | .LG_STATUS => [⟨63, 61, .ro, 0, []⟩, ⟨60, 60, .w1c, 0, []⟩, ⟨59, 59, .ro, 0, []⟩, ⟨58, 58, .ro, 0, []⟩, ⟨55, 48, .ro, 0, []⟩, ⟨12, 0, .ro, 0, []⟩]
  | .LG_CURSOR => [⟨63, 32, .rw, 0, []⟩, ⟨20, 0, .rw, 0, []⟩]
  | .LG_PBASE_LO => [⟨63, 0, .rw, 0, []⟩]
  | .LG_PBASE_HI => [⟨63, 48, .rw, 0, []⟩, ⟨47, 0, .rw, 0, []⟩]
  | .LG_TSTAT => [⟨63, 48, .ro, 0, []⟩, ⟨47, 32, .ro, 0, []⟩, ⟨31, 16, .ro, 0, []⟩, ⟨15, 0, .ro, 0, []⟩]
  | .LG_FAULT => [⟨63, 56, .ro, 0, []⟩, ⟨20, 0, .ro, 0, []⟩]
  | .LG_PASSES => [⟨31, 0, .rw, 0, []⟩]
  | .LG_PGSEL => [⟨11, 0, .rw, 0, []⟩]
  | .LG_PGWORD => [⟨63, 0, .rw, 0, []⟩]
  | .LG_GSTAT => [⟨63, 32, .ro, 0, []⟩, ⟨12, 0, .ro, 0, []⟩]
  | .QM_CFG => [⟨50, 32, .rw, 1024, []⟩]
  | .QM_POOL => [⟨63, 55, .ro, 0, []⟩, ⟨50, 32, .ro, 262144, []⟩, ⟨18, 0, .ro, 262144, []⟩]
  | .QM_BANK => [⟨63, 0, .w1s, 0, []⟩]
  | .QM_ERR => [⟨63, 48, .ro, 0, []⟩, ⟨47, 32, .ro, 0, []⟩, ⟨31, 16, .ro, 0, []⟩]
  | .QM_CMD => [⟨63, 60, .wo, 0, [(0, 0), (4, 15)]⟩, ⟨14, 0, .wo, 0, []⟩]
  | .XL_INV => [⟨63, 63, .wo, 0, []⟩, ⟨62, 62, .wo, 0, []⟩, ⟨61, 56, .wo, 0, []⟩, ⟨47, 16, .wo, 0, []⟩, ⟨0, 0, .ro, 0, []⟩]
  | .QM_QSEL => [⟨14, 0, .rw, 0, []⟩]
  | .QM_QCFG => [⟨63, 63, .rw, 1, []⟩, ⟨61, 56, .rw, 0, []⟩, ⟨55, 55, .rw, 1, []⟩, ⟨54, 54, .rw, 0, []⟩, ⟨53, 53, .rw, 0, []⟩, ⟨52, 52, .rw, 0, []⟩, ⟨51, 51, .rw, 0, []⟩, ⟨50, 32, .rw, 0, []⟩]
  | .QM_QSTAT => [⟨63, 63, .w1c, 0, []⟩, ⟨62, 62, .w1c, 0, []⟩, ⟨61, 61, .ro, 0, []⟩, ⟨60, 60, .ro, 0, []⟩, ⟨59, 56, .ro, 0, []⟩, ⟨55, 32, .ro, 0, []⟩, ⟨31, 13, .ro, 0, []⟩]
  | .QM_SRCSEL => [⟨15, 0, .rw, 0, [(33536, 65535)]⟩]
  | .QM_SRCMAP => [⟨63, 63, .rw, 0, []⟩, ⟨14, 0, .rw, 0, []⟩]
  | .QT_LIMIT => [⟨63, 60, .rw, 2, [(0, 0)]⟩, ⟨56, 38, .rw, 4096, []⟩, ⟨37, 19, .rw, 3072, []⟩, ⟨18, 0, .rw, 2048, []⟩]
  | .QT_UNITQ => [⟨63, 48, .rw, 0, []⟩, ⟨47, 32, .rw, 0, []⟩, ⟨31, 16, .rw, 0, []⟩, ⟨15, 0, .rw, 0, []⟩]
  | .QT_USE => [⟨63, 63, .ro, 0, []⟩, ⟨50, 32, .ro, 0, []⟩, ⟨31, 0, .ro, 0, []⟩]
  | .SP_BASE => [⟨47, 16, .rw, 0, []⟩]
  | .SP_SIZE => [⟨63, 63, .rw, 0, []⟩, ⟨61, 32, .rw, 0, []⟩, ⟨29, 0, .rw, 0, []⟩]
  | .SP_LEVEL => [⟨63, 63, .w1c, 0, []⟩, ⟨62, 62, .ro, 0, []⟩, ⟨29, 0, .ro, 0, []⟩]
  | .SP_PEAK => [⟨63, 63, .wo, 0, []⟩, ⟨29, 0, .ro, 0, []⟩]
  | .XL_BASE => [⟨63, 63, .rw, 0, []⟩, ⟨62, 62, .rw, 0, []⟩, ⟨51, 16, .rw, 0, []⟩]
  | .DS_STAT => [⟨63, 62, .ro, 0, []⟩, ⟨55, 48, .ro, 0, []⟩, ⟨47, 0, .ro, 0, []⟩]
  | .DS_FAULT => [⟨63, 56, .ro, 0, []⟩, ⟨47, 0, .ro, 0, []⟩]
  | .DS_CMD => [⟨63, 63, .wo, 0, []⟩, ⟨62, 62, .wo, 0, []⟩]
  | .WN_CFG => [⟨63, 63, .rw, 0, []⟩, ⟨62, 62, .rw, 0, []⟩, ⟨61, 60, .rw, 0, [(3, 3)]⟩, ⟨59, 58, .rw, 0, [(3, 3)]⟩, ⟨57, 53, .rw, 10, [(0, 3), (25, 31)]⟩, ⟨52, 48, .rw, 20, [(0, 3), (25, 31)]⟩]
  | .WN_GEN => [⟨63, 32, .ro, 0, []⟩, ⟨31, 0, .rw, 1, [(0, 0)]⟩]
  | .WN_CMD => [⟨63, 63, .wo, 0, []⟩, ⟨62, 62, .wo, 0, []⟩, ⟨31, 0, .wo, 0, []⟩]
  | .WN_LAST => [⟨63, 56, .ro, 0, []⟩, ⟨31, 0, .ro, 0, []⟩]
  | .WN_LASTCNT => [⟨63, 32, .ro, 0, []⟩, ⟨31, 0, .ro, 0, []⟩]
  | .WN_STAT => [⟨63, 62, .ro, 0, []⟩, ⟨47, 32, .ro, 0, []⟩, ⟨31, 16, .ro, 0, []⟩]
  | .EX_STREAM => [⟨63, 63, .rw, 0, []⟩, ⟨62, 62, .rw, 0, []⟩, ⟨61, 60, .rw, 0, []⟩, ⟨59, 59, .rw, 0, []⟩, ⟨58, 57, .rw, 0, []⟩, ⟨51, 48, .rw, 1, [(0, 0)]⟩, ⟨43, 32, .rw, 0, []⟩, ⟨15, 0, .rw, 0, []⟩]
  | .EX_DMAC => [⟨47, 0, .rw, 0, []⟩]
  | .EX_SHED => [⟨63, 56, .rw, 128, []⟩, ⟨55, 48, .rw, 192, []⟩, ⟨47, 40, .rw, 16, []⟩, ⟨39, 36, .rw, 8, [(9, 15)]⟩, ⟨15, 0, .rw, 100, []⟩]
  | .EX_SHSTAT => [⟨63, 63, .ro, 0, []⟩, ⟨62, 59, .ro, 0, []⟩, ⟨55, 48, .ro, 0, []⟩, ⟨47, 0, .ro, 0, []⟩]
  | .EX_CRSTAT => [⟨63, 63, .ro, 0, []⟩, ⟨62, 62, .ro, 0, []⟩, ⟨61, 61, .ro, 0, []⟩, ⟨47, 32, .ro, 65535, []⟩, ⟨31, 16, .ro, 65535, []⟩, ⟨15, 0, .ro, 65535, []⟩]
  | .EX_CFG => [⟨63, 63, .rw, 0, []⟩, ⟨62, 61, .rw, 0, [(3, 3)]⟩, ⟨55, 48, .rw, 2, [(21, 255)]⟩, ⟨47, 32, .rw, 1000, []⟩, ⟨31, 16, .rw, 100, []⟩]
  | .EX_MAC => [⟨47, 0, .rw, 0, []⟩]
  | .EX_PFC => [⟨63, 63, .rw, 1, []⟩, ⟨11, 9, .rw, 4, []⟩, ⟨8, 6, .rw, 5, []⟩, ⟨5, 3, .rw, 6, []⟩, ⟨2, 0, .rw, 7, []⟩]
  | .EX_GSHED => [⟨50, 32, .rw, 16384, []⟩, ⟨18, 0, .rw, 8192, []⟩]
  | .EX_STAT => [⟨63, 48, .ro, 0, []⟩, ⟨47, 32, .ro, 0, []⟩, ⟨31, 16, .ro, 0, []⟩]
  | .EX_PORT => [⟨63, 61, .ro, 0, []⟩, ⟨60, 58, .ro, 0, []⟩, ⟨55, 48, .ro, 0, []⟩, ⟨47, 40, .ro, 0, []⟩, ⟨31, 0, .ro, 0, []⟩]
  | .IM_UNIT => [⟨63, 63, .ro, 0, []⟩, ⟨62, 62, .ro, 0, []⟩, ⟨61, 56, .ro, 0, []⟩, ⟨47, 32, .ro, 1600, []⟩, ⟨31, 0, .ro, 0, []⟩]
  | .IM_TCFG => [⟨63, 60, .rw, 0, []⟩, ⟨59, 52, .rw, 0, []⟩, ⟨51, 43, .rw, 0, []⟩, ⟨42, 34, .rw, 0, []⟩]
  | .IM_TSTAT => [⟨63, 59, .ro, 0, []⟩, ⟨47, 32, .ro, 0, []⟩, ⟨31, 0, .ro, 0, []⟩]
  | .HL_TEN => [⟨63, 63, .rw, 0, []⟩, ⟨62, 62, .rw, 0, []⟩, ⟨47, 32, .ro, 0, []⟩, ⟨31, 16, .ro, 0, []⟩]
  | .GV_CFG => [⟨63, 56, .rw, 4, []⟩, ⟨55, 40, .rw, 1, []⟩, ⟨31, 16, .rw, 3600, [(0, 0)]⟩]
  | .GV_SPARE => [⟨63, 48, .rw, 0, []⟩, ⟨47, 24, .ro, 0, []⟩, ⟨23, 0, .ro, 0, []⟩]
  | .GV_LEVEL => [⟨39, 0, .rw, 0, []⟩]
  | .HM_WADDR => [⟨47, 16, .rw, 0, []⟩]
  | .HM_WORK => [⟨63, 44, .rw, 0, []⟩, ⟨43, 0, .rw, 0, []⟩]
  | .HM_CAD => [⟨63, 32, .rw, 0, []⟩, ⟨31, 0, .rw, 0, []⟩]
  | .HM_CTL => [⟨63, 63, .wo, 0, []⟩, ⟨62, 62, .wo, 0, []⟩, ⟨61, 59, .ro, 0, []⟩, ⟨58, 58, .ro, 0, []⟩, ⟨57, 57, .ro, 0, []⟩, ⟨56, 56, .w1c, 0, []⟩, ⟨55, 48, .ro, 0, []⟩, ⟨31, 0, .ro, 0, []⟩]
  | .LS_CFG => [⟨63, 63, .rw, 0, []⟩, ⟨23, 8, .rw, 100, [(0, 0)]⟩, ⟨7, 0, .rw, 8, [(0, 0)]⟩]
  | .LS_ENT => [⟨63, 61, .ro, 0, []⟩, ⟨60, 60, .ro, 0, []⟩, ⟨59, 57, .ro, 0, []⟩, ⟨55, 54, .wo, 0, [(3, 3)]⟩, ⟨53, 52, .wo, 0, [(3, 3)]⟩, ⟨51, 50, .ro, 0, []⟩, ⟨39, 32, .ro, 0, []⟩, ⟨31, 0, .ro, 0, []⟩]
  | .PR_CTL => [⟨63, 63, .rw, 0, []⟩, ⟨62, 62, .rw, 0, []⟩, ⟨61, 61, .rw, 1, []⟩, ⟨53, 48, .rw, 0, []⟩, ⟨47, 32, .rw, 20, [(0, 0)]⟩, ⟨15, 0, .rw, 0, []⟩]
  | .PR_PEER => [⟨63, 48, .rw, 0, []⟩, ⟨47, 0, .rw, 0, []⟩]
  | .PR_CMD => [⟨63, 63, .wo, 0, []⟩, ⟨62, 62, .wo, 0, []⟩, ⟨61, 61, .wo, 0, []⟩, ⟨60, 60, .wo, 0, []⟩]
  | .PR_STATUS => [⟨63, 60, .ro, 0, []⟩, ⟨59, 56, .ro, 0, []⟩, ⟨55, 55, .ro, 0, []⟩, ⟨54, 54, .w1c, 0, []⟩, ⟨53, 48, .ro, 0, []⟩, ⟨47, 42, .ro, 0, []⟩, ⟨39, 32, .ro, 0, []⟩, ⟨31, 0, .ro, 0, []⟩]
  | .PR_OWN => [⟨63, 0, .rw, 0, []⟩]
  | .PR_TAKEN => [⟨63, 0, .ro, 0, []⟩]
  | .PR_LINK => [⟨63, 48, .ro, 0, []⟩, ⟨47, 32, .ro, 0, []⟩, ⟨31, 16, .ro, 0, []⟩, ⟨15, 8, .ro, 0, []⟩]
  | .PR_DELAY => [⟨63, 32, .ro, 0, []⟩, ⟨31, 0, .ro, 0, []⟩]
  | .PR_TEN => [⟨63, 63, .rw, 0, []⟩, ⟨62, 62, .rw, 0, []⟩, ⟨61, 61, .rw, 0, []⟩]
  | .MYB_CTRL => [⟨63, 63, .wo, 0, []⟩]
  | .MYB_STATUS => [⟨63, 63, .ro, 0, []⟩, ⟨62, 62, .ro, 0, []⟩, ⟨61, 61, .w1c, 0, []⟩, ⟨60, 58, .ro, 1, []⟩]
  | .MYB_HOSTERR => [⟨63, 56, .ro, 0, []⟩, ⟨55, 32, .ro, 0, []⟩, ⟨31, 0, .ro, 0, []⟩]
  | .MYB_BIST => [⟨63, 63, .wo, 0, []⟩, ⟨4, 0, .wo, 0, []⟩]
  | .MYB_BIST_STAT => [⟨63, 63, .ro, 0, []⟩, ⟨62, 62, .w1c, 0, []⟩, ⟨61, 61, .w1c, 0, []⟩, ⟨60, 60, .ro, 0, []⟩, ⟨4, 0, .ro, 0, []⟩]
  | .MYB_BIST_CORES => [⟨63, 0, .ro, 0, []⟩]
  | .MYB_BIST_BANKS => [⟨63, 0, .ro, 0, []⟩]
  | .MYB_BIST_MISC => [⟨17, 16, .ro, 0, []⟩, ⟨15, 8, .ro, 0, []⟩, ⟨3, 0, .ro, 0, []⟩]
  | .IRQ_PEND => [⟨63, 0, .w1c, 0, []⟩]
  | .IRQ_MASK => [⟨63, 0, .rw, 0, []⟩]
  | .IRQ_TCAUSE => [⟨4, 4, .w1c, 0, []⟩, ⟨3, 3, .w1c, 0, []⟩, ⟨2, 2, .w1c, 0, []⟩, ⟨1, 1, .w1c, 0, []⟩, ⟨0, 0, .w1c, 0, []⟩]
  | .PW_CFG => [⟨63, 56, .rw, 72, [(78, 255)]⟩, ⟨55, 48, .rw, 0, [(177, 255)]⟩, ⟨47, 40, .rw, 0, []⟩]
  | .PW_GRANT => [⟨63, 54, .ro, 440, []⟩, ⟨31, 0, .ro, 0, []⟩]
  | .PW_ALLOC => [⟨63, 54, .ro, 184, []⟩, ⟨53, 44, .ro, 72, []⟩, ⟨43, 34, .ro, 176, []⟩, ⟨33, 24, .ro, 8, []⟩, ⟨23, 23, .ro, 0, []⟩]
  | .PW_SAMP => [⟨63, 63, .rw, 0, []⟩, ⟨62, 62, .rw, 0, []⟩, ⟨61, 55, .rw, 0, []⟩, ⟨31, 0, .rw, 1000, [(0, 249)]⟩]
  | .PW_SENSE => [⟨63, 48, .ro, 0, []⟩, ⟨47, 32, .ro, 0, []⟩, ⟨31, 16, .ro, 0, []⟩, ⟨15, 0, .ro, 0, []⟩]
  | .PW_SENSE2 => [⟨63, 48, .ro, 0, []⟩, ⟨47, 32, .ro, 0, []⟩, ⟨31, 0, .ro, 0, []⟩]
  | .BD_PPS => [⟨7, 0, .rw, 0, []⟩]
  | .BD_LTRIM => [⟨63, 0, .rw, 0, []⟩]
  | .TN_PAGE => [⟨8, 0, .rw, 0, [(393, 511)]⟩]
  | .SC_COUNT => [⟨63, 63, .ro, 0, []⟩, ⟨62, 62, .ro, 0, []⟩, ⟨61, 61, .ro, 0, []⟩, ⟨60, 60, .ro, 0, []⟩, ⟨59, 59, .ro, 0, []⟩, ⟨47, 0, .ro, 0, []⟩]
  | .SC_EXP => [⟨63, 63, .rw, 0, []⟩, ⟨47, 0, .rw, 0, []⟩]
  | .SC_AUX => [⟨63, 48, .ro, 0, []⟩, ⟨47, 32, .ro, 0, []⟩, ⟨31, 0, .ro, 0, []⟩]
  | .CTR_LIVE => [⟨63, 0, .ro, 0, []⟩]
  | .HV_SHADOW => [⟨63, 0, .ro, 0, []⟩]
  | .RX_RING => [⟨63, 0, .ro, 0, []⟩]
  | .TX_CTL => [⟨63, 62, .rw, 0, [(2, 3)]⟩, ⟨61, 61, .ro, 0, []⟩, ⟨60, 60, .ro, 0, []⟩, ⟨59, 59, .ro, 0, []⟩, ⟨58, 58, .ro, 0, []⟩, ⟨55, 48, .rw, 0, []⟩, ⟨47, 32, .ro, 0, []⟩, ⟨8, 0, .rw, 0, []⟩]
  | .TX_OFS => [⟨63, 56, .rw, 0, []⟩, ⟨55, 48, .rw, 0, []⟩, ⟨47, 40, .rw, 0, []⟩, ⟨39, 38, .rw, 0, [(3, 3)]⟩]
  | .TX_CORR_REF => [⟨63, 0, .rw, 0, []⟩]
  | .TX_STAMP => [⟨63, 0, .ro, 0, []⟩]
  | .TX_FRAME => [⟨63, 0, .rw, 0, []⟩]
  | .PI_TIME => [⟨63, 0, .ro, 0, []⟩]
  | .PI_TEN => [⟨63, 0, .ro, 0, []⟩]
  | .PI_LIVE => [⟨63, 0, .ro, 0, []⟩]
  | .PI_SOFT => [⟨63, 0, .ro, 0, []⟩]
  | .SOFT_PAGE => [⟨63, 0, .rw, 0, []⟩]

/-- Reset values that depend on the entry's index or on the part (R427); `none` where the table gives one constant. -/
def Reg.resetSpecial (i : Nat) : Reg → Option Nat
  | .MYB_IDENT => some (0x4B594D0400010000 + Config.stepping * 2 ^ 24)
  | .AN_TAG => some (0x0C00000000000000 + i + 1)
  | .QM_POOL => some (0x0004000000040000 + Config.saltGib * 2 ^ 55)
  | .QM_SRCMAP => some (if i < 0x8000 then 0x8000000000000000 + i else 0)
  | .EX_STREAM => some (0x0001000000000000 + i)
  | _ => none

/-- The value that the fields of a register give it after block reset. -/
def FieldDesc.resetSum : List FieldDesc → Nat
  | [] => 0
  | f :: fs => f.reset * 2 ^ f.lo + FieldDesc.resetSum fs

/-- The whole 64-bit value of entry `i` of a register after block reset (R427). -/
def Reg.resetVal (r : Reg) (i : Nat) : BitVec 64 :=
  BitVec.ofNat 64 ((Reg.resetSpecial i r).getD (FieldDesc.resetSum r.fields))

/-- Where a register lies: `base + s1 * i + s2 * j` for `i < n1`, `j < n2`; its index is `n2 * i + j`. -/
structure Region where
  reg : Reg
  base : Nat
  n1 : Nat := 1
  s1 : Nat := 0
  n2 : Nat := 1
  s2 : Nat := 0
  deriving DecidableEq, Repr

/-- Offsets of the registers, part 1 of the register index. -/
def Reg.regions0 : List Region :=
  [ ⟨.MYB_IDENT, 0x000000, 1, 0, 1, 0⟩,
    ⟨.MYB_BLKID, 0x000008, 1, 0, 1, 0⟩,
    ⟨.MYB_SYSTEN, 0x000010, 1, 0, 1, 0⟩,
    ⟨.MYB_CAPS, 0x000018, 1, 0, 1, 0⟩,
    ⟨.TB_CTRL, 0x010000, 1, 0, 1, 0⟩,
    ⟨.TB_STATUS, 0x010008, 1, 0, 1, 0⟩,
    ⟨.TB_INCR, 0x010010, 1, 0, 1, 0⟩,
    ⟨.TB_LIMITS, 0x010018, 1, 0, 1, 0⟩,
    ⟨.TB_POLICY, 0x010020, 1, 0, 1, 0⟩,
    ⟨.TB_UPSTREAM, 0x010028, 1, 0, 1, 0⟩,
    ⟨.TB_TEN_CMPMODE, 0x010030, 1, 0, 1, 0⟩,
    ⟨.TB_REJ, 0x010038, 1, 0, 1, 0⟩,
    ⟨.TB_SNAP_SHORT, 0x010040, 1, 0, 1, 0⟩,
    ⟨.TB_SNAP_RAW, 0x010048, 1, 0, 1, 0⟩,
    ⟨.TB_SNAP_HI, 0x010050, 1, 0, 1, 0⟩,
    ⟨.TB_SNAP_LO, 0x010058, 1, 0, 1, 0⟩,
    ⟨.TB_PRJ_OFS_SEC, 0x010080, 1, 0, 1, 0⟩,
    ⟨.TB_PRJ_OFS_NSF, 0x010088, 1, 0, 1, 0⟩,
    ⟨.TB_PRJ_INCR, 0x010090, 1, 0, 1, 0⟩,
    ⟨.TB_PRJ_AT_LO, 0x010098, 1, 0, 1, 0⟩,
    ⟨.TB_PRJ_AT_HI, 0x0100A0, 1, 0, 1, 0⟩,
    ⟨.TB_PRJ_CMD, 0x0100A8, 1, 0, 1, 0⟩,
    ⟨.TB_PTP_CFG, 0x010100, 1, 0, 1, 0⟩,
    ⟨.TB_RX_PTR, 0x010108, 1, 0, 1, 0⟩,
    ⟨.TB_TX_POST, 0x010110, 1, 0, 1, 0⟩,
    ⟨.TB_TX_STAT, 0x010118, 1, 0, 1, 0⟩,
    ⟨.SG_TGT_LO, 0x010200, 1, 0, 1, 0⟩,
    ⟨.SG_TGT_HI, 0x010208, 1, 0, 1, 0⟩,
    ⟨.SG_CFG, 0x010210, 1, 0, 1, 0⟩,
    ⟨.SG_CMD, 0x010218, 1, 0, 1, 0⟩,
    ⟨.SG_SEL, 0x010220, 1, 0, 1, 0⟩,
    ⟨.SG_STAT, 0x010228, 1, 0, 1, 0⟩,
    ⟨.SG_COUNT, 0x010230, 1, 0, 1, 0⟩,
    ⟨.TB_LANE_ADJ, 0x014000, 512, 8, 1, 0⟩,
    ⟨.TB_PORT_TIME, 0x015000, 512, 8, 1, 0⟩,
    ⟨.LD_SRC, 0x020040, 1, 0, 1, 0⟩,
    ⟨.LD_CFG, 0x020048, 1, 0, 1, 0⟩,
    ⟨.LD_CMD, 0x020050, 1, 0, 1, 0⟩,
    ⟨.LD_STAT, 0x020058, 1, 0, 1, 0⟩,
    ⟨.CORE_STAT, 0x020100, 64, 8, 1, 0⟩ ]

/-- Offsets of the registers, part 2 of the register index. -/
def Reg.regions1 : List Region :=
  [ ⟨.TN_CFG, 0x021000, 64, 256, 1, 0⟩,
    ⟨.TN_CMD, 0x021008, 64, 256, 1, 0⟩,
    ⟨.TN_STATUS, 0x021010, 64, 256, 1, 0⟩,
    ⟨.TN_CHRY, 0x021018, 64, 256, 1, 0⟩,
    ⟨.TN_GATES, 0x021020, 64, 256, 1, 0⟩,
    ⟨.TN_CTX_MASK, 0x021040, 64, 256, 4, 8⟩,
    ⟨.TN_PORT_MASK, 0x021080, 64, 256, 8, 8⟩,
    ⟨.CX_CFG, 0x028000, 256, 64, 1, 0⟩,
    ⟨.CX_STATUS, 0x028008, 256, 64, 1, 0⟩,
    ⟨.CX_PC, 0x028010, 256, 64, 1, 0⟩,
    ⟨.CX_TRAP, 0x028018, 256, 64, 1, 0⟩,
    ⟨.MB_HDR, 0x02C000, 256, 64, 1, 0⟩,
    ⟨.MB_DATA, 0x02C008, 256, 64, 6, 8⟩,
    ⟨.MB_ACK, 0x02C038, 256, 64, 1, 0⟩,
    ⟨.HV_CMD, 0x030000, 1, 0, 1, 0⟩,
    ⟨.HV_TGT_LO, 0x030008, 1, 0, 1, 0⟩,
    ⟨.HV_TGT_HI, 0x030010, 1, 0, 1, 0⟩,
    ⟨.HV_CFG, 0x030018, 1, 0, 1, 0⟩,
    ⟨.HV_STAT, 0x030020, 1, 0, 1, 0⟩,
    ⟨.HV_TICK, 0x030028, 1, 0, 1, 0⟩,
    ⟨.HV_STAT2, 0x030030, 1, 0, 1, 0⟩,
    ⟨.HV_DMA, 0x030038, 1, 0, 1, 0⟩,
    ⟨.RK_CFG, 0x030100, 1, 0, 1, 0⟩,
    ⟨.RK_RING, 0x030108, 1, 0, 1, 0⟩,
    ⟨.RK_PTR, 0x030110, 1, 0, 1, 0⟩,
    ⟨.RK_STAT, 0x030118, 1, 0, 1, 0⟩,
    ⟨.AN_TAG, 0x031000, 512, 8, 1, 0⟩,
    ⟨.AN_PCFG, 0x032000, 512, 8, 1, 0⟩,
    ⟨.RK_LIST, 0x034000, 1024, 8, 1, 0⟩,
    ⟨.CTR_OVF, 0x038000, 576, 8, 1, 0⟩,
    ⟨.HV_OVF, 0x03A000, 576, 8, 1, 0⟩,
    ⟨.TI_CTRL, 0x040000, 1, 0, 1, 0⟩,
    ⟨.TI_ADDR, 0x040008, 1, 0, 1, 0⟩,
    ⟨.TI_CRCFG, 0x040010, 1, 0, 1, 0⟩,
    ⟨.TI_STAT, 0x040018, 1, 0, 1, 0⟩,
    ⟨.TI_NOHOME, 0x040020, 1, 0, 1, 0⟩,
    ⟨.TI_SEQSEL, 0x040028, 1, 0, 1, 0⟩,
    ⟨.TI_SEQVAL, 0x040030, 1, 0, 1, 0⟩,
    ⟨.HT_ADDR, 0x041000, 256, 16, 1, 0⟩,
    ⟨.HT_CRED, 0x041008, 256, 16, 1, 0⟩ ]

/-- Offsets of the registers, part 3 of the register index. -/
def Reg.regions2 : List Region :=
  [ ⟨.HT_STAT, 0x042000, 256, 16, 1, 0⟩,
    ⟨.HT_CTL, 0x042008, 256, 16, 1, 0⟩,
    ⟨.TS_CTL, 0x044000, 64, 128, 1, 0⟩,
    ⟨.TS_CFG, 0x044008, 64, 128, 1, 0⟩,
    ⟨.TS_STAT, 0x044010, 64, 128, 1, 0⟩,
    ⟨.TS_CMD, 0x044018, 64, 128, 1, 0⟩,
    ⟨.TS_EMASK, 0x044020, 64, 128, 2, 8⟩,
    ⟨.TS_MARK, 0x044030, 64, 128, 1, 0⟩,
    ⟨.TS_TIME_LO, 0x044040, 64, 128, 4, 16⟩,
    ⟨.TS_TIME_HI, 0x044048, 64, 128, 4, 16⟩,
    ⟨.TS_PSEL, 0x046000, 1, 0, 1, 0⟩,
    ⟨.TS_PROG0, 0x046400, 64, 16, 1, 0⟩,
    ⟨.TS_PROG1, 0x046408, 64, 16, 1, 0⟩,
    ⟨.SC_PART, 0x050000, 64, 8, 1, 0⟩,
    ⟨.SC_CMD, 0x050200, 1, 0, 1, 0⟩,
    ⟨.SC_FLAGCLR, 0x050208, 1, 0, 1, 0⟩,
    ⟨.SC_HOSTADD, 0x050210, 1, 0, 1, 0⟩,
    ⟨.SC_ERR, 0x050218, 1, 0, 1, 0⟩,
    ⟨.SC_TSTAT, 0x050400, 64, 8, 1, 0⟩,
    ⟨.SC_RGRANT, 0x050800, 128, 8, 1, 0⟩,
    ⟨.SC_WCFG, 0x051000, 512, 16, 1, 0⟩,
    ⟨.SC_WTGT, 0x051008, 512, 16, 1, 0⟩,
    ⟨.SC_WPEND, 0x053000, 8, 8, 1, 0⟩,
    ⟨.LG_ADDR, 0x060000, 64, 128, 1, 0⟩,
    ⟨.LG_LEN, 0x060008, 64, 128, 1, 0⟩,
    ⟨.LG_CFG, 0x060010, 64, 128, 1, 0⟩,
    ⟨.LG_TIMING, 0x060018, 64, 128, 1, 0⟩,
    ⟨.LG_START_LO, 0x060020, 64, 128, 1, 0⟩,
    ⟨.LG_START_HI, 0x060028, 64, 128, 1, 0⟩,
    ⟨.LG_CMD, 0x060030, 64, 128, 1, 0⟩,
    ⟨.LG_STATUS, 0x060038, 64, 128, 1, 0⟩,
    ⟨.LG_CURSOR, 0x060040, 64, 128, 1, 0⟩,
    ⟨.LG_PBASE_LO, 0x060048, 64, 128, 1, 0⟩,
    ⟨.LG_PBASE_HI, 0x060050, 64, 128, 1, 0⟩,
    ⟨.LG_TSTAT, 0x060058, 64, 128, 1, 0⟩,
    ⟨.LG_FAULT, 0x060060, 64, 128, 1, 0⟩,
    ⟨.LG_PASSES, 0x060068, 64, 128, 1, 0⟩,
    ⟨.LG_PGSEL, 0x064000, 1, 0, 1, 0⟩,
    ⟨.LG_PGWORD, 0x064008, 8, 8, 1, 0⟩,
    ⟨.LG_GSTAT, 0x064048, 1, 0, 1, 0⟩ ]

/-- Offsets of the registers, part 4 of the register index. -/
def Reg.regions3 : List Region :=
  [ ⟨.QM_CFG, 0x070000, 1, 0, 1, 0⟩,
    ⟨.QM_POOL, 0x070008, 1, 0, 1, 0⟩,
    ⟨.QM_BANK, 0x070010, 1, 0, 1, 0⟩,
    ⟨.QM_ERR, 0x070018, 1, 0, 1, 0⟩,
    ⟨.QM_CMD, 0x070020, 1, 0, 1, 0⟩,
    ⟨.XL_INV, 0x070040, 1, 0, 1, 0⟩,
    ⟨.QM_QSEL, 0x070100, 1, 0, 1, 0⟩,
    ⟨.QM_QCFG, 0x070108, 1, 0, 1, 0⟩,
    ⟨.QM_QSTAT, 0x070110, 1, 0, 1, 0⟩,
    ⟨.QM_SRCSEL, 0x070118, 1, 0, 1, 0⟩,
    ⟨.QM_SRCMAP, 0x070120, 1, 0, 1, 0⟩,
    ⟨.QT_LIMIT, 0x071000, 64, 64, 1, 0⟩,
    ⟨.QT_UNITQ, 0x071008, 64, 64, 1, 0⟩,
    ⟨.QT_USE, 0x071010, 64, 64, 1, 0⟩,
    ⟨.SP_BASE, 0x071018, 64, 64, 1, 0⟩,
    ⟨.SP_SIZE, 0x071020, 64, 64, 1, 0⟩,
    ⟨.SP_LEVEL, 0x071028, 64, 64, 1, 0⟩,
    ⟨.SP_PEAK, 0x071030, 64, 64, 1, 0⟩,
    ⟨.XL_BASE, 0x071038, 64, 64, 1, 0⟩,
    ⟨.DS_STAT, 0x078000, 64, 512, 16, 32⟩,
    ⟨.DS_FAULT, 0x078008, 64, 512, 16, 32⟩,
    ⟨.DS_CMD, 0x078010, 64, 512, 16, 32⟩,
    ⟨.WN_CFG, 0x080000, 64, 64, 1, 0⟩,
    ⟨.WN_GEN, 0x080008, 64, 64, 1, 0⟩,
    ⟨.WN_CMD, 0x080010, 64, 64, 1, 0⟩,
    ⟨.WN_LAST, 0x080018, 64, 64, 1, 0⟩,
    ⟨.WN_LASTCNT, 0x080020, 64, 64, 1, 0⟩,
    ⟨.WN_STAT, 0x080028, 64, 64, 1, 0⟩,
    ⟨.EX_STREAM, 0x081000, 64, 64, 1, 0⟩,
    ⟨.EX_DMAC, 0x081008, 64, 64, 1, 0⟩,
    ⟨.EX_SHED, 0x081010, 64, 64, 1, 0⟩,
    ⟨.EX_SHSTAT, 0x081018, 64, 64, 1, 0⟩,
    ⟨.EX_CRSTAT, 0x081020, 64, 64, 1, 0⟩,
    ⟨.EX_CFG, 0x082000, 1, 0, 1, 0⟩,
    ⟨.EX_MAC, 0x082008, 1, 0, 1, 0⟩,
    ⟨.EX_PFC, 0x082010, 1, 0, 1, 0⟩,
    ⟨.EX_GSHED, 0x082018, 1, 0, 1, 0⟩,
    ⟨.EX_STAT, 0x082020, 1, 0, 1, 0⟩,
    ⟨.EX_PORT, 0x082040, 4, 8, 1, 0⟩,
    ⟨.IM_UNIT, 0x090000, 4, 8, 1, 0⟩ ]

/-- Offsets of the registers, part 5 of the register index. -/
def Reg.regions4 : List Region :=
  [ ⟨.IM_TCFG, 0x091000, 64, 64, 1, 0⟩,
    ⟨.IM_TSTAT, 0x091008, 64, 64, 1, 0⟩,
    ⟨.HL_TEN, 0x091010, 64, 64, 1, 0⟩,
    ⟨.GV_CFG, 0x091018, 64, 64, 1, 0⟩,
    ⟨.GV_SPARE, 0x091020, 64, 64, 1, 0⟩,
    ⟨.GV_LEVEL, 0x091028, 64, 64, 1, 0⟩,
    ⟨.HM_WADDR, 0x092000, 64, 256, 4, 64⟩,
    ⟨.HM_WORK, 0x092008, 64, 256, 4, 64⟩,
    ⟨.HM_CAD, 0x092010, 64, 256, 4, 64⟩,
    ⟨.HM_CTL, 0x092018, 64, 256, 4, 64⟩,
    ⟨.LS_CFG, 0x096000, 1, 0, 1, 0⟩,
    ⟨.LS_ENT, 0x097000, 256, 8, 1, 0⟩,
    ⟨.PR_CTL, 0x0A0000, 1, 0, 1, 0⟩,
    ⟨.PR_PEER, 0x0A0008, 1, 0, 1, 0⟩,
    ⟨.PR_CMD, 0x0A0010, 1, 0, 1, 0⟩,
    ⟨.PR_STATUS, 0x0A0018, 1, 0, 1, 0⟩,
    ⟨.PR_OWN, 0x0A0020, 4, 8, 1, 0⟩,
    ⟨.PR_TAKEN, 0x0A0040, 4, 8, 1, 0⟩,
    ⟨.PR_LINK, 0x0A0060, 1, 0, 1, 0⟩,
    ⟨.PR_DELAY, 0x0A0068, 1, 0, 1, 0⟩,
    ⟨.PR_TEN, 0x0A0100, 64, 8, 1, 0⟩,
    ⟨.MYB_CTRL, 0x000020, 1, 0, 1, 0⟩,
    ⟨.MYB_STATUS, 0x000028, 1, 0, 1, 0⟩,
    ⟨.MYB_HOSTERR, 0x000030, 1, 0, 1, 0⟩,
    ⟨.MYB_BIST, 0x000040, 1, 0, 1, 0⟩,
    ⟨.MYB_BIST_STAT, 0x000048, 1, 0, 1, 0⟩,
    ⟨.MYB_BIST_CORES, 0x000050, 1, 0, 1, 0⟩,
    ⟨.MYB_BIST_BANKS, 0x000058, 1, 0, 1, 0⟩,
    ⟨.MYB_BIST_MISC, 0x000060, 1, 0, 1, 0⟩,
    ⟨.IRQ_PEND, 0x000100, 4, 8, 1, 0⟩,
    ⟨.IRQ_MASK, 0x000120, 4, 8, 1, 0⟩,
    ⟨.IRQ_TCAUSE, 0x000400, 64, 8, 1, 0⟩,
    ⟨.PW_CFG, 0x0B0000, 1, 0, 1, 0⟩,
    ⟨.PW_GRANT, 0x0B0008, 1, 0, 1, 0⟩,
    ⟨.PW_ALLOC, 0x0B0010, 1, 0, 1, 0⟩,
    ⟨.PW_SAMP, 0x0B0018, 1, 0, 1, 0⟩,
    ⟨.PW_SENSE, 0x0B0020, 1, 0, 1, 0⟩,
    ⟨.PW_SENSE2, 0x0B0028, 1, 0, 1, 0⟩,
    ⟨.BD_PPS, 0x0B0100, 1, 0, 1, 0⟩,
    ⟨.BD_LTRIM, 0x0B0200, 10, 8, 1, 0⟩ ]

/-- Offsets of the registers, part 6 of the register index. -/
def Reg.regions5 : List Region :=
  [ ⟨.TN_PAGE, 0x0210C0, 64, 256, 1, 0⟩,
    ⟨.SC_COUNT, 0x500000, 16384, 8, 1, 0⟩,
    ⟨.SC_EXP, 0x520000, 16384, 8, 1, 0⟩,
    ⟨.SC_AUX, 0x540000, 16384, 8, 1, 0⟩,
    ⟨.CTR_LIVE, 0x400000, 36864, 8, 1, 0⟩,
    ⟨.HV_SHADOW, 0x480000, 36864, 8, 1, 0⟩,
    ⟨.RX_RING, 0x018000, 2048, 8, 1, 0⟩,
    ⟨.TX_CTL, 0x01C000, 128, 128, 1, 0⟩,
    ⟨.TX_OFS, 0x01C008, 128, 128, 1, 0⟩,
    ⟨.TX_CORR_REF, 0x01C010, 128, 128, 1, 0⟩,
    ⟨.TX_STAMP, 0x01C018, 128, 128, 1, 0⟩,
    ⟨.TX_FRAME, 0x01C020, 128, 128, 12, 8⟩,
    ⟨.PI_TIME, 0x0A3000, 8, 8, 1, 0⟩,
    ⟨.PI_TEN, 0x0A4000, 512, 8, 1, 0⟩,
    ⟨.PI_LIVE, 0x0A5000, 512, 8, 1, 0⟩,
    ⟨.PI_SOFT, 0x0A6000, 512, 8, 1, 0⟩,
    ⟨.SOFT_PAGE, 0x0A7000, 512, 8, 1, 0⟩ ]

/-- Offsets of every register (chapter Register index). -/
def Reg.regions : List Region :=
  Reg.regions0 ++ Reg.regions1 ++ Reg.regions2 ++ Reg.regions3 ++ Reg.regions4 ++ Reg.regions5

/-- A named field of a register. -/
structure Fld where
  reg : Reg
  hi : Nat
  lo : Nat
  deriving DecidableEq, Repr

/-- The width of a field in bits (R6). -/
def Fld.width (f : Fld) : Nat := f.hi + 1 - f.lo

def MYB_IDENT_VENDOR : Fld := ⟨.MYB_IDENT, 63, 48⟩
def MYB_IDENT_DEVICE : Fld := ⟨.MYB_IDENT, 47, 32⟩
def MYB_IDENT_STEPPING : Fld := ⟨.MYB_IDENT, 31, 24⟩
def MYB_IDENT_EHRILE_REV : Fld := ⟨.MYB_IDENT, 23, 16⟩
def MYB_BLKID_LOCK : Fld := ⟨.MYB_BLKID, 63, 63⟩
def MYB_BLKID_BLOCK_ID : Fld := ⟨.MYB_BLKID, 15, 0⟩
def MYB_SYSTEN_SYS_TENANT : Fld := ⟨.MYB_SYSTEN, 5, 0⟩
def MYB_CAPS_CORES_OK : Fld := ⟨.MYB_CAPS, 63, 56⟩
def MYB_CAPS_IMAGO_OK : Fld := ⟨.MYB_CAPS, 55, 52⟩
def MYB_CAPS_POOL_BANKS_OK : Fld := ⟨.MYB_CAPS, 51, 44⟩
def MYB_CAPS_EXPORT_LANES_OK : Fld := ⟨.MYB_CAPS, 43, 40⟩
def MYB_CAPS_MIRROR_LANES_OK : Fld := ⟨.MYB_CAPS, 39, 38⟩
def TB_CTRL_RUN : Fld := ⟨.TB_CTRL, 63, 63⟩
def TB_CTRL_MODE : Fld := ⟨.TB_CTRL, 62, 62⟩
def TB_CTRL_PPS_EN : Fld := ⟨.TB_CTRL, 61, 61⟩
def TB_CTRL_HOLD_ENTER : Fld := ⟨.TB_CTRL, 60, 60⟩
def TB_CTRL_HOLD_EXIT : Fld := ⟨.TB_CTRL, 59, 59⟩
def TB_CTRL_QUALITY : Fld := ⟨.TB_CTRL, 2, 0⟩
def TB_STATUS_EPOCH : Fld := ⟨.TB_STATUS, 63, 48⟩
def TB_STATUS_RUNNING : Fld := ⟨.TB_STATUS, 47, 47⟩
def TB_STATUS_HOLD : Fld := ⟨.TB_STATUS, 46, 46⟩
def TB_STATUS_PENDING : Fld := ⟨.TB_STATUS, 45, 45⟩
def TB_STATUS_PENDING_STEP : Fld := ⟨.TB_STATUS, 44, 44⟩
def TB_STATUS_HIST_USED : Fld := ⟨.TB_STATUS, 40, 32⟩
def TB_STATUS_BUS_ERR : Fld := ⟨.TB_STATUS, 31, 16⟩
def TB_STATUS_HOLD_LEFT : Fld := ⟨.TB_STATUS, 15, 0⟩
def TB_INCR_INCR : Fld := ⟨.TB_INCR, 47, 0⟩
def TB_LIMITS_SLEW_PPM : Fld := ⟨.TB_LIMITS, 57, 48⟩
def TB_LIMITS_INCR_NOM : Fld := ⟨.TB_LIMITS, 47, 0⟩
def TB_POLICY_STEP_THRESH : Fld := ⟨.TB_POLICY, 63, 32⟩
def TB_POLICY_HOLD_MIN : Fld := ⟨.TB_POLICY, 15, 0⟩
def TB_UPSTREAM_PRI_VALID : Fld := ⟨.TB_UPSTREAM, 63, 63⟩
def TB_UPSTREAM_SEC_VALID : Fld := ⟨.TB_UPSTREAM, 62, 62⟩
def TB_UPSTREAM_SEC_PORT : Fld := ⟨.TB_UPSTREAM, 24, 16⟩
def TB_UPSTREAM_PRI_PORT : Fld := ⟨.TB_UPSTREAM, 8, 0⟩
def TB_TEN_CMPMODE_MAG : Fld := ⟨.TB_TEN_CMPMODE, 63, 0⟩
def TB_REJ_REJ : Fld := ⟨.TB_REJ, 63, 63⟩
def TB_REJ_REJ_COUNT : Fld := ⟨.TB_REJ, 47, 32⟩
def TB_REJ_REASON : Fld := ⟨.TB_REJ, 7, 0⟩
def TB_SNAP_SHORT_SHORT : Fld := ⟨.TB_SNAP_SHORT, 63, 0⟩
def TB_SNAP_RAW_RAW_LO : Fld := ⟨.TB_SNAP_RAW, 63, 0⟩
def TB_SNAP_HI_RAW_HI : Fld := ⟨.TB_SNAP_HI, 63, 48⟩
def TB_SNAP_HI_SECONDS : Fld := ⟨.TB_SNAP_HI, 47, 0⟩
def TB_SNAP_LO_EPOCH : Fld := ⟨.TB_SNAP_LO, 63, 48⟩
def TB_SNAP_LO_NS : Fld := ⟨.TB_SNAP_LO, 47, 16⟩
def TB_SNAP_LO_FRAC : Fld := ⟨.TB_SNAP_LO, 15, 0⟩
def TB_PRJ_OFS_SEC_SECONDS : Fld := ⟨.TB_PRJ_OFS_SEC, 47, 0⟩
def TB_PRJ_OFS_NSF_NS : Fld := ⟨.TB_PRJ_OFS_NSF, 63, 34⟩
def TB_PRJ_OFS_NSF_FRAC34 : Fld := ⟨.TB_PRJ_OFS_NSF, 33, 0⟩
def TB_PRJ_INCR_INCR : Fld := ⟨.TB_PRJ_INCR, 47, 0⟩
def TB_PRJ_AT_LO_AT_LO : Fld := ⟨.TB_PRJ_AT_LO, 63, 0⟩
def TB_PRJ_AT_HI_AT_HI : Fld := ⟨.TB_PRJ_AT_HI, 15, 0⟩
def TB_PRJ_CMD_COMMIT : Fld := ⟨.TB_PRJ_CMD, 63, 63⟩
def TB_PRJ_CMD_CANCEL : Fld := ⟨.TB_PRJ_CMD, 62, 62⟩
def TB_PRJ_CMD_STEP : Fld := ⟨.TB_PRJ_CMD, 61, 61⟩
def TB_PRJ_CMD_STEP_EPOCH : Fld := ⟨.TB_PRJ_CMD, 15, 0⟩
def TB_PTP_CFG_ENABLE : Fld := ⟨.TB_PTP_CFG, 63, 63⟩
def TB_PTP_CFG_DOMAIN : Fld := ⟨.TB_PTP_CFG, 7, 0⟩
def TB_RX_PTR_DROP : Fld := ⟨.TB_RX_PTR, 63, 48⟩
def TB_RX_PTR_FOREIGN : Fld := ⟨.TB_RX_PTR, 47, 32⟩
def TB_RX_PTR_TAIL : Fld := ⟨.TB_RX_PTR, 15, 8⟩
def TB_RX_PTR_HEAD : Fld := ⟨.TB_RX_PTR, 7, 0⟩
def TB_TX_POST_GO : Fld := ⟨.TB_TX_POST, 63, 63⟩
def TB_TX_POST_WITHDRAW : Fld := ⟨.TB_TX_POST, 62, 62⟩
def TB_TX_POST_SLOT : Fld := ⟨.TB_TX_POST, 6, 0⟩
def TB_TX_STAT_SENT : Fld := ⟨.TB_TX_STAT, 63, 32⟩
def TB_TX_STAT_INS_ERR : Fld := ⟨.TB_TX_STAT, 31, 16⟩
def SG_TGT_LO_TARGET_LO : Fld := ⟨.SG_TGT_LO, 63, 0⟩
def SG_TGT_HI_SECONDS : Fld := ⟨.SG_TGT_HI, 47, 0⟩
def SG_CFG_MODE : Fld := ⟨.SG_CFG, 63, 62⟩
def SG_CFG_NO_LATE : Fld := ⟨.SG_CFG, 61, 61⟩
def SG_CFG_ACTION : Fld := ⟨.SG_CFG, 60, 58⟩
def SG_CFG_TENANT : Fld := ⟨.SG_CFG, 57, 52⟩
def SG_CFG_QUEUE : Fld := ⟨.SG_CFG, 50, 48⟩
def SG_CFG_PORT : Fld := ⟨.SG_CFG, 47, 39⟩
def SG_CFG_SLOT : Fld := ⟨.SG_CFG, 38, 32⟩
def SG_CFG_GUARD : Fld := ⟨.SG_CFG, 31, 16⟩
def SG_CFG_DURATION : Fld := ⟨.SG_CFG, 15, 0⟩
def SG_CMD_ARM : Fld := ⟨.SG_CMD, 63, 63⟩
def SG_CMD_CANCEL : Fld := ⟨.SG_CMD, 62, 62⟩
def SG_CMD_GATE : Fld := ⟨.SG_CMD, 11, 0⟩
def SG_SEL_GATE : Fld := ⟨.SG_SEL, 11, 0⟩
def SG_STAT_STATE : Fld := ⟨.SG_STAT, 63, 61⟩
def SG_STAT_NOFRAME : Fld := ⟨.SG_STAT, 60, 60⟩
def SG_STAT_SLIP : Fld := ⟨.SG_STAT, 47, 32⟩
def SG_STAT_LATE : Fld := ⟨.SG_STAT, 31, 0⟩
def SG_COUNT_FIRED : Fld := ⟨.SG_COUNT, 63, 32⟩
def SG_COUNT_LATE : Fld := ⟨.SG_COUNT, 31, 0⟩
def TB_LANE_ADJ_LAUNCH_TICKS : Fld := ⟨.TB_LANE_ADJ, 63, 56⟩
def TB_LANE_ADJ_TX_ADJ : Fld := ⟨.TB_LANE_ADJ, 47, 24⟩
def TB_LANE_ADJ_RX_ADJ : Fld := ⟨.TB_LANE_ADJ, 23, 0⟩
def TB_PORT_TIME_PATH_GEN : Fld := ⟨.TB_PORT_TIME, 63, 48⟩
def TB_PORT_TIME_PATH_CLASS : Fld := ⟨.TB_PORT_TIME, 47, 44⟩
def TB_PORT_TIME_PTP_EN : Fld := ⟨.TB_PORT_TIME, 43, 43⟩
def TB_PORT_TIME_DLY_VALID : Fld := ⟨.TB_PORT_TIME, 42, 42⟩
def TB_PORT_TIME_LINK_DLY : Fld := ⟨.TB_PORT_TIME, 31, 0⟩
def LD_SRC_ADDR : Fld := ⟨.LD_SRC, 47, 0⟩
def LD_CFG_START : Fld := ⟨.LD_CFG, 63, 63⟩
def LD_CFG_TENANT : Fld := ⟨.LD_CFG, 61, 56⟩
def LD_CFG_CTX_MASK : Fld := ⟨.LD_CFG, 55, 52⟩
def LD_CFG_CORE : Fld := ⟨.LD_CFG, 51, 46⟩
def LD_CMD_GO : Fld := ⟨.LD_CMD, 63, 63⟩
def LD_CMD_RESUME : Fld := ⟨.LD_CMD, 62, 62⟩
def LD_CMD_ABANDON : Fld := ⟨.LD_CMD, 61, 61⟩
def LD_STAT_BUSY : Fld := ⟨.LD_STAT, 63, 63⟩
def LD_STAT_DONE : Fld := ⟨.LD_STAT, 62, 62⟩
def LD_STAT_FAULT : Fld := ⟨.LD_STAT, 61, 61⟩
def LD_STAT_REASON : Fld := ⟨.LD_STAT, 55, 48⟩
def LD_STAT_POS : Fld := ⟨.LD_STAT, 47, 0⟩
def CORE_STAT_MAPPED_OUT : Fld := ⟨.CORE_STAT, 63, 63⟩
def CORE_STAT_BUDGET : Fld := ⟨.CORE_STAT, 47, 32⟩
def CORE_STAT_ISSUED : Fld := ⟨.CORE_STAT, 31, 0⟩
def TN_CFG_PAGE_EN : Fld := ⟨.TN_CFG, 63, 63⟩
def TN_CFG_MB_IRQ : Fld := ⟨.TN_CFG, 62, 62⟩
def TN_CFG_ISSUE_CAP : Fld := ⟨.TN_CFG, 59, 56⟩
def TN_CFG_POWER_SHARE : Fld := ⟨.TN_CFG, 55, 48⟩
def TN_CMD_HOLD : Fld := ⟨.TN_CMD, 4, 4⟩
def TN_CMD_CMD : Fld := ⟨.TN_CMD, 3, 0⟩
def TN_STATUS_STATE : Fld := ⟨.TN_STATUS, 63, 61⟩
def TN_STATUS_DONE : Fld := ⟨.TN_STATUS, 60, 60⟩
def TN_STATUS_MIGRATED : Fld := ⟨.TN_STATUS, 59, 59⟩
def TN_STATUS_CORE_LOST : Fld := ⟨.TN_STATUS, 58, 58⟩
def TN_STATUS_REASON : Fld := ⟨.TN_STATUS, 55, 48⟩
def TN_STATUS_NEED : Fld := ⟨.TN_STATUS, 47, 0⟩
def TN_CHRY_LEN : Fld := ⟨.TN_CHRY, 63, 48⟩
def TN_CHRY_BASE : Fld := ⟨.TN_CHRY, 47, 16⟩
def TN_GATES_COUNT : Fld := ⟨.TN_GATES, 28, 16⟩
def TN_GATES_BASE : Fld := ⟨.TN_GATES, 11, 0⟩
def TN_CTX_MASK_CTX : Fld := ⟨.TN_CTX_MASK, 63, 0⟩
def TN_PORT_MASK_SLOT : Fld := ⟨.TN_PORT_MASK, 63, 0⟩
def CX_CFG_FTRACE : Fld := ⟨.CX_CFG, 63, 63⟩
def CX_CFG_SCR_BASE : Fld := ⟨.CX_CFG, 47, 42⟩
def CX_CFG_SCR_LEN : Fld := ⟨.CX_CFG, 41, 35⟩
def CX_CFG_IMEM_BASE : Fld := ⟨.CX_CFG, 34, 30⟩
def CX_CFG_IMEM_LEN : Fld := ⟨.CX_CFG, 29, 24⟩
def CX_STATUS_STATE : Fld := ⟨.CX_STATUS, 63, 60⟩
def CX_STATUS_PRIOR : Fld := ⟨.CX_STATUS, 59, 57⟩
def CX_STATUS_IMAGE_VALID : Fld := ⟨.CX_STATUS, 56, 56⟩
def CX_STATUS_CORE_FAIL : Fld := ⟨.CX_STATUS, 55, 55⟩
def CX_STATUS_DEP : Fld := ⟨.CX_STATUS, 54, 54⟩
def CX_STATUS_TENANT : Fld := ⟨.CX_STATUS, 53, 48⟩
def CX_STATUS_IMAGE_ID : Fld := ⟨.CX_STATUS, 47, 16⟩
def CX_PC_PC : Fld := ⟨.CX_PC, 16, 0⟩
def CX_TRAP_CAUSE : Fld := ⟨.CX_TRAP, 63, 48⟩
def CX_TRAP_INFO : Fld := ⟨.CX_TRAP, 47, 0⟩
def MB_HDR_READY : Fld := ⟨.MB_HDR, 63, 63⟩
def MB_HDR_PARKED : Fld := ⟨.MB_HDR, 62, 62⟩
def MB_HDR_LEN : Fld := ⟨.MB_HDR, 55, 48⟩
def MB_HDR_OVERRUN : Fld := ⟨.MB_HDR, 47, 40⟩
def MB_HDR_VOIDED : Fld := ⟨.MB_HDR, 39, 32⟩
def MB_HDR_SEQ : Fld := ⟨.MB_HDR, 31, 0⟩
def MB_DATA_DATA : Fld := ⟨.MB_DATA, 63, 0⟩
def MB_ACK_ACK : Fld := ⟨.MB_ACK, 63, 63⟩
def MB_ACK_SEQ : Fld := ⟨.MB_ACK, 31, 0⟩
def HV_CMD_GO : Fld := ⟨.HV_CMD, 63, 63⟩
def HV_CMD_TIMED : Fld := ⟨.HV_CMD, 62, 62⟩
def HV_CMD_MODE : Fld := ⟨.HV_CMD, 61, 60⟩
def HV_TGT_LO_TARGET : Fld := ⟨.HV_TGT_LO, 63, 0⟩
def HV_TGT_HI_SECONDS : Fld := ⟨.HV_TGT_HI, 47, 0⟩
def HV_CFG_DUMP : Fld := ⟨.HV_CFG, 63, 63⟩
def HV_CFG_DMA_EN : Fld := ⟨.HV_CFG, 62, 62⟩
def HV_CFG_PROG_EN : Fld := ⟨.HV_CFG, 61, 61⟩
def HV_STAT_NUM : Fld := ⟨.HV_STAT, 63, 32⟩
def HV_STAT_ACCEPTED : Fld := ⟨.HV_STAT, 31, 0⟩
def HV_TICK_SHORT : Fld := ⟨.HV_TICK, 63, 0⟩
def HV_STAT2_CANCELLED : Fld := ⟨.HV_STAT2, 63, 32⟩
def HV_STAT2_PENDING : Fld := ⟨.HV_STAT2, 31, 28⟩
def HV_STAT2_LATE : Fld := ⟨.HV_STAT2, 27, 27⟩
def HV_STAT2_DMA_BUSY : Fld := ⟨.HV_STAT2, 26, 26⟩
def HV_STAT2_REFUSED : Fld := ⟨.HV_STAT2, 15, 8⟩
def HV_STAT2_DMA_SKIP : Fld := ⟨.HV_STAT2, 7, 0⟩
def HV_DMA_ADDR : Fld := ⟨.HV_DMA, 47, 0⟩
def RK_CFG_EN : Fld := ⟨.RK_CFG, 63, 63⟩
def RK_CFG_RING : Fld := ⟨.RK_CFG, 62, 62⟩
def RK_CFG_EXPORT : Fld := ⟨.RK_CFG, 61, 61⟩
def RK_CFG_PERIOD : Fld := ⟨.RK_CFG, 47, 32⟩
def RK_CFG_COUNT : Fld := ⟨.RK_CFG, 12, 0⟩
def RK_RING_LEN : Fld := ⟨.RK_RING, 63, 48⟩
def RK_RING_BASE : Fld := ⟨.RK_RING, 47, 16⟩
def RK_PTR_TAIL : Fld := ⟨.RK_PTR, 63, 32⟩
def RK_PTR_HEAD : Fld := ⟨.RK_PTR, 31, 0⟩
def RK_STAT_SEQ : Fld := ⟨.RK_STAT, 63, 32⟩
def RK_STAT_SKIP : Fld := ⟨.RK_STAT, 31, 16⟩
def AN_TAG_EN : Fld := ⟨.AN_TAG, 63, 63⟩
def AN_TAG_K : Fld := ⟨.AN_TAG, 60, 56⟩
def AN_TAG_SEED : Fld := ⟨.AN_TAG, 31, 0⟩
def AN_PCFG_SAMP_EN : Fld := ⟨.AN_PCFG, 63, 63⟩
def AN_PCFG_DETAIL : Fld := ⟨.AN_PCFG, 62, 62⟩
def AN_PCFG_SI : Fld := ⟨.AN_PCFG, 61, 57⟩
def AN_PCFG_SLOT_EN : Fld := ⟨.AN_PCFG, 56, 56⟩
def AN_PCFG_INTV : Fld := ⟨.AN_PCFG, 55, 52⟩
def RK_LIST_IDX3 : Fld := ⟨.RK_LIST, 63, 48⟩
def RK_LIST_IDX2 : Fld := ⟨.RK_LIST, 47, 32⟩
def RK_LIST_IDX1 : Fld := ⟨.RK_LIST, 31, 16⟩
def RK_LIST_IDX0 : Fld := ⟨.RK_LIST, 15, 0⟩
def CTR_OVF_OVF : Fld := ⟨.CTR_OVF, 63, 0⟩
def HV_OVF_OVF : Fld := ⟨.HV_OVF, 63, 0⟩
def TI_CTRL_ENABLE : Fld := ⟨.TI_CTRL, 63, 63⟩
def TI_ADDR_ADDR : Fld := ⟨.TI_ADDR, 47, 0⟩
def TI_CRCFG_CAP : Fld := ⟨.TI_CRCFG, 47, 32⟩
def TI_CRCFG_MIN_STEP : Fld := ⟨.TI_CRCFG, 31, 24⟩
def TI_CRCFG_REFRESH : Fld := ⟨.TI_CRCFG, 23, 16⟩
def TI_STAT_NOHOME : Fld := ⟨.TI_STAT, 63, 52⟩
def TI_STAT_MALFORMED : Fld := ⟨.TI_STAT, 51, 40⟩
def TI_STAT_STALE : Fld := ⟨.TI_STAT, 39, 28⟩
def TI_STAT_OVERRUN : Fld := ⟨.TI_STAT, 27, 16⟩
def TI_STAT_DISABLED : Fld := ⟨.TI_STAT, 15, 0⟩
def TI_NOHOME_SRC : Fld := ⟨.TI_NOHOME, 47, 0⟩
def TI_SEQSEL_SOURCE : Fld := ⟨.TI_SEQSEL, 14, 0⟩
def TI_SEQVAL_VALID : Fld := ⟨.TI_SEQVAL, 63, 63⟩
def TI_SEQVAL_NEXT : Fld := ⟨.TI_SEQVAL, 27, 0⟩
def HT_ADDR_VALID : Fld := ⟨.HT_ADDR, 63, 63⟩
def HT_ADDR_TENANT : Fld := ⟨.HT_ADDR, 61, 56⟩
def HT_ADDR_ADDR : Fld := ⟨.HT_ADDR, 47, 7⟩
def HT_CRED_CEPOCH : Fld := ⟨.HT_CRED, 63, 48⟩
def HT_CRED_DEPTH : Fld := ⟨.HT_CRED, 47, 32⟩
def HT_CRED_RATE : Fld := ⟨.HT_CRED, 15, 0⟩
def HT_STAT_LIMIT : Fld := ⟨.HT_STAT, 63, 32⟩
def HT_STAT_RECV : Fld := ⟨.HT_STAT, 31, 0⟩
def HT_CTL_SENT_SEQ : Fld := ⟨.HT_CTL, 63, 48⟩
def HT_CTL_ACK_SEQ : Fld := ⟨.HT_CTL, 47, 32⟩
def HT_CTL_LATE : Fld := ⟨.HT_CTL, 31, 16⟩
def HT_CTL_PENDING : Fld := ⟨.HT_CTL, 2, 0⟩
def TS_CTL_RUN : Fld := ⟨.TS_CTL, 63, 63⟩
def TS_CTL_START_STATE : Fld := ⟨.TS_CTL, 59, 56⟩
def TS_CFG_LEAD : Fld := ⟨.TS_CFG, 63, 48⟩
def TS_CFG_SCOPE : Fld := ⟨.TS_CFG, 33, 32⟩
def TS_CFG_CMPMODE : Fld := ⟨.TS_CFG, 1, 0⟩
def TS_STAT_RUNSTATE : Fld := ⟨.TS_STAT, 63, 62⟩
def TS_STAT_STATE : Fld := ⟨.TS_STAT, 61, 58⟩
def TS_STAT_PREV : Fld := ⟨.TS_STAT, 57, 54⟩
def TS_STAT_LAST_K : Fld := ⟨.TS_STAT, 53, 52⟩
def TS_STAT_LAST_LATE : Fld := ⟨.TS_STAT, 51, 51⟩
def TS_STAT_CTL_OVFL : Fld := ⟨.TS_STAT, 50, 50⟩
def TS_STAT_EPOCH : Fld := ⟨.TS_STAT, 49, 46⟩
def TS_STAT_TRANSITIONS : Fld := ⟨.TS_STAT, 31, 0⟩
def TS_CMD_FORCE : Fld := ⟨.TS_CMD, 63, 63⟩
def TS_CMD_MANUAL : Fld := ⟨.TS_CMD, 62, 62⟩
def TS_CMD_ACTIONS : Fld := ⟨.TS_CMD, 61, 57⟩
def TS_CMD_STATE : Fld := ⟨.TS_CMD, 51, 48⟩
def TS_EMASK_ENG : Fld := ⟨.TS_EMASK, 63, 0⟩
def TS_MARK_NEXT : Fld := ⟨.TS_MARK, 15, 0⟩
def TS_TIME_LO_TARGET : Fld := ⟨.TS_TIME_LO, 63, 0⟩
def TS_TIME_HI_SECONDS : Fld := ⟨.TS_TIME_HI, 47, 0⟩
def TS_PSEL_TENANT : Fld := ⟨.TS_PSEL, 5, 0⟩
def TS_PROG0_KIND : Fld := ⟨.TS_PROG0, 63, 61⟩
def TS_PROG0_ACTIONS : Fld := ⟨.TS_PROG0, 60, 56⟩
def TS_PROG0_NEXT : Fld := ⟨.TS_PROG0, 55, 52⟩
def TS_PROG0_TMODE : Fld := ⟨.TS_PROG0, 51, 50⟩
def TS_PROG0_REL : Fld := ⟨.TS_PROG0, 49, 49⟩
def TS_PROG0_PARAM : Fld := ⟨.TS_PROG0, 47, 0⟩
def TS_PROG1_VALUE : Fld := ⟨.TS_PROG1, 63, 0⟩
def SC_PART_LEN : Fld := ⟨.SC_PART, 46, 32⟩
def SC_PART_BASE : Fld := ⟨.SC_PART, 13, 0⟩
def SC_CMD_CHECK : Fld := ⟨.SC_CMD, 63, 63⟩
def SC_CMD_TENANT : Fld := ⟨.SC_CMD, 5, 0⟩
def SC_FLAGCLR_OVER : Fld := ⟨.SC_FLAGCLR, 61, 61⟩
def SC_FLAGCLR_SHORT : Fld := ⟨.SC_FLAGCLR, 60, 60⟩
def SC_FLAGCLR_MISUSE : Fld := ⟨.SC_FLAGCLR, 59, 59⟩
def SC_FLAGCLR_LOST : Fld := ⟨.SC_FLAGCLR, 58, 58⟩
def SC_FLAGCLR_COUNTER : Fld := ⟨.SC_FLAGCLR, 13, 0⟩
def SC_HOSTADD_COUNTER : Fld := ⟨.SC_HOSTADD, 61, 48⟩
def SC_HOSTADD_AMOUNT : Fld := ⟨.SC_HOSTADD, 47, 0⟩
def SC_ERR_DISCARD_POISON : Fld := ⟨.SC_ERR, 63, 48⟩
def SC_ERR_DISCARD_PART : Fld := ⟨.SC_ERR, 47, 32⟩
def SC_ERR_PART_REFUSED : Fld := ⟨.SC_ERR, 31, 16⟩
def SC_TSTAT_MISUSE : Fld := ⟨.SC_TSTAT, 63, 63⟩
def SC_TSTAT_MIG_TRUNC : Fld := ⟨.SC_TSTAT, 62, 62⟩
def SC_TSTAT_POISONED : Fld := ⟨.SC_TSTAT, 61, 61⟩
def SC_TSTAT_MISUSE_COUNT : Fld := ⟨.SC_TSTAT, 47, 32⟩
def SC_TSTAT_REALIGN_COUNT : Fld := ⟨.SC_TSTAT, 31, 0⟩
def SC_RGRANT_VALID : Fld := ⟨.SC_RGRANT, 63, 63⟩
def SC_RGRANT_GRANTEE : Fld := ⟨.SC_RGRANT, 61, 56⟩
def SC_RGRANT_LEN : Fld := ⟨.SC_RGRANT, 46, 32⟩
def SC_RGRANT_BASE : Fld := ⟨.SC_RGRANT, 13, 0⟩
def SC_WCFG_ARM : Fld := ⟨.SC_WCFG, 63, 63⟩
def SC_WCFG_DISARM : Fld := ⟨.SC_WCFG, 62, 62⟩
def SC_WCFG_STATE : Fld := ⟨.SC_WCFG, 61, 60⟩
def SC_WCFG_COUNTER : Fld := ⟨.SC_WCFG, 13, 0⟩
def SC_WTGT_TARGET : Fld := ⟨.SC_WTGT, 47, 0⟩
def SC_WPEND_PEND : Fld := ⟨.SC_WPEND, 63, 0⟩
def LG_ADDR_ADDR : Fld := ⟨.LG_ADDR, 47, 0⟩
def LG_LEN_LOOP_FIRST : Fld := ⟨.LG_LEN, 52, 32⟩
def LG_LEN_LEN : Fld := ⟨.LG_LEN, 21, 0⟩
def LG_CFG_JOB : Fld := ⟨.LG_CFG, 63, 48⟩
def LG_CFG_SLOTS : Fld := ⟨.LG_CFG, 44, 32⟩
def LG_CFG_LOOKAHEAD : Fld := ⟨.LG_CFG, 27, 16⟩
def LG_CFG_VOID_RETRY : Fld := ⟨.LG_CFG, 15, 15⟩
def LG_CFG_SUM_ALL : Fld := ⟨.LG_CFG, 14, 14⟩
def LG_CFG_DRIFT_MAX : Fld := ⟨.LG_CFG, 7, 0⟩
def LG_TIMING_STRAG_NS : Fld := ⟨.LG_TIMING, 63, 32⟩
def LG_TIMING_SETTLE_US : Fld := ⟨.LG_TIMING, 31, 16⟩
def LG_TIMING_GIVEUP_US : Fld := ⟨.LG_TIMING, 15, 0⟩
def LG_START_LO_TARGET : Fld := ⟨.LG_START_LO, 63, 0⟩
def LG_START_HI_SECONDS : Fld := ⟨.LG_START_HI, 47, 0⟩
def LG_CMD_CMD : Fld := ⟨.LG_CMD, 63, 60⟩
def LG_CMD_TIMED : Fld := ⟨.LG_CMD, 59, 59⟩
def LG_CMD_AT_PASS : Fld := ⟨.LG_CMD, 58, 58⟩
def LG_CMD_STOP_AT_PASS : Fld := ⟨.LG_CMD, 57, 57⟩
def LG_STATUS_STATE : Fld := ⟨.LG_STATUS, 63, 61⟩
def LG_STATUS_DONE : Fld := ⟨.LG_STATUS, 60, 60⟩
def LG_STATUS_MIG_PARTIAL : Fld := ⟨.LG_STATUS, 59, 59⟩
def LG_STATUS_PF_STALL : Fld := ⟨.LG_STATUS, 58, 58⟩
def LG_STATUS_REASON : Fld := ⟨.LG_STATUS, 55, 48⟩
def LG_STATUS_OPEN : Fld := ⟨.LG_STATUS, 12, 0⟩
def LG_CURSOR_PASS : Fld := ⟨.LG_CURSOR, 63, 32⟩
def LG_CURSOR_NEXT : Fld := ⟨.LG_CURSOR, 20, 0⟩
def LG_PBASE_LO_BASE : Fld := ⟨.LG_PBASE_LO, 63, 0⟩
def LG_PBASE_HI_EPOCH : Fld := ⟨.LG_PBASE_HI, 63, 48⟩
def LG_PBASE_HI_SECONDS : Fld := ⟨.LG_PBASE_HI, 47, 0⟩
def LG_TSTAT_STRAY : Fld := ⟨.LG_TSTAT, 63, 48⟩
def LG_TSTAT_UNTRACKED : Fld := ⟨.LG_TSTAT, 47, 32⟩
def LG_TSTAT_STALE : Fld := ⟨.LG_TSTAT, 31, 16⟩
def LG_TSTAT_DRIFT_SUPP : Fld := ⟨.LG_TSTAT, 15, 0⟩
def LG_FAULT_CAUSE : Fld := ⟨.LG_FAULT, 63, 56⟩
def LG_FAULT_INDEX : Fld := ⟨.LG_FAULT, 20, 0⟩
def LG_PASSES_LIMIT : Fld := ⟨.LG_PASSES, 31, 0⟩
def LG_PGSEL_GROUP : Fld := ⟨.LG_PGSEL, 11, 0⟩
def LG_PGWORD_PORTS : Fld := ⟨.LG_PGWORD, 63, 0⟩
def LG_GSTAT_NOJOB : Fld := ⟨.LG_GSTAT, 63, 32⟩
def LG_GSTAT_SLOTS_USED : Fld := ⟨.LG_GSTAT, 12, 0⟩
def QM_CFG_CTL_RESERVE : Fld := ⟨.QM_CFG, 50, 32⟩
def QM_POOL_SALT_GIB : Fld := ⟨.QM_POOL, 63, 55⟩
def QM_POOL_FREE : Fld := ⟨.QM_POOL, 50, 32⟩
def QM_POOL_USABLE : Fld := ⟨.QM_POOL, 18, 0⟩
def QM_BANK_OUT : Fld := ⟨.QM_BANK, 63, 0⟩
def QM_ERR_QERR : Fld := ⟨.QM_ERR, 63, 48⟩
def QM_ERR_MEMERR : Fld := ⟨.QM_ERR, 47, 32⟩
def QM_ERR_POOL : Fld := ⟨.QM_ERR, 31, 16⟩
def QM_CMD_CMD : Fld := ⟨.QM_CMD, 63, 60⟩
def QM_CMD_QUEUE : Fld := ⟨.QM_CMD, 14, 0⟩
def XL_INV_GO : Fld := ⟨.XL_INV, 63, 63⟩
def XL_INV_ALL : Fld := ⟨.XL_INV, 62, 62⟩
def XL_INV_TENANT : Fld := ⟨.XL_INV, 61, 56⟩
def XL_INV_VA : Fld := ⟨.XL_INV, 47, 16⟩
def XL_INV_BUSY : Fld := ⟨.XL_INV, 0, 0⟩
def QM_QSEL_QUEUE : Fld := ⟨.QM_QSEL, 14, 0⟩
def QM_QCFG_VALID : Fld := ⟨.QM_QCFG, 63, 63⟩
def QM_QCFG_TENANT : Fld := ⟨.QM_QCFG, 61, 56⟩
def QM_QCFG_EXPORT : Fld := ⟨.QM_QCFG, 55, 55⟩
def QM_QCFG_PROG : Fld := ⟨.QM_QCFG, 54, 54⟩
def QM_QCFG_SPILL : Fld := ⟨.QM_QCFG, 53, 53⟩
def QM_QCFG_REWIND : Fld := ⟨.QM_QCFG, 52, 52⟩
def QM_QCFG_FR : Fld := ⟨.QM_QCFG, 51, 51⟩
def QM_QCFG_CAP : Fld := ⟨.QM_QCFG, 50, 32⟩
def QM_QSTAT_QERR : Fld := ⟨.QM_QSTAT, 63, 63⟩
def QM_QSTAT_MARK_LOST : Fld := ⟨.QM_QSTAT, 62, 62⟩
def QM_QSTAT_FROZEN : Fld := ⟨.QM_QSTAT, 61, 61⟩
def QM_QSTAT_MARK_SET : Fld := ⟨.QM_QSTAT, 60, 60⟩
def QM_QSTAT_INCARN : Fld := ⟨.QM_QSTAT, 59, 56⟩
def QM_QSTAT_COUNT : Fld := ⟨.QM_QSTAT, 55, 32⟩
def QM_QSTAT_RESIDENT : Fld := ⟨.QM_QSTAT, 31, 13⟩
def QM_SRCSEL_SOURCE : Fld := ⟨.QM_SRCSEL, 15, 0⟩
def QM_SRCMAP_VALID : Fld := ⟨.QM_SRCMAP, 63, 63⟩
def QM_SRCMAP_QUEUE : Fld := ⟨.QM_SRCMAP, 14, 0⟩
def QT_LIMIT_FRONT : Fld := ⟨.QT_LIMIT, 63, 60⟩
def QT_LIMIT_LIMIT : Fld := ⟨.QT_LIMIT, 56, 38⟩
def QT_LIMIT_SPILL_MARK : Fld := ⟨.QT_LIMIT, 37, 19⟩
def QT_LIMIT_DRAIN_MARK : Fld := ⟨.QT_LIMIT, 18, 0⟩
def QT_UNITQ_UNIT3 : Fld := ⟨.QT_UNITQ, 63, 48⟩
def QT_UNITQ_UNIT2 : Fld := ⟨.QT_UNITQ, 47, 32⟩
def QT_UNITQ_UNIT1 : Fld := ⟨.QT_UNITQ, 31, 16⟩
def QT_UNITQ_UNIT0 : Fld := ⟨.QT_UNITQ, 15, 0⟩
def QT_USE_FULL : Fld := ⟨.QT_USE, 63, 63⟩
def QT_USE_RESIDENT : Fld := ⟨.QT_USE, 50, 32⟩
def QT_USE_REFUSED : Fld := ⟨.QT_USE, 31, 0⟩
def SP_BASE_BASE : Fld := ⟨.SP_BASE, 47, 16⟩
def SP_SIZE_EN : Fld := ⟨.SP_SIZE, 63, 63⟩
def SP_SIZE_HIGH : Fld := ⟨.SP_SIZE, 61, 32⟩
def SP_SIZE_CELLS : Fld := ⟨.SP_SIZE, 29, 0⟩
def SP_LEVEL_CROSSED : Fld := ⟨.SP_LEVEL, 63, 63⟩
def SP_LEVEL_RING_FULL : Fld := ⟨.SP_LEVEL, 62, 62⟩
def SP_LEVEL_LEVEL : Fld := ⟨.SP_LEVEL, 29, 0⟩
def SP_PEAK_CLEAR : Fld := ⟨.SP_PEAK, 63, 63⟩
def SP_PEAK_PEAK : Fld := ⟨.SP_PEAK, 29, 0⟩
def XL_BASE_VALID : Fld := ⟨.XL_BASE, 63, 63⟩
def XL_BASE_TARGET : Fld := ⟨.XL_BASE, 62, 62⟩
def XL_BASE_ADDR : Fld := ⟨.XL_BASE, 51, 16⟩
def DS_STAT_STATE : Fld := ⟨.DS_STAT, 63, 62⟩
def DS_STAT_LAST : Fld := ⟨.DS_STAT, 55, 48⟩
def DS_STAT_POS : Fld := ⟨.DS_STAT, 47, 0⟩
def DS_FAULT_CAUSE : Fld := ⟨.DS_FAULT, 63, 56⟩
def DS_FAULT_ADDR : Fld := ⟨.DS_FAULT, 47, 0⟩
def DS_CMD_RESUME : Fld := ⟨.DS_CMD, 63, 63⟩
def DS_CMD_ABANDON : Fld := ⟨.DS_CMD, 62, 62⟩
def WN_CFG_EN : Fld := ⟨.WN_CFG, 63, 63⟩
def WN_CFG_SEAL_IRQ : Fld := ⟨.WN_CFG, 62, 62⟩
def WN_CFG_ALIGN : Fld := ⟨.WN_CFG, 61, 60⟩
def WN_CFG_GRP : Fld := ⟨.WN_CFG, 59, 58⟩
def WN_CFG_K : Fld := ⟨.WN_CFG, 57, 53⟩
def WN_CFG_MAXK : Fld := ⟨.WN_CFG, 52, 48⟩
def WN_GEN_CUR : Fld := ⟨.WN_GEN, 63, 32⟩
def WN_GEN_NEXT : Fld := ⟨.WN_GEN, 31, 0⟩
def WN_CMD_SEAL : Fld := ⟨.WN_CMD, 63, 63⟩
def WN_CMD_VOID : Fld := ⟨.WN_CMD, 62, 62⟩
def WN_CMD_GEN : Fld := ⟨.WN_CMD, 31, 0⟩
def WN_LAST_OUTCOME : Fld := ⟨.WN_LAST, 63, 56⟩
def WN_LAST_GEN : Fld := ⟨.WN_LAST, 31, 0⟩
def WN_LASTCNT_RECORDS : Fld := ⟨.WN_LASTCNT, 63, 32⟩
def WN_LASTCNT_DIGEST : Fld := ⟨.WN_LASTCNT, 31, 0⟩
def WN_STAT_STATE : Fld := ⟨.WN_STAT, 63, 62⟩
def WN_STAT_REFUSED : Fld := ⟨.WN_STAT, 47, 32⟩
def WN_STAT_VOIDS : Fld := ⟨.WN_STAT, 31, 16⟩
def EX_STREAM_VALID : Fld := ⟨.EX_STREAM, 63, 63⟩
def EX_STREAM_TAG : Fld := ⟨.EX_STREAM, 62, 62⟩
def EX_STREAM_PORT : Fld := ⟨.EX_STREAM, 61, 60⟩
def EX_STREAM_ALT_VALID : Fld := ⟨.EX_STREAM, 59, 59⟩
def EX_STREAM_ALT : Fld := ⟨.EX_STREAM, 58, 57⟩
def EX_STREAM_WEIGHT : Fld := ⟨.EX_STREAM, 51, 48⟩
def EX_STREAM_VID : Fld := ⟨.EX_STREAM, 43, 32⟩
def EX_STREAM_STREAM : Fld := ⟨.EX_STREAM, 15, 0⟩
def EX_DMAC_DMAC : Fld := ⟨.EX_DMAC, 47, 0⟩
def EX_SHED_T3 : Fld := ⟨.EX_SHED, 63, 56⟩
def EX_SHED_T2 : Fld := ⟨.EX_SHED, 55, 48⟩
def EX_SHED_HYST : Fld := ⟨.EX_SHED, 47, 40⟩
def EX_SHED_DMAX : Fld := ⟨.EX_SHED, 39, 36⟩
def EX_SHED_STEP_US : Fld := ⟨.EX_SHED, 15, 0⟩
def EX_SHSTAT_SHED3 : Fld := ⟨.EX_SHSTAT, 63, 63⟩
def EX_SHSTAT_D : Fld := ⟨.EX_SHSTAT, 62, 59⟩
def EX_SHSTAT_P : Fld := ⟨.EX_SHSTAT, 55, 48⟩
def EX_SHSTAT_SHED : Fld := ⟨.EX_SHSTAT, 47, 0⟩
def EX_CRSTAT_EN3 : Fld := ⟨.EX_CRSTAT, 63, 63⟩
def EX_CRSTAT_EN2 : Fld := ⟨.EX_CRSTAT, 62, 62⟩
def EX_CRSTAT_EN1 : Fld := ⟨.EX_CRSTAT, 61, 61⟩
def EX_CRSTAT_LEFT3 : Fld := ⟨.EX_CRSTAT, 47, 32⟩
def EX_CRSTAT_LEFT2 : Fld := ⟨.EX_CRSTAT, 31, 16⟩
def EX_CRSTAT_LEFT1 : Fld := ⟨.EX_CRSTAT, 15, 0⟩
def EX_CFG_EN : Fld := ⟨.EX_CFG, 63, 63⟩
def EX_CFG_MODE : Fld := ⟨.EX_CFG, 62, 61⟩
def EX_CFG_RESERVE : Fld := ⟨.EX_CFG, 55, 48⟩
def EX_CFG_FLUSH_NS : Fld := ⟨.EX_CFG, 47, 32⟩
def EX_CFG_CRED_TO : Fld := ⟨.EX_CFG, 31, 16⟩
def EX_MAC_MAC : Fld := ⟨.EX_MAC, 47, 0⟩
def EX_PFC_PFC_EN : Fld := ⟨.EX_PFC, 63, 63⟩
def EX_PFC_PRIO3 : Fld := ⟨.EX_PFC, 11, 9⟩
def EX_PFC_PRIO2 : Fld := ⟨.EX_PFC, 8, 6⟩
def EX_PFC_PRIO1 : Fld := ⟨.EX_PFC, 5, 3⟩
def EX_PFC_PRIO0 : Fld := ⟨.EX_PFC, 2, 0⟩
def EX_GSHED_FREE3 : Fld := ⟨.EX_GSHED, 50, 32⟩
def EX_GSHED_FREE2 : Fld := ⟨.EX_GSHED, 18, 0⟩
def EX_STAT_RET_FRAMES : Fld := ⟨.EX_STAT, 63, 48⟩
def EX_STAT_RX_DISCARD : Fld := ⟨.EX_STAT, 47, 32⟩
def EX_STAT_LINK_ABORT : Fld := ⟨.EX_STAT, 31, 16⟩
def EX_PORT_STATE : Fld := ⟨.EX_PORT, 63, 61⟩
def EX_PORT_RATE : Fld := ⟨.EX_PORT, 60, 58⟩
def EX_PORT_LANES : Fld := ⟨.EX_PORT, 55, 48⟩
def EX_PORT_FAILED : Fld := ⟨.EX_PORT, 47, 40⟩
def EX_PORT_PAUSED_US : Fld := ⟨.EX_PORT, 31, 0⟩
def IM_UNIT_MAPPED_OUT : Fld := ⟨.IM_UNIT, 63, 63⟩
def IM_UNIT_BUSY : Fld := ⟨.IM_UNIT, 62, 62⟩
def IM_UNIT_TENANT : Fld := ⟨.IM_UNIT, 61, 56⟩
def IM_UNIT_DUTY : Fld := ⟨.IM_UNIT, 47, 32⟩
def IM_UNIT_LAUNCHES : Fld := ⟨.IM_UNIT, 31, 0⟩
def IM_TCFG_SHARE : Fld := ⟨.IM_TCFG, 63, 60⟩
def IM_TCFG_WS_BASE : Fld := ⟨.IM_TCFG, 59, 52⟩
def IM_TCFG_WS_LEN : Fld := ⟨.IM_TCFG, 51, 43⟩
def IM_TCFG_WBW : Fld := ⟨.IM_TCFG, 42, 34⟩
def IM_TSTAT_QUEUED : Fld := ⟨.IM_TSTAT, 63, 59⟩
def IM_TSTAT_ERRORS : Fld := ⟨.IM_TSTAT, 47, 32⟩
def IM_TSTAT_TICKET : Fld := ⟨.IM_TSTAT, 31, 0⟩
def HL_TEN_ALL : Fld := ⟨.HL_TEN, 63, 63⟩
def HL_TEN_IRQ : Fld := ⟨.HL_TEN, 62, 62⟩
def HL_TEN_SKIPPED : Fld := ⟨.HL_TEN, 47, 32⟩
def HL_TEN_WITHHELD : Fld := ⟨.HL_TEN, 31, 16⟩
def GV_CFG_CAP : Fld := ⟨.GV_CFG, 63, 56⟩
def GV_CFG_FLOOR : Fld := ⟨.GV_CFG, 55, 40⟩
def GV_CFG_WINDOW_S : Fld := ⟨.GV_CFG, 31, 16⟩
def GV_SPARE_SPARE : Fld := ⟨.GV_SPARE, 63, 48⟩
def GV_SPARE_PASSED : Fld := ⟨.GV_SPARE, 47, 24⟩
def GV_SPARE_SUPPRESSED : Fld := ⟨.GV_SPARE, 23, 0⟩
def GV_LEVEL_LEVEL : Fld := ⟨.GV_LEVEL, 39, 0⟩
def HM_WADDR_ADDR : Fld := ⟨.HM_WADDR, 47, 16⟩
def HM_WORK_WKIB : Fld := ⟨.HM_WORK, 63, 44⟩
def HM_WORK_WORK : Fld := ⟨.HM_WORK, 43, 0⟩
def HM_CAD_LIMIT_US : Fld := ⟨.HM_CAD, 63, 32⟩
def HM_CAD_TARGET_US : Fld := ⟨.HM_CAD, 31, 0⟩
def HM_CTL_LOAD : Fld := ⟨.HM_CTL, 63, 63⟩
def HM_CTL_UNLOAD : Fld := ⟨.HM_CTL, 62, 62⟩
def HM_CTL_STATE : Fld := ⟨.HM_CTL, 61, 59⟩
def HM_CTL_REDUCED : Fld := ⟨.HM_CTL, 58, 58⟩
def HM_CTL_UNDERRUN : Fld := ⟨.HM_CTL, 57, 57⟩
def HM_CTL_DONE : Fld := ⟨.HM_CTL, 56, 56⟩
def HM_CTL_REASON : Fld := ⟨.HM_CTL, 55, 48⟩
def HM_CTL_PERIOD_US : Fld := ⟨.HM_CTL, 31, 0⟩
def LS_CFG_EN : Fld := ⟨.LS_CFG, 63, 63⟩
def LS_CFG_PERIOD_US : Fld := ⟨.LS_CFG, 23, 8⟩
def LS_CFG_MISS_MAX : Fld := ⟨.LS_CFG, 7, 0⟩
def LS_ENT_STATE : Fld := ⟨.LS_ENT, 63, 61⟩
def LS_ENT_EXPEL_SENT : Fld := ⟨.LS_ENT, 60, 60⟩
def LS_ENT_LAST : Fld := ⟨.LS_ENT, 59, 57⟩
def LS_ENT_VIEW : Fld := ⟨.LS_ENT, 55, 54⟩
def LS_ENT_DECIDE : Fld := ⟨.LS_ENT, 53, 52⟩
def LS_ENT_JOB_VIEW : Fld := ⟨.LS_ENT, 51, 50⟩
def LS_ENT_MISSES : Fld := ⟨.LS_ENT, 39, 32⟩
def LS_ENT_RENEWALS : Fld := ⟨.LS_ENT, 31, 0⟩
def PR_CTL_EN : Fld := ⟨.PR_CTL, 63, 63⟩
def PR_CTL_AUTO : Fld := ⟨.PR_CTL, 62, 62⟩
def PR_CTL_ADOPT_TIME : Fld := ⟨.PR_CTL, 61, 61⟩
def PR_CTL_ADMIT_TEN : Fld := ⟨.PR_CTL, 53, 48⟩
def PR_CTL_ADMIT_LEAD : Fld := ⟨.PR_CTL, 47, 32⟩
def PR_CTL_PAIR_ID : Fld := ⟨.PR_CTL, 15, 0⟩
def PR_PEER_PEER_ID : Fld := ⟨.PR_PEER, 63, 48⟩
def PR_PEER_PEER_ADDR : Fld := ⟨.PR_PEER, 47, 0⟩
def PR_CMD_LEAVE : Fld := ⟨.PR_CMD, 63, 63⟩
def PR_CMD_YIELD : Fld := ⟨.PR_CMD, 62, 62⟩
def PR_CMD_TAKE : Fld := ⟨.PR_CMD, 61, 61⟩
def PR_CMD_ADMIT : Fld := ⟨.PR_CMD, 60, 60⟩
def PR_STATUS_STATE : Fld := ⟨.PR_STATUS, 63, 60⟩
def PR_STATUS_PEER_STATE : Fld := ⟨.PR_STATUS, 59, 56⟩
def PR_STATUS_JOIN_READY : Fld := ⟨.PR_STATUS, 55, 55⟩
def PR_STATUS_ADMIT_LATE : Fld := ⟨.PR_STATUS, 54, 54⟩
def PR_STATUS_MISS_BOTH : Fld := ⟨.PR_STATUS, 53, 48⟩
def PR_STATUS_MISS_MIR : Fld := ⟨.PR_STATUS, 47, 42⟩
def PR_STATUS_REASON : Fld := ⟨.PR_STATUS, 39, 32⟩
def PR_STATUS_APPLIED : Fld := ⟨.PR_STATUS, 31, 0⟩
def PR_OWN_OWN : Fld := ⟨.PR_OWN, 63, 0⟩
def PR_TAKEN_TAKEN : Fld := ⟨.PR_TAKEN, 63, 0⟩
def PR_LINK_RETX : Fld := ⟨.PR_LINK, 63, 48⟩
def PR_LINK_DISCARD : Fld := ⟨.PR_LINK, 47, 32⟩
def PR_LINK_MISSED : Fld := ⟨.PR_LINK, 31, 16⟩
def PR_LINK_LANES : Fld := ⟨.PR_LINK, 15, 8⟩
def PR_DELAY_D : Fld := ⟨.PR_DELAY, 63, 32⟩
def PR_DELAY_OFS : Fld := ⟨.PR_DELAY, 31, 0⟩
def PR_TEN_SC_MIRROR : Fld := ⟨.PR_TEN, 63, 63⟩
def PR_TEN_WIN_MIRROR : Fld := ⟨.PR_TEN, 62, 62⟩
def PR_TEN_GOV_MIRROR : Fld := ⟨.PR_TEN, 61, 61⟩
def MYB_CTRL_BLOCK_RESET : Fld := ⟨.MYB_CTRL, 63, 63⟩
def MYB_STATUS_READY : Fld := ⟨.MYB_STATUS, 63, 63⟩
def MYB_STATUS_REF_LOCK : Fld := ⟨.MYB_STATUS, 62, 62⟩
def MYB_STATUS_REF_LOST : Fld := ⟨.MYB_STATUS, 61, 61⟩
def MYB_STATUS_RESET_CAUSE : Fld := ⟨.MYB_STATUS, 60, 58⟩
def MYB_HOSTERR_KIND : Fld := ⟨.MYB_HOSTERR, 63, 56⟩
def MYB_HOSTERR_LAST : Fld := ⟨.MYB_HOSTERR, 55, 32⟩
def MYB_HOSTERR_COUNT : Fld := ⟨.MYB_HOSTERR, 31, 0⟩
def MYB_BIST_GO : Fld := ⟨.MYB_BIST, 63, 63⟩
def MYB_BIST_UNITS : Fld := ⟨.MYB_BIST, 4, 0⟩
def MYB_BIST_STAT_BUSY : Fld := ⟨.MYB_BIST_STAT, 63, 63⟩
def MYB_BIST_STAT_DONE : Fld := ⟨.MYB_BIST_STAT, 62, 62⟩
def MYB_BIST_STAT_REFUSED : Fld := ⟨.MYB_BIST_STAT, 61, 61⟩
def MYB_BIST_STAT_PASS : Fld := ⟨.MYB_BIST_STAT, 60, 60⟩
def MYB_BIST_STAT_FAILED : Fld := ⟨.MYB_BIST_STAT, 4, 0⟩
def MYB_BIST_CORES_CORES : Fld := ⟨.MYB_BIST_CORES, 63, 0⟩
def MYB_BIST_BANKS_BANKS : Fld := ⟨.MYB_BIST_BANKS, 63, 0⟩
def MYB_BIST_MISC_MIRROR : Fld := ⟨.MYB_BIST_MISC, 17, 16⟩
def MYB_BIST_MISC_EXPORT : Fld := ⟨.MYB_BIST_MISC, 15, 8⟩
def MYB_BIST_MISC_IMAGO : Fld := ⟨.MYB_BIST_MISC, 3, 0⟩
def IRQ_PEND_BITS : Fld := ⟨.IRQ_PEND, 63, 0⟩
def IRQ_MASK_BITS : Fld := ⟨.IRQ_MASK, 63, 0⟩
def IRQ_TCAUSE_HEALTH : Fld := ⟨.IRQ_TCAUSE, 4, 4⟩
def IRQ_TCAUSE_WINDOW : Fld := ⟨.IRQ_TCAUSE, 3, 3⟩
def IRQ_TCAUSE_MAILBOX : Fld := ⟨.IRQ_TCAUSE, 2, 2⟩
def IRQ_TCAUSE_CORE_FAIL : Fld := ⟨.IRQ_TCAUSE, 1, 1⟩
def IRQ_TCAUSE_TRAP : Fld := ⟨.IRQ_TCAUSE, 0, 0⟩
def PW_CFG_CORE_MAX : Fld := ⟨.PW_CFG, 63, 56⟩
def PW_CFG_IMAGO_MIN : Fld := ⟨.PW_CFG, 55, 48⟩
def PW_CFG_GUARD : Fld := ⟨.PW_CFG, 47, 40⟩
def PW_GRANT_GRANT : Fld := ⟨.PW_GRANT, 63, 54⟩
def PW_GRANT_CUTS : Fld := ⟨.PW_GRANT, 31, 0⟩
def PW_ALLOC_FIXED : Fld := ⟨.PW_ALLOC, 63, 54⟩
def PW_ALLOC_CORE : Fld := ⟨.PW_ALLOC, 53, 44⟩
def PW_ALLOC_IMAGO : Fld := ⟨.PW_ALLOC, 43, 34⟩
def PW_ALLOC_UNUSED : Fld := ⟨.PW_ALLOC, 33, 24⟩
def PW_ALLOC_SHORT : Fld := ⟨.PW_ALLOC, 23, 23⟩
def PW_SAMP_EN : Fld := ⟨.PW_SAMP, 63, 63⟩
def PW_SAMP_DETAIL : Fld := ⟨.PW_SAMP, 62, 62⟩
def PW_SAMP_PMBUS_ADDR : Fld := ⟨.PW_SAMP, 61, 55⟩
def PW_SAMP_PERIOD_US : Fld := ⟨.PW_SAMP, 31, 0⟩
def PW_SENSE_VIN : Fld := ⟨.PW_SENSE, 63, 48⟩
def PW_SENSE_IIN : Fld := ⟨.PW_SENSE, 47, 32⟩
def PW_SENSE_PIN : Fld := ⟨.PW_SENSE, 31, 16⟩
def PW_SENSE_STATUS : Fld := ⟨.PW_SENSE, 15, 0⟩
def PW_SENSE2_TEMP : Fld := ⟨.PW_SENSE2, 63, 48⟩
def PW_SENSE2_FAILS : Fld := ⟨.PW_SENSE2, 47, 32⟩
def PW_SENSE2_SAMPLES : Fld := ⟨.PW_SENSE2, 31, 0⟩
def BD_PPS_ADVANCE : Fld := ⟨.BD_PPS, 7, 0⟩
def BD_LTRIM_TRIM : Fld := ⟨.BD_LTRIM, 63, 0⟩
def TN_PAGE_FIRST : Fld := ⟨.TN_PAGE, 8, 0⟩
def SC_COUNT_POISONED : Fld := ⟨.SC_COUNT, 63, 63⟩
def SC_COUNT_SAT : Fld := ⟨.SC_COUNT, 62, 62⟩
def SC_COUNT_OVER : Fld := ⟨.SC_COUNT, 61, 61⟩
def SC_COUNT_SHORT : Fld := ⟨.SC_COUNT, 60, 60⟩
def SC_COUNT_MISUSE : Fld := ⟨.SC_COUNT, 59, 59⟩
def SC_COUNT_VALUE : Fld := ⟨.SC_COUNT, 47, 0⟩
def SC_EXP_BARRIER : Fld := ⟨.SC_EXP, 63, 63⟩
def SC_EXP_EXP : Fld := ⟨.SC_EXP, 47, 0⟩
def SC_AUX_LOST : Fld := ⟨.SC_AUX, 63, 48⟩
def SC_AUX_REALIGNS : Fld := ⟨.SC_AUX, 47, 32⟩
def SC_AUX_DRIFT : Fld := ⟨.SC_AUX, 31, 0⟩
def CTR_LIVE_VALUE : Fld := ⟨.CTR_LIVE, 63, 0⟩
def HV_SHADOW_VALUE : Fld := ⟨.HV_SHADOW, 63, 0⟩
def RX_RING_WORD : Fld := ⟨.RX_RING, 63, 0⟩
def TX_CTL_LAUNCH : Fld := ⟨.TX_CTL, 63, 62⟩
def TX_CTL_DONE : Fld := ⟨.TX_CTL, 61, 61⟩
def TX_CTL_EPX : Fld := ⟨.TX_CTL, 60, 60⟩
def TX_CTL_INS_ERR : Fld := ⟨.TX_CTL, 59, 59⟩
def TX_CTL_WD : Fld := ⟨.TX_CTL, 58, 58⟩
def TX_CTL_LEN : Fld := ⟨.TX_CTL, 55, 48⟩
def TX_CTL_TX_EPOCH : Fld := ⟨.TX_CTL, 47, 32⟩
def TX_CTL_PORT : Fld := ⟨.TX_CTL, 8, 0⟩
def TX_OFS_OFS_ORIGIN : Fld := ⟨.TX_OFS, 63, 56⟩
def TX_OFS_OFS_CORR : Fld := ⟨.TX_OFS, 55, 48⟩
def TX_OFS_OFS_GEN : Fld := ⟨.TX_OFS, 47, 40⟩
def TX_OFS_CORR_MODE : Fld := ⟨.TX_OFS, 39, 38⟩
def TX_CORR_REF_CORR_REF : Fld := ⟨.TX_CORR_REF, 63, 0⟩
def TX_STAMP_TX_STAMP : Fld := ⟨.TX_STAMP, 63, 0⟩
def TX_FRAME_WORD : Fld := ⟨.TX_FRAME, 63, 0⟩
def PI_TIME_WORD : Fld := ⟨.PI_TIME, 63, 0⟩
def PI_TEN_WORD : Fld := ⟨.PI_TEN, 63, 0⟩
def PI_LIVE_WORD : Fld := ⟨.PI_LIVE, 63, 0⟩
def PI_SOFT_WORD : Fld := ⟨.PI_SOFT, 63, 0⟩
def SOFT_PAGE_WORD : Fld := ⟨.SOFT_PAGE, 63, 0⟩

end Sys2Proof.Machine
end

