-- ==== Sys2Proof/Machine/Record.lean ====
section
/-! DEFINITION. Bytes, CRCs and records: the little-endian layout of records (R7, R33, R34), the two CRCs that the manual
names (CRC-32C of R283 and R321, the FCS of IEEE 802.3 and the CRC-6 of R71) and the record as the block holds it. -/

namespace Sys2Proof.Machine

/-- The `n` low bytes of a number, least significant first (R7). -/
def leBytes : Nat → Nat → List Byte
  | 0, _ => []
  | n + 1, v => BitVec.ofNat 8 v :: leBytes n (v / 256)

/-- The number that bytes spell, least significant first (R7). -/
def leNat : List Byte → Nat
  | [] => 0
  | b :: bs => b.toNat + 256 * leNat bs

/-- The `n` low bytes of a number, most significant first (standard formats, R7). -/
def beBytes (n v : Nat) : List Byte := (leBytes n v).reverse

/-- The number that bytes spell, most significant first. -/
def beNat (bs : List Byte) : Nat := leNat bs.reverse

/-- The list cut or filled with zero bytes to length `n`. -/
def padTo : Nat → List Byte → List Byte
  | 0, _ => []
  | n + 1, [] => 0 :: padTo n []
  | n + 1, b :: bs => b :: padTo n bs

/-- `bs` with `new` written from offset `at_` on; bytes that fall outside are dropped. -/
def overwrite : List Byte → Nat → List Byte → List Byte
  | [], _, _ => []
  | b :: bs, 0, [] => b :: bs
  | _ :: bs, 0, n :: ns => n :: overwrite bs 0 ns
  | b :: bs, at_ + 1, new => b :: overwrite bs at_ new

/-- One bit of a reflected CRC: shift right and add the polynomial when the bit that leaves is 1. -/
def crcBit (poly c : Nat) : Nat := if c % 2 = 1 then (c / 2) ^^^ poly else c / 2

/-- One byte of a reflected CRC. -/
def crcByte (poly c : Nat) (b : Byte) : Nat :=
  let c0 := c ^^^ b.toNat
  crcBit poly (crcBit poly (crcBit poly (crcBit poly (crcBit poly (crcBit poly (crcBit poly (crcBit poly c0)))))))

/-- A reflected 32-bit CRC with initial value and final XOR of all ones. -/
def crc32Of (poly : Nat) (bs : List Byte) : Nat := (bs.foldl (crcByte poly) 0xFFFFFFFF) ^^^ 0xFFFFFFFF

/-- CRC-32C (Castagnoli) of R283 and R321. PRESUMED: the parameters of the named standard (reflected, initial value and final
XOR of all ones, polynomial 0x1EDC6F41). -/
def crc32c (bs : List Byte) : Nat := crc32Of 0x82F63B78 bs

/-- The FCS of IEEE 802.3. PRESUMED: the parameters of the named standard. -/
def crc32 (bs : List Byte) : Nat := crc32Of 0xEDB88320 bs

/-- CRC-6 of R71 with polynomial x^6 + x + 1 over the `n` low bits of `v`, most significant bit first, from the register value
`c`. -/
def crc6 (v : Nat) : Nat → Nat → Nat
  | 0, c => c
  | n + 1, c =>
    let top := c / 32 % 2
    let b := v / 2 ^ n % 2
    let c' := c * 2 % 64
    crc6 v n (if (top + b) % 2 = 1 then c' ^^^ 3 else c')

/-- A record as the block holds it (R33, R34, R283): the header's fields, the short stamp, the payload, and the sideband's epoch
and window generation (0 for a record of no window). `gone` is the sideband's GONE bit; `err` says which slot of the record, if
any, has an uncorrectable error (R284): 0 none, 1 slot 0, 2 another slot. -/
structure Rec where
  typ : Nat
  slots : Nat
  cls : Nat
  tenant : Nat
  source : Nat
  seq : Nat
  stamp : Nat
  payload : List Byte
  epoch : Nat := 0
  gen : Nat := 0
  gone : Bool := false
  err : Nat := 0
  deriving DecidableEq, Repr

/-- Slots that a payload of `len` bytes needs: 16 bytes in slot 0 and 32 in each further slot (R33). -/
def slotsOf (len : Nat) : Nat := if len ≤ 16 then 1 else 1 + (len - 16 + 31) / 32

/-- Payload bytes of a record of `n` slots (R33). -/
def payloadLen (n : Nat) : Nat := 32 * n - 16

/-- The header word of R34 with the given PROV bit. -/
def Rec.header (r : Rec) (prov : Bool) : Nat :=
  r.typ % 256 * 2 ^ 56 + (r.slots - 1) % 8 * 2 ^ 53 + r.cls % 4 * 2 ^ 51 + (if prov then 2 ^ 50 else 0) +
    r.tenant % 64 * 2 ^ 44 + r.source % 65536 * 2 ^ 28 + r.seq % 2 ^ 28

/-- The bytes of a record, slot after slot (R33). -/
def Rec.bytes (r : Rec) (prov : Bool) : List Byte :=
  leBytes 8 (r.header prov) ++ leBytes 8 r.stamp ++ padTo (payloadLen r.slots) r.payload

/-- A record's share of a DIGEST: CRC-32C over its slots with PROV read as 0 (R321). -/
def Rec.crc (r : Rec) : Nat := crc32c (r.bytes false)

/-- The types that belong to no window (R38). -/
def noWindow (typ : Nat) : Bool := typ == 0x60 || typ == 0x30 || typ == 0x50 || typ == 0x51 || typ == 0x52

/-- The slots of the records before the `i`-th of a list. -/
def slotsBefore (rs : List Rec) : Nat := (rs.map (·.slots)).sum

end Sys2Proof.Machine
end

