-- ==== Sys2Proof/Machine/SMap.lean ====
section
/-! DEFINITION. Sparse maps: a list of (key, value) pairs with strictly rising keys and no entry equal to what an unlisted key
reads as, so that equal maps are equal data. Registers, arrays, queues and memories are held in this form. -/

namespace Sys2Proof.Machine

/-- A sparse map from numbers to values. -/
abbrev SMap (α : Type) := List (Nat × α)

/-- What key `x` reads as; an unlisted key reads as `d`. -/
def smGet {α : Type} (d : α) : SMap α → Nat → α
  | [], _ => d
  | (k, v) :: m, x => if x < k then d else if x = k then v else smGet d m x

/-- The map without its leading entries of keys up to `x`. -/
def smDrop {α : Type} : SMap α → Nat → SMap α
  | [], _ => []
  | (k, v) :: m, x => if k ≤ x then smDrop m x else (k, v) :: m

/-- The map in which key `x` reads as `v`; storing the value of an unlisted key removes the entry. -/
def smSet {α : Type} [DecidableEq α] (d : α) : SMap α → Nat → α → SMap α
  | [], x, v => if v = d then [] else [(x, v)]
  | (k, w) :: m, x, v =>
    if x < k then (if v = d then (k, w) :: m else (x, v) :: (k, w) :: m)
    else if x = k then (if v = d then smDrop m x else (x, v) :: m)
    else (k, w) :: smSet d m x v

/-- The canonical form: keys rise strictly and no entry holds the value of an unlisted key. -/
def smWf {α : Type} [DecidableEq α] (d : α) : SMap α → Bool
  | [] => true
  | [(_, v)] => decide (v ≠ d)
  | (k, v) :: (k', v') :: m => decide (v ≠ d) && decide (k < k') && smWf d ((k', v') :: m)

/-- The listed entries that satisfy `p`, as keys. -/
def smKeys {α : Type} (p : Nat → α → Bool) (m : SMap α) : List Nat :=
  (m.filter (fun e => p e.1 e.2)).map (·.1)

/-- The smallest key at or above `a` that is below `b` and not listed. -/
def smFree {α : Type} (m : SMap α) : Nat → Nat → Nat → Option Nat
  | 0, _, _ => none
  | fuel + 1, a, b =>
    if b ≤ a then none
    else match m.find? (fun e => e.1 == a) with
      | none => some a
      | some _ => smFree m fuel (a + 1) b

end Sys2Proof.Machine
end

