-- ==== Sys2Proof/Machine/UnitsA.lean ====
section
/-! DEFINITION. The state that the time engine, the queue manager, the window unit and the export unit hold beside their
registers, as plain data. -/

namespace Sys2Proof.Machine

/-! ### Time engine (chapter Fabric time) -/

/-- A conversion history entry (R50): offset in 2^-40 ns, raw_ref, increment, epoch, and the raw count at which its successor took
effect (R51). -/
structure HistEntry where
  ofs : Nat
  raw : Nat
  incr : Nat
  epoch : Nat
  succ : Option Nat := none
  deriving DecidableEq, Repr

/-- A pending commit (R60): the staged offset in 2^-40 ns, AT, the staged increment and, for a step, STEP_EPOCH; `adopt` marks the adoption of a
partner's time (R391). -/
structure Commit where
  step : Bool
  at_ : Nat
  ofs : Nat
  incr : Nat
  epoch : Nat
  adopt : Bool := false
  deriving DecidableEq, Repr

/-- A port tile's receiver of the time bus (R71, R73): its last good word, the good word before it, the periods since a good word, and
whether it marks the switch's own port stamps as disciplined. -/
structure Tile where
  word : BitVec 256 := 0
  prev : BitVec 256 := 0
  missed : Nat := 0
  disc : Bool := false
  deriving DecidableEq, Repr

/-- A sluice gate's copied target and configuration (R85, R87); `copied` says that the gate has been armed, and `late` is the raw count
at which a gate became due LATE whose turn among the gates of that tick has not come. -/
structure Gate where
  copied : Bool := false
  lo : Nat := 0
  hi : Nat := 0
  signed : Bool := true
  noLate : Bool := false
  action : Nat := 0
  owner : Nat := 0
  queue : Nat := 0
  port : Nat := 0
  slot : Nat := 0
  guard_ : Nat := 0
  duration : Nat := 0
  epoch : Nat := 0
  late : Option Nat := none
  deriving DecidableEq, Repr

/-- A posted control transmit slot (R79, R80): posted, released (by gate `byGate`, or by GO) on `port`, and whether a step has taken effect since GO. -/
structure TxPost where
  posted : Bool := false
  launched : Bool := false
  port : Nat := 0
  byGate : Option Nat := none
  stepped : Bool := false
  deriving DecidableEq, Repr

/-- A switch egress queue as EGRESS_OPEN and EGRESS_CLOSE leave it (R86): closed, open until an EGRESS_CLOSE, or open until a fabric
time in 2^-40 ns. -/
inductive Egress where
  | closed
  | opened
  | until (t : Nat)
  deriving DecidableEq, Repr

/-- The time engine. `raw` is the raw count (R43); `sec`, `ns` and `frac` are the accumulator of SN mode (R47); `hist` holds the
kept history entries, newest first (R50); `runAt` is the raw count at which RUN was set (R46). -/
structure TimeEngine where
  raw : BitVec 80 := 0
  runAt : Nat := 0
  sec : BitVec 48 := 0
  ns : Nat := 0
  frac : Nat := 0
  hist : List HistEntry := []
  pendIncr : List (Nat × Nat) := []
  commit : Option Commit := none
  holdRun : Bool := false
  ppsHigh : Bool := false
  ppsLeft : Nat := 0
  tiles : SMap Tile := []
  gates : SMap Gate := []
  lastGate : Option Nat := none
  egress : SMap Egress := []
  tx : SMap TxPost := []
  deriving DecidableEq, Repr

/-! ### Queue manager and DMA rings (chapter Queues, the brine pool and the salt pans) -/

/-- A cell of a queue (R282, R283): its index in the pool, its records in slot order and whether it is closed. START, USED, EPOCH and
GEN of the sideband follow from the records. -/
structure Cell where
  idx : Nat
  recs : List Rec
  closed : Bool := false
  deriving DecidableEq, Repr

/-- The rewind mark of a queue (R297). -/
inductive Mark where
  | none
  | set (gen cell slot : Nat)
  | lost (gen : Nat)
  deriving DecidableEq, Repr

/-- A queue's segments and mark (R297, R299). `desc` is the state of its two descriptor copies (R293): 0 sound, 1 mismatch,
2 parity failure. COUNT, RESIDENT, INCARN and the flags are in QM_QSTAT. -/
structure Queue where
  front : List Cell := []
  back : List Cell := []
  mark : Mark := .none
  desc : Nat := 0
  deriving DecidableEq, Repr

/-- An old incarnation handed to the scrubber (R293, R294): the cells that it still holds. -/
structure Orphan where
  queue : Nat
  incarn : Nat
  tenant : Nat
  cells : List Nat
  deriving DecidableEq, Repr

/-- An entry of a tenant's ring (R301, R302): the queue and incarnation that its sideband names, and the cell. -/
structure RingEnt where
  queue : Nat
  incarn : Nat
  cell : Cell
  deriving DecidableEq, Repr

/-- A tenant's ring (R300 to R302): its entries oldest first, the index of the oldest, the spill and drain in progress, the queue that
spill served last, whether DEQ, PEEK or export has asked for a remote cell, and whether the entry that a stalled drain reads had been read
and checked when it stalled (R310). -/
structure Ring where
  ents : List RingEnt := []
  head : Nat := 0
  spill : Option RingEnt := none
  drain : Bool := false
  lastQ : Nat := 0
  want : Bool := false
  checked : Bool := false
  deriving DecidableEq, Repr

/-- The queue manager. `used` lists the allocated cells; `bankPtr` is the bank that the next free cell comes from first (R281);
`seqs` holds the next SEQ of each pair of source and tenant (R35), keyed source × 64 + tenant; `offered` counts the records each source
has offered (R342). -/
structure QueueMgr where
  queues : SMap Queue := []
  used : SMap Bool := []
  bankPtr : Nat := 0
  seqs : SMap Nat := []
  offered : SMap Nat := []
  walkAt : Nat := 0
  waiting : List Orphan := []
  serving : List Orphan := []
  walking : Bool := false
  rings : SMap Ring := []
  deriving DecidableEq, Repr

/-! ### Window unit (chapter Windows, sealing and the export stream) -/

/-- A void whose VOID record is not yet formed (R322). -/
structure VoidJob where
  gen : Nat
  reason : Nat
  failed : Bool
  refused : Nat
  formed : Nat
  rolled : Nat
  stamp : Nat
  epoch : Nat
  deps : List Nat := []
  raw : Nat := 0
  deriving DecidableEq, Repr

/-- What the SEAL of the last crystallised window carried (R428). -/
structure SealSum where
  c1 : Nat := 0
  c2 : Nat := 0
  c3 : Nat := 0
  slots : Nat := 0
  opened : Nat := 0
  deriving DecidableEq, Repr

/-- A tenant's window (R316 to R322): what its opening latched, its counts, and the settled past. STATE, CUR and NEXT are in WN_STAT
and WN_GEN. -/
structure Window where
  openStamp : Nat := 0
  openEpoch : Nat := 0
  openIdx : Nat := 0
  openUs : Nat := 0
  align : Nat := 0
  k : Nat := 10
  maxk : Nat := 20
  grp : Nat := 0
  c1 : Nat := 0
  c2 : Nat := 0
  c3 : Nat := 0
  slots : Nat := 0
  digest : Nat := 0
  refused : Nat := 0
  groups : SMap Nat := []
  voided : List Nat := []
  jobs : List VoidJob := []
  last : SealSum := {}
  lastInt : Nat := 0
  deriving DecidableEq, Repr

/-- A loss tally (R328, R329); `firstUs` counts the microsecond ticks at its first loss, and `tried` says that its LOSS has been refused
in this microsecond. -/
structure Tally where
  source : Nat
  tenant : Nat
  cause : Nat
  gen : Nat
  cls : Nat
  formed : Bool
  count : Nat
  slots : Nat
  seqValid : Bool
  firstSeq : Nat
  lastSeq : Nat
  digest : Nat
  firstAt : Nat
  firstUs : Nat
  tried : Bool := false
  deriving DecidableEq, Repr

/-- The window unit: the windows, the open tally of each source and the closed tallies whose LOSS the queue manager has not yet
accepted. -/
structure WindowUnit where
  wins : SMap Window := []
  tallies : SMap (Option Tally) := []
  closed : List Tally := []
  deriving DecidableEq, Repr

/-! ### Export unit -/

/-- A frame of one stream, class, epoch and generation (R335); `shed` is the SHED byte of its closing (R336); `held` marks a frame
formed but not started when EX_CFG.EN was written 0 (R434), which has its FSEQ since then; `born` is the raw count at its first record. Each record comes with the
PROV bit of its take. -/
structure ExFrame where
  tenant : Nat
  cls : Nat
  epoch : Nat
  gen : Nat
  slots : Nat
  born : Nat
  shed : Nat := 0
  held : Bool := false
  fseq : Option (BitVec 32) := none
  recs : List (Rec × Bool)
  deriving DecidableEq, Repr

/-- A frame that a port is sending, with the bytes that its start fixed (R336, R340). -/
structure ExSend where
  frame : ExFrame
  bytes : List Byte
  deriving DecidableEq, Repr

/-- A port's weighted round robin of one class (R337). -/
structure Wrr where
  tenant : Nat := 63
  taken : Nat := 0
  deriving DecidableEq, Repr

/-- An export port (R332, R337, R338): the frame on the wire, the wire bytes charged to the current microsecond, the
allowance of the microsecond once a frame of classes 1 to 3 has started in it, whether it goes OFF
when that frame has ended (R434), the end of each priority's pause in picoseconds of the raw count (0: not paused), whether a priority
has been paused in this microsecond, and the round robins. -/
structure ExPort where
  cur : Option ExSend := none
  shaped : Nat := 0
  allowed : Option Nat := none
  stop : Bool := false
  pause : SMap Nat := []
  pausedNow : Bool := false
  rr : SMap Wrr := []
  deriving DecidableEq, Repr

/-- A tenant's stream (R336, R340): the next FSEQ, SENTc and LIMITc by class, and the microsecond ticks since its last return frame. -/
structure ExStream where
  fseq : BitVec 32 := 0
  sent : SMap Nat := []
  limit : SMap Nat := []
  crTicks : Nat := 0
  lastStep : Option Nat := none
  deriving DecidableEq, Repr

/-- The export unit: the open frame of each stream and class (keyed tenant × 4 + class), the closed frames in the order of their
closing, the slots in the export queue (R24), and the drain's place in its rotations (R334). -/
structure ExportUnit where
  open_ : SMap (Option ExFrame) := []
  ready : List ExFrame := []
  used : Nat := 0
  ports : SMap ExPort := []
  streams : SMap ExStream := []
  turn : Nat := 63
  taken : Nat := 0
  lastQ : SMap Nat := []
  dead : Nat := 0
  deriving DecidableEq, Repr

end Sys2Proof.Machine
end

