-- ==== Sys2Proof/Machine/UnitsB.lean ====
section
/-! DEFINITION. The state of the probe cores, the contexts, the mailboxes and the mirror transmit buffer beside their registers, as
plain data. -/

namespace Sys2Proof.Machine

/-! ### Contexts and cores (chapters Probe cores and The Ehrile instruction set) -/

/-- A context timer (R153): state 0 IDLE, 1 ARMED, 2 FIRED, 3 LATE, 4 EPOCH; its mode, target and the epoch noted at arming. -/
structure Timer where
  state : Nat := 0
  signed : Bool := true
  lo : Nat := 0
  hi : Nat := 0
  epoch : Nat := 0
  deriving DecidableEq, Repr

/-- The wait record (R123), with the result fields of the waiting instruction. -/
inductive Wait where
  | none
  | scwait (counter target rd pd : Nat)
  | twait (mask rd pd : Nat)
  deriving DecidableEq, Repr

/-- The time snapshot of the last RDTIME with SEL 0 (R142); `fab` is its fabric time in 2^-40 ns. -/
structure Snap where
  raw : Nat := 0
  fab : Nat := 0
  epoch : Nat := 0
  deriving DecidableEq, Repr

/-- Flow state (R123, R169, R170): the pending branch bits, oldest first, the branch count, the last indirect target, whether the
first issue after a load or restore is still to come, and whether the next flow record must be a FLOW_SYNC. -/
structure Flow where
  bits : List Bool := []
  count : Nat := 0
  target : Nat := 0
  first : Bool := true
  sync : Bool := false
  deriving DecidableEq, Repr

/-- A context (R123). `pc` is the byte offset of the next instruction, whose low bits CX_PC shows; the state is in CX_STATUS. `latch` is
the prefix latch with the PC of its L; `lateErrs` are the addresses of stores whose memory error is not yet reported (R138). -/
structure Ctx where
  pc : Word := 0
  g : SMap Word := []
  p : BitVec 8 := 1
  timers : SMap Timer := []
  wait : Wait := .none
  dep : Option Nat := none
  dvoid : Bool := false
  snap : Snap := {}
  latch : Option (Nat × Nat) := none
  flow : Flow := {}
  lateErrs : List Nat := []
  deriving DecidableEq, Repr

/-- What a cut in the present microsecond left a core (R412): the further cycles, the budget with which the microsecond began, and the
cycles used by the core and by each tenant before the cut. -/
structure Cut where
  further : Nat
  budget : Nat
  used : Nat
  usedBy : SMap Nat
  deriving DecidableEq, Repr

/-- What a YIELD makes a context skip (R162): its next round-robin turn, or issue until a raw count. -/
inductive Skip where
  | turn
  | until_ (raw : Nat)
  deriving DecidableEq, Repr

/-- A probe core (R90, R104, R105): its scratch and instruction memories, the issue cycles used in this microsecond by the core and by
each tenant, the cuts in it, the latest first, which of its four contexts issued last, and what its contexts skip. No rule says where the
first round begins: it begins at context 0 of the core (DESIGN CHOICE, log entry 92). -/
structure CoreSt where
  scratch : SMap Byte := []
  imem : SMap Byte := []
  used : Nat := 0
  usedBy : SMap Nat := []
  cuts : List Cut := []
  last : Nat := 3
  skips : SMap (Option Skip) := []
  deriving DecidableEq, Repr

/-! ### Mailboxes -/

/-- A post parked on a window (R120): its bytes, the generation it depends on, and whether that window has been crystallised. -/
structure Parked where
  len : Nat
  data : List Byte
  gen : Nat
  sealed : Bool := false
  deriving DecidableEq, Repr

/-- A mailbox (R119, R120): the 48 bytes of the shown result and the parked slot. READY, PARKED, LEN, SEQ and the counts are in MB_HDR;
MB_DATA holds the latched copy (R121). -/
structure Mailbox where
  shown : List Byte := []
  parked : Option Parked := none
  deriving DecidableEq, Repr

/-! ### Loader -/

/-- The descriptor that the loader holds (R101): what GO took from LD_SRC and LD_CFG, whether the rest of the image is being read (step 4
or later), the header that step 2 read, and what has been read behind it. -/
structure LoadDesc where
  src : Nat
  tenant : Nat
  core : Nat
  mask : Nat
  start : Bool
  body : Bool := false
  hdr : List Byte := []
  got : List Byte := []
  deriving DecidableEq, Repr

/-! ### Pre-emption and restore -/

/-- A pre-emption (R106, R109): the contexts that PREEMPT stopped, and the chrysalis that step 4 captured. -/
structure Save where
  ctxs : List Nat := []
  image : List Byte := []
  deriving DecidableEq, Repr

/-- A restore under way or HELD (R114, R115): the image as it was read, HOLD, the state before it, whether it is a migration, and the
target contexts in the order of the saved ones. -/
structure Restore where
  image : List Byte
  hold : Bool
  prev : Nat
  migrate : Bool
  targets : List Nat
  deriving DecidableEq, Repr

/-! ### Mirror transmit buffer -/

/-- The pairing unit's transmit side (R378): the messages not yet acknowledged, oldest first, each with the raw count since which it waits,
the MSEQ of the oldest, how many of them have gone out in a frame, and what waits while the buffer is full. -/
structure MirrorTx where
  base : BitVec 32 := 0
  unacked : List (Nat × MirMsg) := []
  framed : Nat := 0
  extra : List MirMsg := []
  deriving DecidableEq, Repr

end Sys2Proof.Machine
end

