-- ==== Sys2Proof/Machine/UnitsC.lean ====
section
/-! DEFINITION. The state of the antennas and the harvest unit, the funnel, the trigger sequencers and the sync counters beside their
registers, as plain data. -/

namespace Sys2Proof.Machine

/-! ### Antennas, central counters, harvests (chapter Port taps, event counters and harvests) -/

/-- An instant of fabric time in 2^-16 ns with its epoch. -/
structure Inst where
  at_ : Nat
  ep : Nat
  deriving DecidableEq, Repr

/-- A phase accumulator (R259): its port, its key, and what it has counted. -/
structure PhaseAcc where
  port : Nat
  tag : SchedTag
  pkts : Nat
  bytes : Nat
  first : Inst
  last : Inst
  deriving DecidableEq, Repr

/-- An entry of a tile's flush queue (R173, R178, R181, R259). -/
inductive FlushEnt where
  | flush (i v : Nat) (tag : Bool)
  | marker (tag : Bool)
  | preset (i : Nat) (v : Word)
  | phase (a : PhaseAcc)
  deriving DecidableEq, Repr

/-- A tile (R173, R181, R182): its flush queue of 128 entries (R24), oldest first, the markers and presets that wait at the full queue
(R25), the latched values still to be pushed behind the marker, the antennas' harvest tag H, the tag that a harvest being built takes
(`h_old` of R182), and the phase accumulators in use, the longest held first (R259). -/
structure TapTile where
  queue : List FlushEnt := []
  wait : List FlushEnt := []
  latched : List (Nat × Nat) := []
  tag : Bool := false
  building : Option Bool := none
  accs : List PhaseAcc := []
  deriving DecidableEq, Repr

/-- An antenna record on its way to the funnel (R25): a FLIGHT with what the pipeline returned, a PORT_SAMPLE with the raw count of its
end, or a SLOT_SUMMARY with its boundary in fabric time and epoch. -/
inductive AntRec where
  | flight (a : Nat) (info : FlightInfo)
  | sample (a raw : Nat) (payload : List Byte)
  | summary (a fab epoch : Nat) (payload : List Byte)
  deriving DecidableEq, Repr

/-- What the first antenna of a port gathers between its records (R190, R191, R194): the stage-0 stamps of tagged packets under way, the
samples of the interval and the egress slots by class and waste part. -/
structure PortStat where
  flights : List (Nat × Nat) := []
  samples : Nat := 0
  qmin : Option Nat := none
  qpeak : Nat := 0
  peaks : SMap Nat := []
  stallOut : Nat := 0
  stallIn : Nat := 0
  samplePartial : Bool := true
  slots : SMap Nat := []
  parts : SMap Nat := []
  gate : Nat := 0
  sumIdx : Nat := 0
  sumPartial : Bool := true
  deriving DecidableEq, Repr

/-- A calendar entry (R180, R181): an immediate request (`timed` false) with its tick, or a timed one with its comparator. -/
structure HvReq where
  num : Nat
  timed : Bool
  tick : Nat
  signed : Bool := true
  lo : Nat := 0
  hi : Nat := 0
  epoch : Nat := 0
  late : Bool := false
  rake : Bool := false
  deriving DecidableEq, Repr

/-- The harvest that is running (R181, R182): its number, tick, stamp and epoch, the tiles that have latched and those that are complete,
and the build bank with its OVF bits. -/
structure HvRun where
  num : Nat
  tick : Nat
  short : Nat
  epoch : Nat
  late : Bool
  rake : Bool
  latched : List Nat := []
  complete : List Nat := []
  build : SMap Word := []
  ovf : SMap Bool := []
  deriving DecidableEq, Repr

/-- A harvest image being written (R184). -/
structure HvImage where
  tenant : Nat
  addr : Nat
  header : List Byte
  values : SMap Word
  ovf : SMap Bool
  deriving DecidableEq, Repr

/-- A rake entry being written (R186). -/
structure RakeJob where
  tenant : Nat
  seq : Nat
  entry : List Byte
  deriving DecidableEq, Repr

/-- The antennas and the harvest unit. `acc` holds the local accumulators by counter index, `walk` the next event of each antenna's walk,
`ports` the width of each enabled port by first lane slot; `recs` are the antenna record queues, `ingested` counts the antenna slots of
this microsecond, and `shadowEpoch` is the epoch of the harvest that the shadow shows. -/
structure Taps where
  ports : SMap Nat := []
  acc : SMap Nat := []
  walk : SMap Nat := []
  tiles : SMap TapTile := []
  recs : SMap (List AntRec) := []
  ingested : Nat := 0
  stats : SMap PortStat := []
  cal : List HvReq := []
  nextNum : Nat := 1
  run : Option HvRun := none
  image : Option HvImage := none
  rake : Option RakeJob := none
  shadowEpoch : Nat := 0
  deriving DecidableEq, Repr

/-! ### Funnel and sequencers (chapter Engine trace ingest and the trigger sequencer) -/

/-- A tally that the funnel keeps of a source (R217, R327): causes 9 SEQ_GAP and 10 ANT_MERGE. -/
structure Gap where
  cause : Nat
  tenant : Nat
  count : Nat
  slots : Nat
  seqValid : Bool
  first : Nat
  last : Nat
  gen : Nat
  at_ : Nat
  deriving DecidableEq, Repr

/-- The funnel. `lastLoss` holds the raw count at which each source's latest LOSS was formed; `sentLimit` and `sentUs` are LIMIT and the
microsecond of the last CREDIT of each entry; `rr` is the rotation of R202; `acts` are the ACT_TIMEs, in 2^-16 ns, of the controls sent
to each accelerator. The expected sequence numbers are in TI_SEQVAL. -/
structure Funnel where
  gaps : SMap (Option Gap) := []
  lastLoss : SMap (Option Nat) := []
  sentLimit : SMap Nat := []
  sentUs : SMap Nat := []
  rr : Nat := 0
  acts : SMap (List Nat) := []
  deriving DecidableEq, Repr

/-- A trigger sequencer beside its registers (R222 to R226): the fabric time (2^-40 ns) and the epoch of entry, the comparators that are
disarmed, those of kind TIME whose target had passed at entry or by a step, each comparator's baseline and count, and whether its counter
was granted when entry armed it (R243). -/
structure Seqr where
  entry : Nat := 0
  epoch : Nat := 0
  disarmed : SMap Bool := []
  late : SMap Bool := []
  base : SMap Nat := []
  count : SMap Nat := []
  reach : SMap Bool := []
  deriving DecidableEq, Repr

/-! ### The schedule ledger (chapter The schedule ledger) -/

/-- A phase entry (R254). -/
structure LgEnt where
  phase : Nat
  timed : Bool
  barrier : Bool
  cyclic : Bool
  win : Bool
  span : Nat
  pred : Nat
  group : Nat
  offset : Nat
  winLo : Int
  winHi : Nat
  expPkts : Nat
  sc : Nat
  scMode : Nat
  retryExt : Nat
  retryMax : Nat
  expBytes : Nat
  scInc : Nat
  deriving DecidableEq, Repr

/-- The states of a phase that holds a slot (R265). -/
inductive PhState where
  | lookahead | open_ | settling
  deriving DecidableEq, Repr

/-- A phase that holds a slot (R256, R260 to R265): the port set, the counts, its start and opening, the deviations raised, and the raw
count at which it completed. `joined` says that its predecessors' closes have been judged (R267); `doneAt` is the completion stamp, kept
from the flush with which the counts reached both expectations (R264). -/
structure Phase where
  ent : LgEnt
  pass : Nat
  ports : List Nat
  st : PhState := .lookahead
  pkts : Nat := 0
  bytes : Nat := 0
  first : Option Inst := none
  last : Option Inst := none
  lastPort : Nat := 0xFFFF
  start : Inst := ⟨0, 0⟩
  opened : Inst := ⟨0, 0⟩
  retries : Nat := 0
  dev : Nat := 0
  lateOpen : Bool := false
  predShort : Bool := false
  joined : Bool := false
  shortDone : Bool := false
  doneRaw : Nat := 0
  doneAt : Option Inst := none
  deriving DecidableEq, Repr

/-- What is kept of a phase of the current pass that has closed as a predecessor (R261, R267). -/
structure LgClosed where
  start : Inst
  close : Inst
  gaveUp : Bool
  group : Nat
  port : Nat
  pkts : Nat
  bytes : Nat
  expPkts : Nat
  expBytes : Nat
  deriving DecidableEq, Repr

/-- A ledger beside its registers: the prefetched entries that are not in the lookahead, the next entry to fetch, the entry E, the slots,
the phases of the pass that have closed, the start of the phase opened last, the holds asked for, whether a HELD ledger stands at a step
boundary, the first phase that the pass runs here, and whether the last entry has opened. -/
structure Ledger where
  ents : List LgEnt := []
  pf : Nat := 0
  cyc : Option Nat := none
  slots : List Phase := []
  closed : SMap (Option LgClosed) := []
  prevStart : Option Inst := none
  atPass : Bool := false
  stopPass : Bool := false
  heldAtPass : Bool := false
  from_ : Nat := 0
  allOpen : Bool := false
  deriving DecidableEq, Repr

/-! ### Imago units, health unit and lease monitor (chapter Imago units, health verdicts and the governor) -/

/-- A launch that has not completed (R352, R356, R362): its ticket, its context, the scratch offset and bytes 8 to 63 of its descriptor,
the unit that runs it (4: the health unit), whether it has started before, its next tile and its next VERDICT entry. -/
structure Launch where
  ticket : Nat
  ctx : Nat
  at_ : Nat
  desc : List Byte
  unit : Option Nat := none
  begun : Bool := false
  tile : Nat := 0
  entry : Nat := 0
  deriving DecidableEq, Repr

/-- A model slot beside HM_CTL (R357 to R360): its store units, what its LOAD latched, and the raw count at which its last EVAL_START launch
started. -/
structure Model where
  first : Nat := 0
  count : Nat := 0
  waddr : Nat := 0
  wkib : Nat := 0
  work : Nat := 0
  target : Nat := 0
  limit : Nat := 0
  lastStart : Option Nat := none
  deriving DecidableEq, Repr

/-- The descriptor of a stream: source address, destination address and length in bytes (R311). -/
structure StreamDesc where
  src : Nat
  dst : Nat
  len : Nat
  deriving DecidableEq, Repr

/-- The imago units: the launch queues by tenant, the models (keyed tenant × 4 + model), the weight store, each unit's place in its
rotation, the cycles that a cut has left a unit in this microsecond (R412), and the descriptors of the WEIGHTS streams that a migration has
restored (R311). -/
structure Imago where
  queues : SMap (List Launch) := []
  models : SMap Model := []
  store : SMap Byte := []
  rr : SMap Wrr := []
  further : Option Nat := none
  streams : SMap (Option StreamDesc) := []
  deriving DecidableEq, Repr

/-- The lease monitor beside LS_ENT (R367 to R369): the entries renewed in this period, the short stamps of the last renewals, and the
ticks of this period. -/
structure Leases where
  renewed : SMap Bool := []
  stamps : SMap Nat := []
  ticks : Nat := 0
  deriving DecidableEq, Repr

/-! ### Pairing (chapter Pairing, mirroring and re-admission) -/

/-- The TIME entry of the partner image (R382); `mseq` is the MSEQ of the message that last wrote an entry. -/
structure ImgTime where
  offset : Nat := 0
  incr : Nat := 0
  epoch : Nat := 0
  quality : Nat := 0
  mseq : Nat := 0
  deriving DecidableEq, Repr

/-- A tenant's entry of the partner image; the pass base is a full stamp. -/
structure ImgTen where
  state : Nat := 0
  tnCfg : Word := 0
  stream : Nat := 0
  wnCfg : Word := 0
  cur : Nat := 0
  next : Nat := 0
  lgState : Nat := 0
  pass : Nat := 0
  lgNext : Nat := 0
  pbase : Nat := 0
  epoch : Nat := 0
  level : Nat := 0
  spare : Nat := 0
  mseq : Nat := 0
  deriving DecidableEq, Repr

/-- The liveness of a home entry in the partner image. -/
structure ImgLive where
  state : Nat := 0
  jobView : Nat := 0
  expelSent : Nat := 0
  mseq : Nat := 0
  deriving DecidableEq, Repr

/-- The partner image (R382), the software page by 64-bit words. -/
structure Image where
  time : ImgTime := {}
  tens : SMap ImgTen := []
  lives : SMap ImgLive := []
  soft : SMap Word := []
  deriving DecidableEq, Repr

/-- The pairing unit beside its registers: the next MSEQ expected, the paths on which a valid BEAT has come in this period, JOIN_READY of
the partner's last BEAT, the admission instant, the TX of the last mirror BEAT with the short stamp of its receipt (R383), the last
exchanges of R391 as (d, ofs), whether an adoption has been tried and has taken effect, the snapshots sent, whether one is coming in, how
many have been asked for and completed, the tenants whose ledgers start at the partner's next step boundary (R393), the failed mirror
lanes, whether this block has yielded (R384), and the partner image. -/
structure PairUnit where
  expect : Nat := 0
  seenMirror : Bool := false
  seenFabric : Bool := false
  peerReady : Bool := false
  admitAt : Option Inst := none
  echo : Nat := 0
  echoAt : Nat := 0
  exch : List (Int × Int) := []
  tried : Bool := false
  adopted : Bool := false
  snapNum : Nat := 0
  inSnap : Bool := false
  asked : Nat := 0
  complete : Nat := 0
  started : List Nat := []
  failedLanes : Nat := 0
  yielded : Bool := false
  image : Image := {}
  deriving DecidableEq, Repr

/-! ### Power arbiter, self-test and sensor reader (chapter Boundary, power, reset and bring-up) -/

/-- The boundary unit beside its registers: the latest PM_GRANT (R411), the units under test (R406), whether a sample is under way, the
ticks since the last one started, the failed samples in a row (R416), and GRANT, FIXED, CORE and IMAGO of the latest tick and of the tick
before the sample (R418); `pwrOk` and `chipRstN` are the pins MYB_PWR_OK and CHIP_RST_N as last driven (R403), `sampAt` is the microsecond
in which the last sample started, and `fallen` names the units that MYB_CAPS does not count (R32). -/
structure Board where
  pwrOk : Bool := true
  chipRstN : Bool := true
  grant : Nat := 440
  bistUnits : Nat := 0
  sampling : Bool := false
  sampTicks : Nat := 0
  sampAt : Nat := 0
  misses : Nat := 0
  latest : List Nat := [440, 184, 72, 176]
  shown : List Nat := [440, 184, 72, 176]
  fallen : List (MapKind × Nat) := []
  deriving DecidableEq, Repr

end Sys2Proof.Machine
end

