-- ==== Sys2Proof/Machine/State.lean ====
section
/-! DEFINITION. The state of the block as plain data, its faults and refusals, and the state after reset. -/

namespace Sys2Proof.Machine

/-- What leaves the block through its edge (R399), in the order in which it leaves. -/
inductive Out where
  | msi (vector : Nat)
  | ctlFrame (port : Nat) (frame : List Byte)
  | egress (action port queue : Nat)
  | timeWord (word : BitVec 256)
  | exportFrame (port : Nat) (frame : List Byte)
  | fabric (packet : List Byte)
  | mirrorBeat (frame : List Byte)
  | pairBeat (dest src : Nat) (payload : List Byte)
  | mirrorFrame (header : List Byte) (messages : List (Byte × MirMsg))
  | harvestStrobe (number : Nat)
  | sensorRead (address command : Nat)
  deriving DecidableEq, Repr

/-- The state of the block. -/
structure State where
  /-- Every register and register array, keyed by register number and entry; an unlisted one holds its reset value. -/
  regs : SMap Word := []
  time : TimeEngine := {}
  qm : QueueMgr := {}
  win : WindowUnit := {}
  ex : ExportUnit := {}
  ctxs : SMap Ctx := []
  cores : SMap CoreSt := []
  mbox : SMap Mailbox := []
  load : Option LoadDesc := none
  /-- The pre-emption and the restore under way of each tenant. -/
  saves : SMap Save := []
  restores : SMap (Option Restore) := []
  taps : Taps := {}
  funnel : Funnel := {}
  seqrs : SMap Seqr := []
  ledgers : SMap Ledger := []
  /-- The counter and target that each watch slot copied when it was armed (R245). -/
  watches : SMap (Nat × Nat) := []
  /-- The salt pans and host memory as the block sees them; a byte nothing has written reads 0. -/
  salt : SMap Byte := []
  host : SMap Byte := []
  /-- Bytes of the salt pans (even keys, address × 2) and of host memory (odd keys) with an uncorrectable error. -/
  memBad : SMap Bool := []
  imago : Imago := {}
  leases : Leases := {}
  mtx : MirrorTx := {}
  pair : PairUnit := {}
  board : Board := {}
  /-- Ticks of the microsecond clock since block reset (R411). -/
  us : Nat := 0
  /-- MYB_PWR_OK, CHIP_RST_N and the reset that they, power-on and MYB_CTRL hold (R403). -/
  inReset : Bool := true
  /-- What the block has put out. -/
  out : List Out := []
  /-- REG_RSP: the data of the last host read (R399). -/
  hostResp : Option Word := none
  /-- The model's own counter of free values drawn (not a part of the block). -/
  freeCtr : Nat := 0
  /-- The commands that wait, first in first out. -/
  pending : List Instr := []
  deriving DecidableEq, Repr

/-- The faults of a step. There are none in this model: the block has no event that stops it (a refused command, a trap or an
error leaves a next state). The constructor exists for a step that the spec would stop; nothing raises it, so it is safe. -/
inductive Fault where
  | none
  deriving DecidableEq, Repr

/-- The refusals of a step. -/
inductive Refusal where
  /-- A command that this model gives no meaning; raised by the arms of `exec` alone. Safe. -/
  | notModelled (mnemonic : String)
  deriving DecidableEq, Repr

/-- The block right after power-on: every register at its reset value, every memory empty, no command waiting, block reset held. -/
def State.reset : State := {}

end Sys2Proof.Machine
end

