-- ==== Sys2Proof/Machine/Ops.lean ====
section
/-! DEFINITION. The named operations over registers, interrupts, outputs and free values that every family uses. -/

namespace Sys2Proof.Machine

/-- A meaning that always answers a next state. -/
abbrev Res := Host.Outcome State Fault Refusal

/-! ### Registers -/

/-- The key of entry `i` of a register: no two entries of any two registers share one (there are fewer than 256 registers). -/
def Reg.key (r : Reg) (i : Nat) : Nat := i * 256 + r.num

/-- The 64-bit value of entry `i` of a register. -/
def State.getReg (s : State) (r : Reg) (i : Nat) : Word := smGet (r.resetVal i) s.regs (r.key i)

/-- Entry `i` of a register set to a 64-bit value. -/
def State.setReg (s : State) (r : Reg) (i : Nat) (v : Word) : State :=
  { s with regs := smSet (r.resetVal i) s.regs (r.key i) v }

/-- Bits `[hi:lo]` of a word as a number (R6). -/
def bitsOf (w : Word) (hi lo : Nat) : Nat := w.toNat / 2 ^ lo % 2 ^ (hi + 1 - lo)

/-- Bit `n` of a word. -/
def bitOf (w : Word) (n : Nat) : Bool := bitsOf w n n == 1

/-- A word with bits `[hi:lo]` replaced by the low bits of `v` (R6). -/
def putBits (w : Word) (hi lo v : Nat) : Word :=
  BitVec.ofNat 64 (w.toNat / 2 ^ (hi + 1) * 2 ^ (hi + 1) + v % 2 ^ (hi + 1 - lo) * 2 ^ lo + w.toNat % 2 ^ lo)

/-- The value of a field. -/
def State.getF (s : State) (f : Fld) (i : Nat) : Nat := bitsOf (s.getReg f.reg i) f.hi f.lo

/-- A field set to a value, modulo two to its width. -/
def State.setF (s : State) (f : Fld) (i v : Nat) : State :=
  s.setReg f.reg i (putBits (s.getReg f.reg i) f.hi f.lo v)

/-- A one-bit field. -/
def State.flag (s : State) (f : Fld) (i : Nat) : Bool := s.getF f i == 1

/-- A one-bit field set to a Boolean. -/
def State.setFlag (s : State) (f : Fld) (i : Nat) (b : Bool) : State := s.setF f i b.toNat

/-- A wrapping counter field advanced by `n`. -/
def State.addF (s : State) (f : Fld) (i n : Nat) : State := s.setF f i (s.getF f i + n)

/-- A wrapping counter field advanced by one. -/
def State.incF (s : State) (f : Fld) (i : Nat) : State := s.addF f i 1

/-- A field lowered by `n`, not below zero. -/
def State.decF (s : State) (f : Fld) (i n : Nat) : State := s.setF f i (s.getF f i - n)

/-- Bit `b` of a 64-bit field array of one bit for each number, 64 numbers a word. -/
def State.arrBit (s : State) (r : Reg) (b : Nat) : Bool := bitOf (s.getReg r (b / 64)) (b % 64)

/-- That bit set. -/
def State.setArrBit (s : State) (r : Reg) (b : Nat) (v : Bool) : State :=
  s.setReg r (b / 64) (putBits (s.getReg r (b / 64)) (b % 64) (b % 64) v.toNat)

/-! ### Outputs and free values -/

/-- The output `o` leaves the block. -/
def State.emit (s : State) (o : Out) : State := { s with out := s.out ++ [o] }

/-- A fresh free value (nothing is known of it) and the state that has drawn it. -/
def State.draw (s : State) : Word × State := (Config.freeWord s.freeCtr, { s with freeCtr := s.freeCtr + 1 })

/-! ### Interrupts (R407, R408) -/

/-- A cause of vector `v` arises: when its pending bit rises while it is enabled, one message goes out; a cause that meets a
pending bit already set sends nothing. -/
def State.raise (s : State) (v : Nat) : State :=
  if s.arrBit .IRQ_PEND v then s
  else
    let s1 := s.setArrBit .IRQ_PEND v true
    if s1.arrBit .IRQ_MASK v then s1.emit (.msi v) else s1

/-- A tenant cause: its bit of IRQ_TCAUSE is set and the tenant's vector raised. -/
def State.raiseTenant (s : State) (t : Nat) (cause : Fld) : State := (s.setFlag cause t true).raise (64 + t)

def vecHostErr : Nat := 0
def vecBist : Nat := 1
def vecTime : Nat := 2
def vecPower : Nat := 3
def vecSyncWatch : Nat := 4
def vecDmaFault : Nat := 5
def vecPairing : Nat := 6
def vecLoader : Nat := 7

/-! ### Counters (R171 to R177) -/

/-- `v` added to central counter `i`: it wraps at 2^64 and sets its OVF bit (R177). -/
def State.addCounter (s : State) (i v : Nat) : State :=
  let n := (s.getReg .CTR_LIVE i).toNat + v
  let s1 := s.setReg .CTR_LIVE i (BitVec.ofNat 64 n)
  if n < 2 ^ 64 then s1 else s1.setArrBit .CTR_OVF i true

/-- Block counter `j` advances by `n` (R175). -/
def State.countBlock (s : State) (j n : Nat) : State := s.addCounter (32768 + j) n

/-- Lane slot `a` is the first of an enabled port. -/
def State.firstSlot (s : State) (a : Nat) : Bool := smGet 0 s.taps.ports a != 0

/-- Event `ev` of antenna `a` advances its accumulator by `n` (R171 to R173): lane events everywhere, port events at the first lane slot of
an enabled port alone. -/
def State.tap (s : State) (a ev n : Nat) : State :=
  if decide (a < 512) && decide (ev < 64) && (decide (ev < 8) || s.firstSlot a) then
    let i := 64 * a + ev
    { s with taps := { s.taps with acc := smSet 0 s.taps.acc i ((smGet 0 s.taps.acc i + n) % 2 ^ 24) } }
  else s

/-! ### Pairing (R378, R384) -/

/-- The pairing state (R384): 0 OFF, 1 SEEKING, 2 PAIRED, 3 DETACHED, 4 LOST, 5 JOINING, 6 SERVING. -/
def State.pairState (s : State) : Nat := s.getF PR_STATUS_STATE 0

/-- The block is JOINING a pair. -/
def State.joining (s : State) : Bool := s.pairState == 5

/-- The block has a partner to which it mirrors (R384, R385). -/
def State.mirrors (s : State) : Bool := s.pairState == 2 || s.pairState == 5 || s.pairState == 6

/-- A message that waits for room in the full transmit buffer joined with an earlier one of its kind and subject: adds and charges
are summed, an amount of VALUE without a bound so that no add is lost, an advance of EXP modulo 2^48 (R239), and every other kind keeps its
latest value (R378), a boundary, a request or a write that either tells of with it. -/
def joinMsg (old new : MirMsg) : Option MirMsg :=
  match old, new with
  | .scAdd c a e, .scAdd c' a' e' => if c == c' then some (.scAdd c (a + a') ((e + e') % 2 ^ 48)) else none
  | .govCharge t k p, .govCharge t' k' p' => if t == t' then some (.govCharge t (k + k') (p + p')) else none
  | .time .., .time .. => some new
  | .ledger t _ _ _ _ _ b, .ledger t' st pass next pbase epoch b' =>
    if t == t' then some (.ledger t' st pass next pbase epoch (b || b')) else none
  | .window t .., .window t' .. => if t == t' then some new else none
  | .tenant t _ _ _ r, .tenant t' st cfg stream r' => if t == t' then some (.tenant t' st cfg stream (r || r')) else none
  | .home e _ _ _ _ _ w, .home e' addr cred live view sent w' => if e == e' then some (.home e' addr cred live view sent (w || w')) else none
  | .govState t .., .govState t' .. => if t == t' then some new else none
  | .soft o .., .soft o' .. => if o == o' then some new else none
  | .scState c .., .scState c' .. => if c == c' then some new else none
  | _, _ => none

/-- A message that may not be joined across `o`: an add behind the loaded state of its counter, which would be lost, and a loaded state behind an
add that it holds already, which would be added again (R390). -/
def fences (o m : MirMsg) : Bool :=
  match o, m with
  | .scState c .., .scAdd c' .. | .scAdd c .., .scState c' .. => c == c'
  | _, _ => false

/-- `m` joined with the newest message that takes it, in a list with the newest first; none when there is none before a fence. -/
def joinInto (m : MirMsg) : List MirMsg → Option (List MirMsg)
  | [] => none
  | o :: os => match joinMsg o m with
    | some j => some (j :: os)
    | none => if fences o m then none else (joinInto m os).map (o :: ·)

/-- The waiting messages, newest first, with one more joined in or added. -/
def joinMsgs (os : List MirMsg) (m : MirMsg) : List MirMsg := (joinInto m os).getD (m :: os)

/-- A mirror message is sent to the partner, if there is one (R378, R379): numbered behind the others while fewer than 4,096 are
unacknowledged, else joined to what waits. -/
def State.sendMir (s : State) (m : MirMsg) : State :=
  if !s.mirrors then s
  else if s.mtx.unacked.length < 4096 && s.mtx.extra.isEmpty then
    { s with mtx := { s.mtx with unacked := s.mtx.unacked ++ [(s.time.raw.toNat, m)] } }
  else { s with mtx := { s.mtx with extra := (joinMsgs s.mtx.extra.reverse m).reverse } }

/-! ### Identity -/

/-- The system tenant (R27). -/
def State.sysTenant (s : State) : Nat := s.getF MYB_SYSTEN_SYS_TENANT 0

/-- The block ID (R31). -/
def State.blockId (s : State) : Nat := s.getF MYB_BLKID_BLOCK_ID 0

/-- MYB_BLKID.LOCK (R31). -/
def State.locked (s : State) : Bool := s.flag MYB_BLKID_LOCK 0

/-! ### When the block acts (R403 to R405) -/

/-- The host interface works (R404). -/
def State.ready (s : State) : Bool := s.flag MYB_STATUS_READY 0

/-- An event in the block or on its pins: it acts when the block is not in reset and `guard` says that its condition holds. -/
def State.event (s : State) (guard : Bool) (t : State) : Res := .next (if !s.inReset && guard then t else s)

/-- A host access that reaches the block: writes before READY are discarded (R404). -/
def State.hostDoes (s : State) (guard : Bool) (t : State) : Res := .next (if s.ready && guard then t else s)

/-- A host read that reaches the block: before READY it returns all ones (R404). -/
def State.hostReads (s : State) (guard : Bool) (t : State) : Res :=
  .next (if !guard then s else if s.ready then t else { s with hostResp := some (BitVec.allOnes 64) })

/-- The half of a register that a read addresses, or all of it (R13). -/
def Lanes.part (lanes : Lanes) (w : Word) : Word :=
  match lanes with
  | .full => w
  | .lo => BitVec.ofNat 64 (w.toNat % 2 ^ 32)
  | .hi => BitVec.ofNat 64 (w.toNat / 2 ^ 32)

/-- A host read of a register, or of one half of it, that answers `w` and leaves the block as `t`: before READY it returns all ones
(R404). -/
def State.hostReadsPart (s : State) (guard : Bool) (lanes : Lanes) (w : Word) (t : State) : Res :=
  .next (if !guard then s
    else if s.ready then { t with hostResp := some (Lanes.part lanes w) }
    else { s with hostResp := some (Lanes.part lanes (BitVec.allOnes 64)) })

/-! ### Usable units (R32) -/

/-- The field of MYB_CAPS of a kind. -/
def capsOf : MapKind → Fld
  | .core => MYB_CAPS_CORES_OK
  | .bank => MYB_CAPS_POOL_BANKS_OK
  | .imago => MYB_CAPS_IMAGO_OK
  | .exportLane => MYB_CAPS_EXPORT_LANES_OK
  | .mirrorLane => MYB_CAPS_MIRROR_LANES_OK

/-- Unit `n` of a kind is mapped out: MYB_CAPS falls in the same step, unless the unit has fallen before a block reset and no self-test has
passed it since, so that it is not counted (DEDUCED, log entry 65). -/
def State.lowerCaps (s : State) (k : MapKind) (n : Nat) : State :=
  if s.board.fallen.contains (k, n) then s
  else { s.decF (capsOf k) 0 1 with board := { s.board with fallen := s.board.fallen ++ [(k, n)] } }

/-! ### Numbers -/

/-- A 64-bit number read as signed. -/
def signed64 (n : Nat) : Int := (BitVec.ofNat 64 n).toInt

/-- The smaller of a number and the greatest value of `w` bits. -/
def satTo (w n : Nat) : Nat := min n (2 ^ w - 1)

/-- Division that rounds up. -/
def cdiv (a b : Nat) : Nat := (a + b - 1) / b

/-- Fields of a FIELD-wise write take their new value in the width of `f`. -/
def Fld.of (w : Word) (f : Fld) : Nat := bitsOf w f.hi f.lo

/-- A one-bit field of a written word. -/
def Fld.on (w : Word) (f : Fld) : Bool := Fld.of w f == 1

end Sys2Proof.Machine
end

