-- ==== Sys2Proof/Machine/Time.lean ====
section
/-! DEFINITION. Reading fabric time: the conversion history, stamps and comparators (R45 to R56, R69, R70). A fabric time is held
exactly, as a number of 2^-40 ns (R45). -/

namespace Sys2Proof.Machine

/-- One second in 2^-40 ns. -/
def second40 : Nat := 1000000000 * 2 ^ 40

/-- Fabric time at raw count `raw` and tick fraction `f16` / 2^16 under an entry (R49). -/
def HistEntry.at (e : HistEntry) (raw f16 : Nat) : Nat := e.ofs + (raw - e.raw) * e.incr + f16 * e.incr / 65536

/-- The entry that converts a raw count: the one whose raw_ref is the greatest not above it (R52); the history is kept newest
first. -/
def entryFor (hist : List HistEntry) (raw : Nat) : Option HistEntry := hist.find? (fun e => decide (e.raw ≤ raw))

/-- Time has started (R46). -/
def State.running (s : State) : Bool := s.flag TB_STATUS_RUNNING 0

/-- The raw count as a number. -/
def State.rawNow (s : State) : Nat := s.time.raw.toNat

/-- Fabric time of an instant under R52; 0 when no entry covers it, for no stamp is formed before time has started (R46). -/
def State.fabAt (s : State) (raw f16 : Nat) : Nat :=
  match entryFor s.time.hist raw with
  | some e => e.at raw f16
  | none => 0

/-- The epoch of an instant under R52. -/
def State.epochAt (s : State) (raw : Nat) : Nat :=
  match entryFor s.time.hist raw with
  | some e => e.epoch
  | none => 0

/-- Fabric time now, in 2^-40 ns. -/
def State.fabNow (s : State) : Nat := s.fabAt s.rawNow 0

/-- The current epoch (R65). -/
def State.epoch (s : State) : Nat := s.getF TB_STATUS_EPOCH 0

/-- The short stamp of a fabric time (R54). -/
def shortOf (fab : Nat) : Nat := fab / 2 ^ 24 % 2 ^ 64

/-- The short stamp of now (R54, R56). -/
def State.shortNow (s : State) : Nat := shortOf s.fabNow

/-- SECONDS of a full stamp (R53). -/
def secOf (fab : Nat) : Nat := fab / second40 % 2 ^ 48

/-- NS of a full stamp (R53). -/
def nsOf (fab : Nat) : Nat := fab % second40 / 2 ^ 40

/-- FRAC of a full stamp, truncated (R45, R53). -/
def fracOf (fab : Nat) : Nat := fab % 2 ^ 40 / 2 ^ 24

/-- The 96-bit full stamp of a fabric time (R53). -/
def fullOf (fab : Nat) : Nat := secOf fab * 2 ^ 48 + nsOf fab * 2 ^ 16 + fracOf fab

/-- A full stamp in memory and in records: 12 bytes (R53). -/
def fullBytes (fab : Nat) : List Byte := leBytes 12 (fullOf fab)

/-- The newest entry, under which time goes on. -/
def State.newest (s : State) : Option HistEntry := s.time.hist.head?

/-- Fabric time that the projection in force gives at a raw count at or after its raw_ref. -/
def State.ahead (s : State) (raw : Nat) : Nat :=
  match s.newest with
  | some e => e.at raw 0
  | none => 0

/-- A full-stamp target laid out as SG_TGT_LO and SG_TGT_HI: SECONDS, NS in [47:16] and FRAC in [15:0]; bits [63:48] of the low
word are ignored. -/
def fullTarget (lo hi : Nat) : Nat := hi % 2 ^ 48 * 2 ^ 48 + lo % 2 ^ 48

/-- A comparator (R69) at fabric time `fab` and epoch `ep`: signed difference against the epoch at arming, or magnitude. -/
def compares (signedMode : Bool) (lo hi epArm fab ep : Nat) : Bool :=
  if signedMode then ep == epArm && decide (0 ≤ signed64 (shortOf fab + 2 ^ 64 - lo % 2 ^ 64))
  else decide (fullTarget lo hi ≤ fullOf fab)

/-- The comparator mode of a two-bit mode field: 0 the tenant's default, 1 signed difference, 2 magnitude (R69). True is signed
difference. -/
def State.cmpSigned (s : State) (mode t : Nat) : Bool :=
  if mode == 1 then true
  else if mode == 2 then false
  else !bitOf (s.getReg .TB_TEN_CMPMODE 0) t

/-- A comparator holds at the tick `raw`, looking `lead` ticks ahead, once time has started (R46, R69). -/
def State.holdsAt (s : State) (raw lead : Nat) (signedMode : Bool) (lo hi epArm : Nat) : Bool :=
  match s.newest with
  | some e => s.running && decide (e.raw ≤ raw) && compares signedMode lo hi epArm (e.at (raw + lead) 0) e.epoch
  | none => false

/-- A comparator holds at the present tick. -/
def State.holdsNow (s : State) (lead : Nat) (signedMode : Bool) (lo hi epArm : Nat) : Bool :=
  s.holdsAt s.rawNow lead signedMode lo hi epArm

/-- The firing tick of a comparator lies before the present tick: its target has passed at arming (R69). -/
def State.passed (s : State) (lead : Nat) (signedMode : Bool) (lo hi epArm : Nat) : Bool :=
  s.holdsNow lead signedMode lo hi epArm && decide (0 < s.rawNow) &&
    (match entryFor s.time.hist (s.rawNow - 1) with
     | some e => compares signedMode lo hi epArm (e.at (s.rawNow - 1 + lead) 0) e.epoch
     | none => false)

end Sys2Proof.Machine
end

