-- ==== Sys2Proof/Machine/SeqCount.lean ====
section
/-! DEFINITION. What the trigger sequencers count (R222): records accepted for a tenant, and its ledger deviations. -/

namespace Sys2Proof.Machine

/-- The sequencer of tenant `t` beside its registers. -/
def State.seqr (s : State) (t : Nat) : Seqr := smGet {} s.seqrs t

/-- That replaced. -/
def State.setSeqr (s : State) (t : Nat) (x : Seqr) : State := { s with seqrs := smSet {} s.seqrs t x }

/-- RUNSTATE of a sequencer: 0 DISABLED, 1 RUNNING, 2 SUSPENDED. -/
def State.runState (s : State) (t : Nat) : Nat := s.getF TS_STAT_RUNSTATE t

/-- The program words of comparator `k` of a tenant's current state. -/
def State.cmpIdx (s : State) (t k : Nat) : Nat := 64 * t + 4 * s.getF TS_STAT_STATE t + k

/-- Comparator `k` of the current state counts one event when it is of a kind and `p` accepts its PARAM. -/
def State.countCmp (s : State) (t kind : Nat) (p : Nat → Bool) (k : Nat) : State :=
  let i := s.cmpIdx t k
  if s.getF TS_PROG0_KIND i == kind && p (s.getF TS_PROG0_PARAM i) then
    let x := s.seqr t
    s.setSeqr t { x with count := smSet 0 x.count k (smGet 0 x.count k + 1) }
  else s

/-- An event of a kind that a RUNNING sequencer counts. -/
def State.countSeq (s : State) (t kind : Nat) (p : Nat → Bool) : State :=
  if s.runState t == 1 then [0, 1, 2, 3].foldl (fun z k => z.countCmp t kind p k) s else s

/-- A record is accepted for tenant `t` (kind RECORD). -/
def State.seqRecord (s : State) (t typ source : Nat) : State :=
  s.countSeq t 3 (fun w => (w / 2 ^ 40 % 256 == 0 || w / 2 ^ 40 % 256 == typ) &&
    source &&& (w / 2 ^ 8 % 65536) == w / 2 ^ 24 % 65536 &&& (w / 2 ^ 8 % 65536))

/-- A LEDGER_DEVIATION of a kind is formed for tenant `t` (kind LEDGER). -/
def State.seqDeviation (s : State) (t kind : Nat) : State := s.countSeq t 4 (fun w => w / 2 ^ kind % 2 == 1)

end Sys2Proof.Machine
end

