-- ==== Sys2Proof/Machine/Pool.lean ====
section
/-! DEFINITION. Cells, loss tallies, shedding and the acceptance of records (R281 to R298, R327 to R329, R342, R343): what every unit
that forms a record goes through. -/

namespace Sys2Proof.Machine

/-! ### Tenants' windows as records see them -/

/-- The state of tenant `t`'s window beside its registers. -/
def State.window (s : State) (t : Nat) : Window := smGet {} s.win.wins t

/-- Tenant `t`'s window replaced. -/
def State.setWindow (s : State) (t : Nat) (w : Window) : State :=
  { s with win := { s.win with wins := smSet {} s.win.wins t w } }

/-- The open generation of a tenant, or 0 (R315, R317). -/
def State.openGen (s : State) (t : Nat) : Nat := s.getF WN_GEN_CUR t

/-- The source group of a SEAL (R320). -/
def sourceGroup (grp source : Nat) : Nat :=
  if grp == 0 then (if source < 0x8000 then 0 else if source < 0x8200 then 1 else if source < 0x8300 then 2 else 3)
  else if grp == 1 then
    (if source < 0x8000 then source / 2048 else if source < 0x8200 then 16 else if source < 0x8300 then 17 else 18)
  else (if source < 0x8000 then source / 1024 else if source < 0x8200 then 32 else if source < 0x8300 then 33 else 34)

/-- A record accepted into the open window is counted by class, slots, digest and source group (R320, R321). -/
def Window.count (w : Window) (r : Rec) : Window :=
  let g := sourceGroup w.grp r.source
  { w with
    c1 := w.c1 + (if r.cls == 1 then 1 else 0)
    c2 := w.c2 + (if r.cls == 2 then 1 else 0)
    c3 := w.c3 + (if r.cls == 3 then 1 else 0)
    slots := w.slots + r.slots
    digest := w.digest ^^^ r.crc
    groups := smSet 0 w.groups g (smGet 0 w.groups g + 1) }

/-! ### Queues -/

/-- The state of queue `q` beside its registers. -/
def State.queue (s : State) (q : Nat) : Queue := smGet {} s.qm.queues q

/-- Queue `q` replaced; MARK_SET follows the mark. -/
def State.setQueue (s : State) (q : Nat) (x : Queue) : State :=
  let s1 := { s with qm := { s.qm with queues := smSet {} s.qm.queues q x } }
  s1.setFlag QM_QSTAT_MARK_SET q (match x.mark with | .set _ _ _ => true | _ => false)

/-- The ring of tenant `t`. -/
def State.ring (s : State) (t : Nat) : Ring := smGet {} s.qm.rings t

/-- The ring of tenant `t` replaced. -/
def State.setRing (s : State) (t : Nat) (r : Ring) : State :=
  { s with qm := { s.qm with rings := smSet {} s.qm.rings t r } }

/-- The ring entries of queue `q` under its present incarnation (R299). -/
def State.remoteOf (s : State) (q : Nat) : List RingEnt :=
  (s.ring (s.getF QM_QCFG_TENANT q)).ents.filter
    (fun e => e.queue == q && e.incarn == s.getF QM_QSTAT_INCARN q)

/-- Some of the queue's cells lie in the salt pans (R290). -/
def State.isRemote (s : State) (q : Nat) : Bool := !(s.remoteOf q).isEmpty

/-- The tenant's pool share is full (R288). -/
def State.shareFull (s : State) (t : Nat) : Bool := decide (s.getF QT_LIMIT_LIMIT t ≤ s.getF QT_USE_RESIDENT t)

/-- QT_USE.FULL shows whether the share is full (R288). -/
def State.showFull (s : State) (t : Nat) : State := s.setFlag QT_USE_FULL t (s.shareFull t)

/-- A bank is mapped out (R281). -/
def State.bankOut (s : State) (b : Nat) : Bool := bitOf (s.getReg .QM_BANK 0) b

/-- A free cell of a bank: the first free one at or after a place inside the bank that the manual does not fix (a free value),
around the bank. -/
def State.cellIn (s : State) (b : Nat) : Option Nat :=
  let start := (Config.freeWord s.freeCtr).toNat % 4096
  let n := (s.qm.used.filter (fun e => e.1 / 4096 == b)).length
  if 4096 ≤ n then none
  else match smFree s.qm.used 4096 (4096 * b + start) (4096 * b + 4096) with
    | some x => some x
    | none => smFree s.qm.used 4096 (4096 * b) (4096 * b + start)

/-- The free cell that the rotation over the usable banks gives, from bank `b` on (R281). -/
def State.pickCell (s : State) : Nat → Nat → Option Nat
  | 0, _ => none
  | fuel + 1, b =>
    if s.bankOut b then s.pickCell fuel ((b + 1) % 64)
    else match s.cellIn b with
      | some x => some x
      | none => s.pickCell fuel ((b + 1) % 64)

/-- A cell taken for tenant `t`: FREE falls, RESIDENT rises and the rotation goes on to the next bank (R281, R288). -/
def State.allocCell (s : State) (t q : Nat) : State × Nat :=
  match s.pickCell 64 s.qm.bankPtr with
  | none => (s, 0)
  | some x =>
    let s1 := { s with
      qm := { s.qm with used := smSet false s.qm.used x true, bankPtr := (x / 4096 + 1) % 64 }
      freeCtr := s.freeCtr + 1 }
    (((((s1.decF QM_POOL_FREE 0 1).incF QT_USE_RESIDENT t).incF QM_QSTAT_RESIDENT q).showFull t).countBlock 5 1, x)

/-- A cell of tenant `t` freed: RESIDENT falls, and FREE rises unless the cell's bank is mapped out (R281). -/
def State.freeCell (s : State) (t x : Nat) : State :=
  let s1 := { s with qm := { s.qm with used := smSet false s.qm.used x false } }
  let s2 := if s1.bankOut (x / 4096) then s1 else s1.incF QM_POOL_FREE 0
  (s2.decF QT_USE_RESIDENT t 1).showFull t

/-- A cell of queue `q` freed. -/
def State.freeCellOf (s : State) (q x : Nat) : State :=
  (s.freeCell (s.getF QM_QCFG_TENANT q) x).decF QM_QSTAT_RESIDENT q 1

/-- The scrubber's walk reaches every cell below `p`: those of the incarnations that it serves are free (R294). -/
def State.scrubTo (s : State) (p : Nat) : State :=
  let s1 := s.qm.serving.foldl (fun s o => (o.cells.filter (fun x => decide (x < p))).foldl (fun s x => s.freeCell o.tenant x) s) s
  let rest := s.qm.serving.map (fun o => { o with cells := o.cells.filter (fun x => decide (p ≤ x)) })
  { s1 with qm := { s1.qm with serving := rest } }

/-- The link entry that the walk has come to: 32 entries in each clk_core cycle, of which one raw tick holds 1.024 (R294). -/
def State.scrubPos (s : State) : Nat := min 262144 (32 * ((s.rawNow - s.qm.walkAt) * 1024 / 1000))

/-- All records of a cell are GONE. -/
def Cell.spent (c : Cell) : Bool := c.recs.all (·.gone)

/-- The cells of a list that still hold a record, and the indices of the others (R292, R298). -/
def sweepCells (cs : List Cell) : List Cell × List Nat :=
  (cs.filter (fun c => !c.spent), (cs.filter (·.spent)).map (·.idx))

/-- Every resident cell of queue `q` whose records are all GONE returns to the free list. -/
def State.sweep (s : State) (q : Nat) : State :=
  let x := s.queue q
  let (f, ff) := sweepCells x.front
  let (b, bf) := sweepCells x.back
  (ff ++ bf).foldl (fun s i => s.freeCellOf q i) (s.setQueue q { x with front := f, back := b })

/-! ### Loss tallies (R327 to R329) -/

/-- The LOSS record of a tally closed, formed now (R328). -/
def Tally.payload (y : Tally) : List Byte :=
  leBytes 1 y.cause ++ leBytes 1 ((if y.formed then 1 else 0) + (if y.seqValid then 2 else 0)) ++ leBytes 2 y.source ++
  leBytes 4 y.count ++ leBytes 4 y.gen ++ leBytes 4 y.slots ++
  leBytes 4 (if y.seqValid then y.firstSeq else 0) ++ leBytes 4 (if y.seqValid then y.lastSeq else 0) ++
  leBytes 4 (if y.formed then y.digest else 0) ++ leBytes 1 y.cls ++ leBytes 3 0 ++ leBytes 8 y.firstAt ++ leBytes 8 0

/-- The tally of a source closes and waits for its LOSS record (R329). -/
def State.closeTally (s : State) (source : Nat) : State :=
  match smGet none s.win.tallies source with
  | none => s
  | some y => { s with win := { s.win with tallies := smSet none s.win.tallies source none, closed := s.win.closed ++ [y] } }

/-- A record lost with a cause that the window unit accounts (R327, R329). A record not formed carries a SEQ only when an engine
gave it one (R35). A LOSS record that is refused is not tallied again: it waits in the unit. -/
def State.lose (s : State) (r : Rec) (cause : Nat) (formed : Bool) : State :=
  if r.typ == 0x52 && !formed then s
  else
    let hasSeq := formed || decide (r.source < 0x8000)
    let gen := if formed then r.gen else s.openGen r.tenant
    let fresh : Tally :=
      { source := r.source, tenant := r.tenant, cause := cause, gen := gen, cls := r.cls, formed := formed, count := 1,
        slots := r.slots, seqValid := hasSeq, firstSeq := r.seq, lastSeq := r.seq,
        digest := if formed then r.crc else 0, firstAt := s.shortNow, firstUs := s.us }
    match smGet none s.win.tallies r.source with
    | some y =>
      if y.tenant == r.tenant && y.cause == cause && y.gen == gen && y.cls == r.cls && y.formed == formed &&
          y.seqValid == hasSeq && (!hasSeq || r.seq == (y.lastSeq + 1) % 2 ^ 28) then
        let y' := { y with count := y.count + 1, slots := y.slots + r.slots, lastSeq := r.seq,
                           digest := if formed then y.digest ^^^ r.crc else y.digest }
        { s with win := { s.win with tallies := smSet none s.win.tallies r.source (some y') } }
      else
        let s1 := s.closeTally r.source
        { s1 with win := { s1.win with tallies := smSet none s1.win.tallies r.source (some fresh) } }
    | none => { s with win := { s.win with tallies := smSet none s.win.tallies r.source (some fresh) } }

/-- The tallies of a tenant's generation close when its window is settled (R329). -/
def State.settleTallies (s : State) (t gen : Nat) : State :=
  (smKeys (fun _ y => match y with | some y => y.tenant == t && y.gen == gen | none => false) s.win.tallies).foldl
    (fun s k => s.closeTally k) s

/-! ### Shedding at the door (R342, R343) -/

/-- keep() of R342 for the record number `n` of its source. -/
def keeps (shed3 : Bool) (d cls n source : Nat) : Bool :=
  if cls == 3 then !shed3
  else if cls != 2 || d == 0 then true
  else if 8 ≤ d then false
  else n / 256 % 2 ^ d == source % 2 ^ d

/-- The number of records a source has offered, and the state in which this one is counted (R342). -/
def State.offer (s : State) (source : Nat) : Nat × State :=
  let n := smGet 0 s.qm.offered source
  (n, { s with qm := { s.qm with offered := smSet 0 s.qm.offered source (n + 1) } })

/-! ### Acceptance (R286 to R292) -/

/-- The queue that the queue allocation table gives a record, if its entry is valid (R286). -/
def State.route (s : State) (source tenant cls : Nat) : Option Nat :=
  if source < 0x8300 then
    if s.flag QM_SRCMAP_VALID source then some (s.getF QM_SRCMAP_QUEUE source) else none
  else
    let e := bitsOf (s.getReg .QT_UNITQ tenant) (16 * cls + 15) (16 * cls)
    if 32768 ≤ e then some (e % 32768) else none

/-- The tail cell of a queue, when it may take a further record: the last resident cell that follows every remote one, and not
closed (R282, R299). -/
def Queue.tail (x : Queue) (remote : Bool) : Option Cell :=
  match x.back.getLast? with
  | some c => if c.closed then none else some c
  | none => if remote then none else match x.front.getLast? with
    | some c => if c.closed then none else some c
    | none => none

/-- Cells that a queue holds, resident. -/
def Queue.cells (x : Queue) : List Cell := x.front ++ x.back

/-- Slots written in a cell (USED of R283). -/
def Cell.used (c : Cell) : Nat := slotsBefore c.recs

/-- The record fits the tail cell. -/
def Queue.fits (x : Queue) (remote : Bool) (slots : Nat) : Bool :=
  match x.tail remote with
  | some c => decide (c.used + slots ≤ 8)
  | none => false

/-- A record formed by a block unit in class 0 or 1, which a full share never refuses (R288). -/
def isControl (r : Rec) : Bool := decide (0x8300 ≤ r.source) && decide (r.cls ≤ 1)

/-- Why the queue manager refuses a record for queue `q`, or 0 (R286, R288, R289, R292, R296). -/
def State.refuse (s : State) (q : Nat) (r : Rec) : Nat :=
  let x := s.queue q
  if !s.flag QM_QCFG_VALID q || s.getF QM_QCFG_TENANT q != r.tenant then 3
  else if s.getF QM_QSTAT_COUNT q == 2 ^ 24 - 1 then 4
  else if x.fits (s.isRemote q) r.slots then 0
  else if s.flag QM_QCFG_FR q && decide (s.getF QM_QCFG_CAP q ≤ x.cells.length) then
    (if s.flag QM_QSTAT_FROZEN q then 4 else 0)
  else if !isControl r && s.shareFull r.tenant then 1
  else if decide (s.getF QM_POOL_FREE 0 ≤ if isControl r then 0 else s.getF QM_CFG_CTL_RESERVE 0) then 2
  else 0

/-- COUNT of a queue falls by `n` (R291). -/
def State.uncount (s : State) (q n : Nat) : State := s.decF QM_QSTAT_COUNT q n

/-- The head cell of a flight-recorder queue is recycled: its records that are not GONE end as RECYCLED, a mark whose records it
held is lost, and the cell returns to the free list (R296, R297). -/
def State.recycle (s : State) (q : Nat) : State :=
  let x := s.queue q
  match x.cells with
  | [] => s
  | c :: rest =>
    let live := c.recs.filter (fun r => !r.gone)
    let lost := match x.mark with
      | .set g _ _ => c.recs.any (fun r => r.gen == g)
      | _ => false
    let mark := match x.mark with
      | .set g _ _ => if lost then Mark.lost g else x.mark
      | m => m
    let s1 := s.setQueue q { x with front := rest, back := [], mark := mark }
    let s2 := if lost then s1.setFlag QM_QSTAT_MARK_LOST q true else s1
    let s3 := (s2.uncount q live.length).freeCellOf q c.idx
    live.foldl (fun s r => s.lose r 5 true) s3

/-- The last cell of a list replaced. -/
def replaceLast (cs : List Cell) (c : Cell) : List Cell := cs.dropLast ++ [c]

/-- A record placed at the tail of queue `q`: in the tail cell when it fits, else in a new cell, the old tail being closed (R282).
A rewinding queue without a mark sets it at the first record of a generation (R297). -/
def State.place (s : State) (q : Nat) (r : Rec) : State :=
  let s1 := if (s.queue q).fits (s.isRemote q) r.slots then s
    else
      let s0 := if s.flag QM_QCFG_FR q && decide (s.getF QM_QCFG_CAP q ≤ (s.queue q).cells.length) then s.recycle q else s
      let x0 := s0.queue q
      let x1 := if x0.back.isEmpty then { x0 with front := x0.front.map (fun c => { c with closed := true }) }
        else { x0 with back := x0.back.map (fun c => { c with closed := true }) }
      let (s2, idx) := (s0.setQueue q x1).allocCell (s0.getF QM_QCFG_TENANT q) q
      s2.setQueue q { x1 with back := x1.back ++ [{ idx := idx, recs := [] }] }
  let x := s1.queue q
  let c := match x.back.getLast? with
    | some c => c
    | none => (x.front.getLast?).getD { idx := 0, recs := [] }
  let mark := match x.mark with
    | .none => if s1.flag QM_QCFG_REWIND q && r.gen != 0 then Mark.set r.gen c.idx c.used else .none
    | m => m
  let c' := { c with recs := c.recs ++ [r] }
  let x' := if x.back.isEmpty then { x with front := replaceLast x.front c', mark := mark }
    else { x with back := replaceLast x.back c', mark := mark }
  (s1.setQueue q x').incF QM_QSTAT_COUNT q

/-- The SEQ of a record: an engine's own, else the next of its source and tenant (R35). -/
def State.takeSeq (s : State) (r : Rec) : State × Nat :=
  if r.source < 0x8000 then (s, r.seq)
  else
    let k := r.source * 64 + r.tenant
    let n := smGet 0 s.qm.seqs k
    ({ s with qm := { s.qm with seqs := smSet 0 s.qm.seqs k ((n + 1) % 2 ^ 28) } }, n)

/-- An old incarnation of a queue: its cells handed to the scrubber, COUNT 0, the next incarnation (steps 1 to 3 of R293). The
answer is the number of records discarded. -/
def State.dropQueue (s : State) (q : Nat) : State × Nat :=
  let x := s.queue q
  let n := s.getF QM_QSTAT_COUNT q
  let inc := s.getF QM_QSTAT_INCARN q
  let t := s.getF QM_QCFG_TENANT q
  let o : Orphan := { queue := q, incarn := inc, tenant := t, cells := x.cells.map (·.idx) }
  let s1 := s.setQueue q {}
  let s2 := { s1 with qm := { s1.qm with waiting := s1.qm.waiting ++ [o] } }
  let s3 := (s2.setF QM_QSTAT_INCARN q (inc + 1)).setF QM_QSTAT_COUNT q 0
  ((s3.setF QM_QSTAT_RESIDENT q 0).setFlag QM_QSTAT_FROZEN q false, n)

/-- The record `r` taken into queue `q`: SEQ, generation, window counts, the count of the tenant's sequencer, and
the end of its source's tally (R35, R222, R287, R317, R329). -/
def State.take (s : State) (q : Nat) (r : Rec) : State :=
  let (s1, seq) := s.takeSeq r
  let gen := if noWindow r.typ then 0 else s1.openGen r.tenant
  let r1 := { r with seq := seq, gen := gen, gone := false, err := 0 }
  let s2 := s1.place q r1
  let s3 := if gen == 0 then s2 else s2.setWindow r.tenant ((s2.window r.tenant).count r1)
  let s4 := s3.seqRecord r.tenant r.typ r.source
  match smGet none s4.win.tallies r.source with
  | some y => if y.tenant == r.tenant then s4.closeTally r.source else s4
  | none => s4

/-- One record offered to the queue manager, without the LOSS records that it may call for (R286 to R289, R342, R343). The answer
is the cause of refusal, 11 when it was shed, 13 when a failure of its queue's pointers discarded it (R293, R313), 0 when it was
accepted. Every offer to a queue of the tenant compares the copies of its descriptor. -/
def State.offerRec (s : State) (r : Rec) : State × Nat :=
  let (n, s0) := if r.source < 0x8000 then (r.seq, s) else s.offer r.source
  if !keeps (s0.flag EX_SHSTAT_SHED3 r.tenant) (s0.getF EX_SHSTAT_D r.tenant) r.cls n r.source then
    (((s0.incF EX_SHSTAT_SHED r.tenant).countBlock 10 r.slots).lose r 11 false, 11)
  else match s0.route r.source r.tenant r.cls with
    | none => ((s0.incF QT_USE_REFUSED r.tenant).lose r 3 false, 3)
    | some q =>
      let c := s0.refuse q r
      if c != 3 && (s0.queue q).desc != 0 then (s0, 13)
      else if c == 0 then (s0.take q r, 0)
      else
        let s1 := if c == 2 then s0.incF QM_ERR_POOL 0 else s0
        ((s1.incF QT_USE_REFUSED r.tenant).lose r c false, c)

/-- The record of a closed tally, stamped now (R328): source 0x8301 for causes 9 and 10, 0x8303 otherwise. -/
def State.lossRec (s : State) (y : Tally) : Rec :=
  { typ := 0x52, slots := 2, cls := 1, tenant := y.tenant, source := if y.cause == 9 || y.cause == 10 then 0x8301 else 0x8303,
    seq := 0, stamp := s.shortNow, payload := y.payload, epoch := s.epoch }

/-- The closed tallies that wait are offered as LOSS records, in order; one that the queue manager cannot accept stays in the unit
(R329). A LOSS accepted may close a further tally, so the fuel counts offers. -/
def State.formLosses : Nat → State → State
  | 0, s => s
  | fuel + 1, s =>
    match s.win.closed.find? (fun y => !y.tried) with
    | none => s
    | some y =>
      let (s1, c) := s.offerRec (s.lossRec y)
      let rest := s1.win.closed.span (fun y => y.tried)
      let kept := if c == 0 then rest.1 ++ rest.2.drop 1 else rest.1 ++ [{ y with tried := true }] ++ rest.2.drop 1
      State.formLosses fuel { s1 with win := { s1.win with closed := kept } }

/-- The LOSS records of the tallies that an operation has closed are formed (R329). -/
def State.settleLosses (s : State) : State := s.formLosses (2 * s.win.closed.length + 2)

/-- The payload of an ALARM: CODE, two zero bytes and the detail (R295, R344). -/
def alarmPayload (code : Nat) (detail : List Byte) : List Byte := leBytes 2 code ++ leBytes 2 0 ++ detail

/-- A block-formed record stamped now. -/
def State.unitRec (s : State) (typ slots cls tenant source : Nat) (payload : List Byte) : Rec :=
  { typ := typ, slots := slots, cls := cls, tenant := tenant, source := source, seq := 0, stamp := s.shortNow,
    payload := payload, epoch := s.epoch }

/-- The ALARM QERR of a queue reset (R295). -/
def State.qerrRec (s : State) (q cause n : Nat) : Rec :=
  s.unitRec 0x60 1 0 (s.getF QM_QCFG_TENANT q) 0x8305
    (alarmPayload 0x0901 (leBytes 2 q ++ leBytes 1 cause ++ leBytes 1 0 ++ leBytes 4 (satTo 32 n)))

/-- A record offered to the queue manager (R287). When its queue's pointers fail, the queue is reset, the record is discarded and
ALARM QERR counts it (R293); that ALARM may meet a failed queue itself, hence the fuel. -/
def State.append : Nat → State → Rec → State × Nat
  | 0, s, _ => (s, 13)
  | fuel + 1, s, r =>
    let (s1, c) := s.offerRec r
    if c == 13 then
      let q := (s1.route r.source r.tenant r.cls).getD 0
      let d := (s1.queue q).desc
      let (s2, n) := s1.dropQueue q
      let s3 := (s2.setFlag QM_QSTAT_QERR q true).incF QM_ERR_QERR 0
      ((State.append fuel s3 (s3.qerrRec q d (n + 1))).1, 13)
    else (s1.settleLosses, c)

/-- A record offered, for its effect alone. -/
def State.form (s : State) (r : Rec) : State := (s.append 3 r).1

/-- An ALARM of one slot in class 0 (R37, R344). -/
def State.alarm (s : State) (tenant source code : Nat) (detail : List Byte) : State :=
  s.form (s.unitRec 0x60 1 0 tenant source (alarmPayload code detail))

/-- A queue reset (R293): its old incarnation to the scrubber, COUNT 0, ALARM QERR; but for a host RESET (cause 4) QERR is set and
QM_ERR.QERR advances. -/
def State.resetQueue (s : State) (q cause : Nat) : State :=
  let (s1, n) := s.dropQueue q
  let s2 := if cause == 4 then s1 else (s1.setFlag QM_QSTAT_QERR q true).incF QM_ERR_QERR 0
  s2.form (s2.qerrRec q cause n)

/-- A use of the queue compares its descriptor's copies (R293). -/
def State.useQueue (s : State) (q : Nat) : State :=
  if (s.queue q).desc == 0 then s else s.resetQueue q (s.queue q).desc

end Sys2Proof.Machine
end

