-- ==== Sys2Proof/Machine/Window.lean ====
section
/-! DEFINITION. Windows (R315 to R324): opening, crystallising and voiding, with what they do to dependences, mailboxes, rewind
marks and queues. -/

namespace Sys2Proof.Machine

/-! ### Mailboxes (R120) -/

/-- Mailbox `m`. -/
def State.mailbox (s : State) (m : Nat) : Mailbox := smGet {} s.mbox m

/-- Mailbox `m` replaced; PARKED follows the slot. -/
def State.setMailbox (s : State) (m : Nat) (x : Mailbox) : State :=
  ({ s with mbox := smSet {} s.mbox m x }).setFlag MB_HDR_PARKED m x.parked.isSome

/-- "Show" of R120: the shown result, LEN, SEQ + 1, READY, and the tenant interrupt when MB_IRQ is 1. Mailbox `m` belongs to tenant
m / 4. -/
def State.showResult (s : State) (m len : Nat) (data : List Byte) : State :=
  let x := s.mailbox m
  let s1 := s.setMailbox m { x with shown := padTo 48 (padTo len data) }
  let s2 := ((s1.setF MB_HDR_LEN m len).incF MB_HDR_SEQ m).setFlag MB_HDR_READY m true
  if s2.flag TN_CFG_MB_IRQ (m / 4) then s2.raiseTenant (m / 4) IRQ_TCAUSE_MAILBOX else s2

/-- A parked post whose window is crystallised is shown when READY is 0 (R120). -/
def State.releasePark (s : State) (m : Nat) : State :=
  match (s.mailbox m).parked with
  | some p =>
    if p.sealed && !s.flag MB_HDR_READY m then
      (s.setMailbox m { s.mailbox m with parked := none }).showResult m p.len p.data
    else s
  | none => s

/-- The parked post of mailbox `m` meets the settlement of generation `g` (R120): discarded at a void, released at a crystallising. -/
def State.settlePark (s : State) (g : Nat) (voided : Bool) (m : Nat) : State :=
  match (s.mailbox m).parked with
  | some p =>
    if p.gen == g && !p.sealed then
      if voided then (s.setMailbox m { s.mailbox m with parked := none }).incF MB_HDR_VOIDED m
      else (s.setMailbox m { s.mailbox m with parked := some { p with sealed := true } }).releasePark m
    else s
  | none => s

/-- The four mailboxes of tenant `t` meet a settlement. -/
def State.settleParks (s : State) (t g : Nat) (voided : Bool) : State :=
  (((s.settlePark g voided (4 * t)).settlePark g voided (4 * t + 1)).settlePark g voided (4 * t + 2)).settlePark g voided (4 * t + 3)

/-! ### Dependences (R148) -/

/-- The tenant that owns a context: the one whose TN_CTX_MASK holds it. -/
def State.ownerOf (s : State) (c : Nat) : Option Nat :=
  (List.range 64).find? (fun t => bitOf (s.getReg .TN_CTX_MASK (4 * t + c / 64)) (c % 64))

/-- The contexts of tenant `t` whose dependence names generation `g`. -/
def State.dependents (s : State) (t g : Nat) : List Nat := smKeys (fun c x => x.dep == some g && s.ownerOf c == some t) s.ctxs

/-- Every dependence of the tenant's contexts on generation `g` ends; a void sets DVOID (R148). -/
def State.endDeps (s : State) (t g : Nat) (voided : Bool) : State :=
  (s.dependents t g).foldl
    (fun s c =>
      let x := smGet {} s.ctxs c
      ({ s with ctxs := smSet {} s.ctxs c { x with dep := none, dvoid := x.dvoid || voided } }).setFlag CX_STATUS_DEP c false) s

/-! ### Rewinds (R297, R298) -/

/-- The live records of generation `g` in a list of cells. -/
def liveOf (g : Nat) (cs : List Cell) : List Rec :=
  (cs.flatMap (·.recs)).filter (fun r => r.gen == g && !r.gone)

/-- GONE set for every record of generation `g`. -/
def markGone (g : Nat) (cs : List Cell) : List Cell :=
  cs.map (fun c => { c with recs := c.recs.map (fun r => if r.gen == g then { r with gone := true } else r) })

/-- The queues of tenant `t` whose mark names generation `g`. -/
def State.markedQueues (s : State) (t g : Nat) : List Nat :=
  smKeys (fun q x => s.getF QM_QCFG_TENANT q == t &&
    (match x.mark with | .set g' _ _ => g' == g | .lost g' => g' == g | .none => false)) s.qm.queues

/-- The rewind of queue `q` (R298): GONE for every record of `g`, resident or remote, COUNT lowered, spent cells freed. A failed
rewind reports its records as lost. The answer is the number rolled back and whether the rewind failed. -/
def State.rewind (s0 : State) (t g q : Nat) : State × Nat × Bool :=
  let s := s0.useQueue q
  let x := s.queue q
  let failed := match x.mark with | .lost _ => true | _ => false
  let mine := fun (e : RingEnt) => e.queue == q && e.incarn == s.getF QM_QSTAT_INCARN q
  let rg := s.ring t
  let recs := liveOf g x.front ++ liveOf g ((rg.ents.filter mine).map (·.cell)) ++ liveOf g x.back
  let ents := rg.ents.map (fun e => if mine e then { e with cell := (markGone g [e.cell]).headD e.cell } else e)
  let s1 := (s.setRing t { rg with ents := ents }).setQueue q
    { x with front := markGone g x.front, back := markGone g x.back, mark := .none }
  let s2 := (s1.uncount q recs.length).sweep q
  let s3 := if failed then recs.foldl (fun s r => s.lose r 6 true) s2 else s2
  (s3, if failed then 0 else recs.length, failed)

/-- The rewinds of a void of generation `g`, queue by queue: the records rolled back and whether one failed. -/
def State.rewindAll (s : State) (t g : Nat) : List Nat → State × Nat × Bool
  | [] => (s, 0, false)
  | q :: qs =>
    let (s1, n, f) := s.rewind t g q
    let (s2, n', f') := s1.rewindAll t g qs
    (s2, n + n', f || f')

/-- The marks of a crystallised generation are cleared (R297). -/
def State.clearMarks (s : State) (t g : Nat) : State :=
  (s.markedQueues t g).foldl (fun s q => s.setQueue q { s.queue q with mark := .none }) s

/-! ### The window state table (R318) -/

/-- *Advance*: the generation after `g`, skipping 0. -/
def nextGen (g : Nat) : Nat := if (g + 1) % 2 ^ 32 == 0 then 1 else (g + 1) % 2 ^ 32

/-- floor(fabric time in ns ÷ (2^K × 1,000)) of R316. -/
def intervalIdx (fab k : Nat) : Nat := fab / 2 ^ 40 / (2 ^ k * 1000)

/-- A window opens with generation `g`: the configuration is latched, the counts are empty, and the partner hears of it (R316, R318,
R379). -/
def State.openAs (s : State) (t g : Nat) : State :=
  let old := s.window t
  let k := s.getF WN_CFG_K t
  let w : Window :=
    { openStamp := s.shortNow, openEpoch := s.epoch, openIdx := intervalIdx s.fabNow k, openUs := s.us,
      align := s.getF WN_CFG_ALIGN t, k := k, maxk := s.getF WN_CFG_MAXK t, grp := s.getF WN_CFG_GRP t,
      voided := old.voided.filter (· != g), jobs := old.jobs, last := old.last, lastInt := old.lastInt }
  let s1 := ((s.setWindow t w).setF WN_GEN_CUR t g).setF WN_GEN_NEXT t (nextGen g)
  (s1.setF WN_STAT_STATE t 1).sendMir (.window t g (nextGen g) (s.getReg .WN_CFG t))

/-- A window opens with generation NEXT. -/
def State.openNext (s : State) (t : Nat) : State := s.openAs t (s.getF WN_GEN_NEXT t)

/-- The window of a tenant is held back while the block is JOINING (R389). -/
def State.heldBack (s : State) (t : Nat) : Bool := s.joining && s.flag PR_TEN_WIN_MIRROR t

/-- The successor of a window that closes opens in the same cycle, unless R389 holds it back: then the tenant has no window. -/
def State.openSuccessor (s : State) (t : Nat) : State :=
  if s.heldBack t then (s.setF WN_GEN_CUR t 0).setF WN_STAT_STATE t 0 else s.openNext t

/-- The tenant is ACTIVE with EN = 1 and nothing holds its window back: a DISABLED window opens (R318). -/
def State.tryOpen (s : State) (t : Nat) : State :=
  if s.getF WN_STAT_STATE t == 0 && s.getF TN_STATUS_STATE t == 1 && s.flag WN_CFG_EN t && !s.heldBack t then s.openNext t else s

/-- The group counts of a SEAL (R320). -/
def sealGroups (w : Window) : Nat → Nat → List Byte
  | 0, _ => []
  | n + 1, i => leBytes 4 (smGet 0 w.groups i) ++ sealGroups w n (i + 1)

/-- NGRP of a grouping (R320). -/
def groupCount (grp : Nat) : Nat := if grp == 0 then 4 else if grp == 1 then 19 else 35

/-- SEAL slots of a grouping (R320). -/
def sealSlots (grp : Nat) : Nat := if grp == 0 then 3 else if grp == 1 then 5 else 7

/-- The payload of SEAL (R320). -/
def sealPayload (w : Window) (g outcome : Nat) : List Byte :=
  leBytes 4 g ++ leBytes 1 outcome ++ leBytes 1 w.grp ++ leBytes 2 (groupCount w.grp) ++ leBytes 8 w.openStamp ++
  leBytes 4 w.c1 ++ leBytes 4 w.c2 ++ leBytes 4 w.c3 ++ leBytes 4 w.slots ++ leBytes 4 w.digest ++ leBytes 2 w.openEpoch ++
  leBytes 10 0 ++ sealGroups w (groupCount w.grp) 0

/-- The tenant interrupt of a SEAL or VOID, when SEAL_IRQ is 1 (R319, R322). -/
def State.sealIrq (s : State) (t : Nat) : State :=
  if s.flag WN_CFG_SEAL_IRQ t then s.raiseTenant t IRQ_TCAUSE_WINDOW else s

/-- Window CUR of tenant `t` crystallised with an outcome (R319); `after` is the STATE that follows, 1 for the successor's window, which changes
in the same cycle: a SEAL that is refused is lost in that window (R318, R328). -/
def State.crystallise (s : State) (t outcome after : Nat) : State :=
  let g := s.openGen t
  let w := s.window t
  let n := w.c1 + w.c2 + w.c3
  let s1 := s.setWindow t { w with last := { c1 := w.c1, c2 := w.c2, c3 := w.c3, slots := w.slots, opened := w.openStamp } }
  let s2 := (s1.setF WN_GEN_CUR t 0).setF WN_STAT_STATE t after
  let s3 := ((s2.setF WN_LAST_OUTCOME t outcome).setF WN_LAST_GEN t g).setF WN_LASTCNT_RECORDS t n
  let s4 := s3.setF WN_LASTCNT_DIGEST t w.digest
  let s5 := if after == 1 then s4.openSuccessor t else s4
  let s6 := (((s5.form (s5.unitRec 0x50 (sealSlots w.grp) 1 t 0x8303 (sealPayload w g outcome))).endDeps t g false).settleParks t g false).clearMarks t g
  ((s6.settleTallies t g).settleLosses).sealIrq t

/-- Window CUR crystallised with an outcome, and its successor opened in the same cycle (R318). -/
def State.closeAndOpen (s : State) (t outcome : Nat) : State := s.crystallise t outcome 1

/-- Window CUR of tenant `t` voided (R322): the next one opens, or none while R389 holds it back, dependences get DVOID, parked posts are discarded, queues with
REWIND = 1 rewind or fail to; the VOID record waits for its settlement. -/
def State.voidWindow (s : State) (t reason : Nat) : State :=
  let g := s.openGen t
  let w := s.window t
  let formed := w.c1 + w.c2 + w.c3
  let (s1, rolled, failed) := s.rewindAll t g (s.markedQueues t g)
  let job : VoidJob := { gen := g, reason := reason, failed := failed, refused := w.refused, formed := formed, rolled := rolled,
                         stamp := s.shortNow, epoch := s.epoch, deps := s.dependents t g, raw := s.rawNow }
  let s2 := s1.setWindow t { w with voided := w.voided ++ [g], jobs := w.jobs ++ [job] }
  let s3 := ((s2.setF WN_LAST_OUTCOME t 8).setF WN_LAST_GEN t g).setF WN_LASTCNT_RECORDS t formed
  let s4 := (s3.setF WN_LASTCNT_DIGEST t 0).incF WN_STAT_VOIDS t
  let s5 := (s4.endDeps t g true).settleParks t g true
  ((s5.openSuccessor t).settleTallies t g).settleLosses

/-- The window's interval has ended (R316). -/
def State.intervalOver (s : State) (t : Nat) : Bool :=
  let w := s.window t
  s.getF WN_STAT_STATE t == 1 && w.align == 0 && s.running && intervalIdx s.fabNow w.k != w.openIdx

/-- A request to seal or to void window `g` (R157, R318, R345). A natural end due at this instant comes first, and the request is
refused. The answer says whether the request was accepted. -/
def State.windowRequest (s : State) (t g : Nat) (void_ : Bool) (reason : Nat) : State × Bool :=
  if s.intervalOver t then ((s.closeAndOpen t 0).incF WN_STAT_REFUSED t, false)
  else if s.getF WN_STAT_STATE t == 1 && s.openGen t == g then
    if void_ then (s.voidWindow t reason, true) else (s.closeAndOpen t 2, true)
  else (s.incF WN_STAT_REFUSED t, false)

/-- The settlement of a generation as a reader sees it (R146, R335): open, voided, or final. -/
inductive GenState where
  | open_ | voided | final
  deriving DecidableEq, Repr

/-- The state of generation `g` of tenant `t`. -/
def State.genState (s : State) (t g : Nat) : GenState :=
  if g == 0 then .final
  else if g == s.openGen t then .open_
  else if (s.window t).voided.contains g then .voided
  else .final

/-- The VOID record of the oldest void that is not yet settled (R322, R323). -/
def State.settleVoid (s : State) (t : Nat) : State :=
  match (s.window t).jobs with
  | [] => s
  | j :: js =>
    let s1 := s.setWindow t { s.window t with jobs := js }
    let p := leBytes 4 j.gen ++ leBytes 1 j.reason ++ leBytes 1 j.failed.toNat ++ leBytes 2 (satTo 16 j.refused) ++
      leBytes 4 j.formed ++ leBytes 4 j.rolled
    (s1.form { typ := 0x51, slots := 1, cls := 1, tenant := t, source := 0x8303, seq := 0, stamp := j.stamp, payload := p,
               epoch := j.epoch }).sealIrq t

/-- Every void of a tenant settled, oldest first. -/
def State.settleVoids (s : State) (t : Nat) : Nat → State
  | 0 => s
  | n + 1 => (s.settleVoid t).settleVoids t n

end Sys2Proof.Machine
end

