-- ==== Sys2Proof/Machine/Memory.lean ====
section
/-! DEFINITION. Memories: scratch and instruction memory of the cores (R90 to R92), the salt pans and host memory, and the translated
space of a tenant (R304 to R308, R433). A byte nothing has written reads 0. -/

namespace Sys2Proof.Machine

/-- Byte `a` of a memory. -/
def memRead (m : SMap Byte) (a : Nat) : Byte := smGet 0 m a

/-- `n` bytes from `a` on. -/
def memBytes (m : SMap Byte) (a : Nat) : Nat → List Byte
  | 0 => []
  | n + 1 => memRead m a :: memBytes m (a + 1) n

/-- Bytes written from `a` on. -/
def memWrite (m : SMap Byte) (a : Nat) : List Byte → SMap Byte
  | [] => m
  | b :: bs => memWrite (smSet 0 m a b) (a + 1) bs

/-- The core of context `c` (R90). -/
def coreOf (c : Nat) : Nat := c / 4

/-- Core `k`. -/
def State.core (s : State) (k : Nat) : CoreSt := smGet {} s.cores k

/-- Core `k` replaced. -/
def State.setCore (s : State) (k : Nat) (x : CoreSt) : State := { s with cores := smSet {} s.cores k x }

/-- The scratch range of context `c` starts at this byte of its core's scratch (R91). -/
def State.scrBase (s : State) (c : Nat) : Nat := s.getF CX_CFG_SCR_BASE c * 4096

/-- Length of the scratch range of context `c` in bytes. -/
def State.scrLen (s : State) (c : Nat) : Nat := s.getF CX_CFG_SCR_LEN c * 4096

/-- `n` bytes of context `c`'s scratch at scratch address `a`. -/
def State.scrBytes (s : State) (c a n : Nat) : List Byte := memBytes (s.core (coreOf c)).scratch (s.scrBase c + a) n

/-- Bytes written to context `c`'s scratch at scratch address `a`. -/
def State.scrWrite (s : State) (c a : Nat) (bs : List Byte) : State :=
  let k := s.core (coreOf c)
  s.setCore (coreOf c) { k with scratch := memWrite k.scratch (s.scrBase c + a) bs }

/-- The bytes `[a, a + n)` lie in context `c`'s scratch range. -/
def State.inScratch (s : State) (c a n : Nat) : Bool := decide (a + n ≤ s.scrLen c)

/-! ### Translation -/

/-- Bytes of the salt pan carve-out (R304). -/
def State.saltSize (s : State) : Nat := s.getF QM_POOL_SALT_GIB 0 * 2 ^ 30

/-- A place in memory outside the block: host memory or the salt pans, and the address. -/
structure Place where
  hostMem : Bool
  addr : Nat
  deriving DecidableEq, Repr

/-- A byte at `a` of host memory or the salt pans. -/
def State.outByte (s : State) (hostMem : Bool) (a : Nat) : Byte := memRead (if hostMem then s.host else s.salt) a

/-- An uncorrectable error strikes a read of `n` bytes. -/
def State.outBad (s : State) (hostMem : Bool) (a : Nat) : Nat → Bool
  | 0 => false
  | n + 1 => smGet false s.memBad (2 * a + hostMem.toNat) || s.outBad hostMem (a + 1) n

/-- An 8-byte table entry. -/
def State.outEntry (s : State) (hostMem : Bool) (a : Nat) : Nat := leNat (memBytes (if hostMem then s.host else s.salt) a 8)

/-- Translation of `va` for an access of `n` bytes by tenant `t` (R304, R305, R308, R433): the place, or the first cause met.
`write` asks for WRITE and `pinned` for PIN. -/
def State.translate (s : State) (t va n : Nat) (write pinned : Bool) : Except Nat Place :=
  if !s.flag XL_BASE_VALID t then .error 1
  else
    let l1host := s.flag XL_BASE_TARGET t
    let l1 := s.getF XL_BASE_ADDR t * 65536 + 8 * (va / 2 ^ 29 % 2 ^ 19)
    if !l1host && s.saltSize < l1 + 8 then .error 5
    else if s.outBad l1host l1 8 then .error 6
    else
      let e1 := s.outEntry l1host l1
      if e1 / 2 ^ 63 % 2 == 0 then .error 1
      else if e1 / 2 ^ 52 % 2 ^ 10 != 0 || e1 % 2 ^ 16 != 0 then .error 4
      else
        let l2host := e1 / 2 ^ 62 % 2 == 1
        let l2 := e1 / 2 ^ 16 % 2 ^ 36 * 65536 + 8 * (va / 2 ^ 16 % 2 ^ 13)
        if !l2host && s.saltSize < l2 + 8 then .error 5
        else if s.outBad l2host l2 8 then .error 6
        else
          let e2 := s.outEntry l2host l2
          let big := e2 / 2 ^ 59 % 2 == 1
          if e2 / 2 ^ 63 % 2 == 0 then .error 2
          else if e2 / 2 ^ 52 % 2 ^ 7 != 0 || e2 % 2 ^ 16 != 0 || (big && e2 / 2 ^ 16 % 32 != 0) then .error 4
          else
            let pghost := e2 / 2 ^ 62 % 2 == 1
            let a := e2 / 2 ^ 16 % 2 ^ 36 * 65536 + (if big then va % 2 ^ 21 else va % 2 ^ 16)
            if !pghost && s.saltSize < a + n then .error 5
            else if write && e2 / 2 ^ 61 % 2 == 0 then .error 3
            else if pinned && e2 / 2 ^ 60 % 2 == 0 then .error 8
            else .ok ⟨pghost, a⟩

/-- A read of `n` bytes at translated address `va`, which lie in one page. -/
def State.xlRead (s : State) (t va n : Nat) (pinned : Bool) : Except Nat (List Byte) :=
  match s.translate t va n false pinned with
  | .error e => .error e
  | .ok p => if s.outBad p.hostMem p.addr n then .error 7 else .ok (memBytes (if p.hostMem then s.host else s.salt) p.addr n)

/-- Bytes written at a place. -/
def State.outWrite (s : State) (p : Place) (bs : List Byte) : State :=
  if p.hostMem then { s with host := memWrite s.host p.addr bs } else { s with salt := memWrite s.salt p.addr bs }

/-- A write of bytes at translated address `va`, which lie in one page. -/
def State.xlWrite (s : State) (t va : Nat) (bs : List Byte) (pinned : Bool) : Except Nat State :=
  match s.translate t va bs.length true pinned with
  | .error e => .error e
  | .ok p => .ok (s.outWrite p bs)

/-- A stream's read of `n` units of 64 bytes (R309): the bytes, or the cause and the address that faulted. -/
def State.streamRead (s : State) (t va : Nat) (pinned : Bool) : Nat → Except (Nat × Nat) (List Byte)
  | 0 => .ok []
  | n + 1 =>
    match s.xlRead t va 64 pinned with
    | .error e => .error (e, va)
    | .ok bs => match s.streamRead t (va + 64) pinned n with
      | .error e => .error e
      | .ok rest => .ok (bs ++ rest)

/-- A stream's write in units of 64 bytes (R309): the state, or the state so far with the cause and the address that faulted. -/
def State.streamWrite (s : State) (t va : Nat) (pinned : Bool) : Nat → List Byte → State × Option (Nat × Nat)
  | 0, _ => (s, none)
  | n + 1, bs =>
    if bs.isEmpty then (s, none)
    else match s.xlWrite t va (bs.take 64) pinned with
      | .error e => (s, some (e, va))
      | .ok s1 => s1.streamWrite t (va + 64) pinned n (bs.drop 64)

end Sys2Proof.Machine
end

