-- ==== Sys2Proof/Machine/FlowTrace.lean ====
section
/-! DEFINITION. The self flow-trace of a context (R169, R170) in the record formats of the engine trace protocol (R208 to R210). -/

namespace Sys2Proof.Machine

/-- Context `c`. -/
def State.ctx (s : State) (c : Nat) : Ctx := smGet {} s.ctxs c

/-- Context `c` replaced. -/
def State.setCtx (s : State) (c : Nat) (x : Ctx) : State := { s with ctxs := smSet {} s.ctxs c x }

/-- The flow state of context `c` replaced. -/
def State.setFlow (s : State) (c : Nat) (f : Flow) : State := s.setCtx c { s.ctx c with flow := f }

/-- Bits packed eight a byte, the first in the lowest bit. -/
def packBits : Nat → List Bool → List Byte
  | 0, _ => []
  | n + 1, bs =>
    BitVec.ofNat 8 (((bs.take 8).zipIdx.map (fun e => if e.1 then 2 ^ e.2 else 0)).sum) :: packBits n (bs.drop 8)

/-- FLOW_BRANCH: up to 120 branch outcomes, oldest first. -/
def flowBranch (bits : List Bool) : List Byte := leBytes 1 bits.length ++ packBits 15 bits

/-- Bytes of a number without its leading zero bytes. -/
def shortBytes : Nat → Nat → List Byte
  | 0, _ => []
  | fuel + 1, v => if v = 0 then [] else BitVec.ofNat 8 v :: shortBytes fuel (v / 256)

/-- FLOW_TARGET with one target, XOR-coded against the previous one. -/
def flowTarget (target previous : Nat) : List Byte :=
  let x := shortBytes 8 (target ^^^ previous)
  leBytes 1 1 ++ leBytes 1 x.length ++ x

/-- FLOW_SYNC of one slot with its reason: 0 PERIODIC, 2 WAKE, 3 RESYNC (R211). -/
def flowSync (pc image count reason : Nat) : List Byte :=
  leBytes 8 pc ++ leBytes 4 image ++ leBytes 4 (count % 2 ^ 28 + reason * 2 ^ 28)

/-- POWER_MARK WAKE (R212). -/
def powerWake (pstate image count : Nat) : List Byte :=
  leBytes 1 1 ++ leBytes 1 pstate ++ leBytes 2 0 ++ leBytes 4 image ++ leBytes 4 (count % 2 ^ 28) ++ leBytes 4 0

/-- POWER_MARK ENTER (R212). -/
def powerEnter (pstate image count pc time : Nat) : List Byte :=
  leBytes 1 0 ++ leBytes 1 pstate ++ leBytes 2 0 ++ leBytes 4 image ++ leBytes 4 (count % 2 ^ 28) ++ leBytes 4 0 ++
    leBytes 8 pc ++ leBytes 8 time

/-- Owner of a granted context. -/
def State.tenantOf (s : State) (c : Nat) : Nat := s.getF CX_STATUS_TENANT c

/-- The image that context `c` runs. -/
def State.imageOf (s : State) (c : Nat) : Nat := s.getF CX_STATUS_IMAGE_ID c

/-- A flow record of context `c` offered; after a drop, the next record of the context is a FLOW_SYNC (R170). -/
def State.offerFlow (s : State) (c typ slots : Nat) (payload : List Byte) : State :=
  let (s1, cause) := s.append 3 (s.unitRec typ slots 2 (s.tenantOf c) (0x8200 + c) payload)
  if cause == 0 then s1 else s1.setFlow c { (s1.ctx c).flow with sync := true }

/-- A FLOW_SYNC of context `c`; its ADDR is the previous target of the next FLOW_TARGET (R210). -/
def State.syncFlow (s : State) (c reason : Nat) : State :=
  let f := (s.ctx c).flow
  let pc := (s.ctx c).pc.toNat
  (s.setFlow c { f with sync := false, target := pc }).offerFlow c 0x04 1 (flowSync pc (s.imageOf c) f.count reason)

/-- A branch or target record, or the FLOW_SYNC that takes its place after a drop (R170). -/
def State.sendFlow (s : State) (c typ : Nat) (payload : List Byte) : State :=
  if (s.ctx c).flow.sync then s.syncFlow c 3 else s.offerFlow c typ 1 payload

/-- The pending branch bits flushed. -/
def State.flushFlow (s : State) (c : Nat) : State :=
  let f := (s.ctx c).flow
  if f.bits.isEmpty then s
  else (s.setFlow c { f with bits := [] }).sendFlow c 0x02 (flowBranch f.bits)

/-- Context `c` traces itself. -/
def State.tracesFlow (s : State) (c : Nat) : Bool := s.flag CX_CFG_FTRACE c

/-- One branch bit added to those that are pending (R169). -/
def State.pushBit (s : State) (c : Nat) (taken : Bool) : State :=
  let f := (s.ctx c).flow
  if s.tracesFlow c then s.setFlow c { f with bits := f.bits ++ [taken], count := f.count + 1 } else s

/-- One branch bit counted; a full record goes out. -/
def State.countBit (s : State) (c : Nat) (taken : Bool) : State :=
  let s1 := s.pushBit c taken
  if 120 ≤ (s1.ctx c).flow.bits.length then s1.flushFlow c else s1

/-- The FLOW_SYNC of every 4,096 branch bits, with the PC of the next instruction (R169). -/
def State.periodFlow (s : State) (c : Nat) : State :=
  if s.tracesFlow c && (s.ctx c).flow.count % 4096 == 0 then (s.flushFlow c).syncFlow c 0 else s

/-- The one branch bit of a branch (R169). -/
def State.branchBit (s : State) (c : Nat) (taken : Bool) : State := (s.countBit c taken).periodFlow c

/-- An indirect target (R169). While a FLOW_SYNC is due after a drop (R170), it stands for the pending bits and for the target. -/
def State.targetFlow (s : State) (c target : Nat) : State :=
  if !s.tracesFlow c then s
  else
    let f0 := (s.ctx c).flow
    let s1 := if f0.sync then s.setFlow c { f0 with bits := [] } else s.flushFlow c
    let f := (s1.ctx c).flow
    (s1.setFlow c { f with target := target }).sendFlow c 0x03 (flowTarget target f.target)

/-- The records of the first issue after a load or restore: POWER_MARK WAKE, then FLOW_SYNC (R169), whose REASON no rule names for a context: it
is WAKE, as R213 has it of an engine that wakes (DESIGN CHOICE, log entry 102). The power state is a free value (R212: defined by the maker, 1 to 255). -/
def State.firstFlow (s : State) (c : Nat) : State :=
  let x := s.ctx c
  if !x.flow.first then s
  else
    let s1 := s.setFlow c { x.flow with first := false }
    if !s1.tracesFlow c then s1
    else
      let (free, s2) := s1.draw
      (s2.offerFlow c 0x05 1 (powerWake (1 + free.toNat % 255) (s.imageOf c) x.flow.count)).syncFlow c 2

/-- Entry to WAITING flushes the branch bits. -/
def State.waitFlow (s : State) (c : Nat) : State := if s.tracesFlow c then s.flushFlow c else s

/-- Entry to HALTED, TRAPPED or STOPPED: the branch bits, a FLOW_SYNC that is still due, then POWER_MARK ENTER with the final flow
state. Where that FLOW_SYNC is dropped too, no POWER_MARK is formed, since the next record of the context must be a FLOW_SYNC (R170; DEDUCED,
log entry 15). -/
def State.endFlow (s : State) (c : Nat) : State :=
  if !s.tracesFlow c then s
  else
    let (free, s0) := s.draw
    let s1 := s0.flushFlow c
    let s2 := if (s1.ctx c).flow.sync then s1.syncFlow c 3 else s1
    let x := s2.ctx c
    if x.flow.sync then s2 else s2.offerFlow c 0x05 2 (powerEnter (1 + free.toNat % 255) (s.imageOf c) x.flow.count x.pc.toNat s.shortNow)

end Sys2Proof.Machine
end

