-- ==== Sys2Proof/Machine/Isa.lean ====
section
/-! DEFINITION. Issue of an instruction by a context (R104, R105, R124 to R128, R412, R413), traps (R166, R167) and what every
instruction of a format shares. -/

namespace Sys2Proof.Machine

/-! ### Registers of a context (R123) -/

/-- Register g`n`; g0 reads 0. -/
def Ctx.gr (x : Ctx) (n : BitVec 5) : Word := if n = 0 then 0 else smGet 0 x.g n.toNat

/-- Register g`n` written; a write of g0 is discarded. -/
def Ctx.setG (x : Ctx) (n : BitVec 5) (v : Word) : Ctx := if n = 0 then x else { x with g := smSet 0 x.g n.toNat v }

/-- Predicate p`n`; p0 reads 1. -/
def Ctx.pr (x : Ctx) (n : Nat) : Bool := n == 0 || x.p.getLsbD n

/-- Predicate p`n` written; a write of p0 is discarded. -/
def Ctx.setP (x : Ctx) (n : Nat) (b : Bool) : Ctx :=
  if n == 0 then x
  else { x with p := if b then x.p ||| (1#8 <<< n) else x.p &&& ~~~(1#8 <<< n) }

/-- Register g`n` of context `c` written. -/
def State.writeG (s : State) (c : Nat) (n : BitVec 5) (v : Word) : State := s.setCtx c ((s.ctx c).setG n v)

/-- Predicate p`n` of context `c` written. -/
def State.writeP (s : State) (c n : Nat) (b : Bool) : State := s.setCtx c ((s.ctx c).setP n b)

/-! ### Issue -/

/-- STATE of context `c`: 0 OFF, 1 IDLE, 2 LOADING, 3 RUNNABLE, 4 WAITING, 5 HALTED, 6 TRAPPED, 7 STOPPED. -/
def State.cxState (s : State) (c : Nat) : Nat := s.getF CX_STATUS_STATE c

/-- Issue cycles left in core `k`'s budget for the microsecond (R105, R412). -/
def State.coreLeft (s : State) (k : Nat) : Nat := s.getF CORE_STAT_BUDGET k - (s.core k).used

/-- Issue cycles left in tenant `t`'s cap on core `k` (R105), counted from a cut and never beyond the cap under the budget before it
(R412). -/
def State.capLeft (s : State) (k t : Nat) : Nat :=
  let n := s.getF TN_CFG_ISSUE_CAP t
  let x := s.core k
  let used := smGet 0 x.usedBy t
  if n == 0 then s.coreLeft k
  else x.cuts.foldl (fun left u => min left (u.further * n / 16 - (used - smGet 0 u.usedBy t)))
    (((x.cuts.head?.map (·.budget)).getD (s.getF CORE_STAT_BUDGET k)) * n / 16 - used)

/-- The weight of a tenant in R413. -/
def State.weight (s : State) (t : Nat) : Nat := max 1 (s.getF TN_CFG_POWER_SHARE t)

/-- The tenants with RUNNABLE contexts on core `k`. -/
def State.runners (s : State) (k : Nat) : List Nat :=
  (((List.range 4).map (4 * k + ·)).filter (fun c => s.cxState c == 3)).map s.tenantOf |>.dedup

/-- Cycles that R413 still guarantees tenant `t` on core `k`. -/
def State.unmet (s : State) (k t : Nat) : Nat :=
  let total := ((s.runners k).map s.weight).sum
  let x := s.core k
  let used := smGet 0 x.usedBy t
  match x.cuts.head? with
  | none => s.getF CORE_STAT_BUDGET k * s.weight t / total - used
  | some u => u.further * s.weight t / total - (used - smGet 0 u.usedBy t)

/-- R413 lets tenant `t` take `need` cycles of core `k`: it has not reached its guarantee, or what is left still covers the unmet
guarantees of the others. -/
def State.guaranteed (s : State) (k t need : Nat) : Bool :=
  decide (1600 ≤ s.getF CORE_STAT_BUDGET k) || decide (0 < s.unmet k t) ||
    decide ((((s.runners k).filter (· != t)).map (s.unmet k)).sum + need ≤ s.coreLeft k)

/-- Another context of the core has issued an L whose successor issues in the next cycle (R127). -/
def State.pinned (s : State) (c : Nat) : Bool :=
  ((List.range 4).map (4 * coreOf c + ·)).any (fun d => d != c && s.cxState d == 3 && (s.ctx d).latch.isSome)

/-- Length of the context's instruction range in bytes. -/
def State.imemLen (s : State) (c : Nat) : Nat := s.getF CX_CFG_IMEM_LEN c * 4096

/-- The instruction word at the context's PC (R91, R124). -/
def State.fetchWord (s : State) (c : Nat) : Nat :=
  leNat (memBytes (s.core (coreOf c)).imem (s.getF CX_CFG_IMEM_BASE c * 4096 + (s.ctx c).pc.toNat) 4)

/-- The PC lies outside the instruction range. -/
def State.pcOut (s : State) (c : Nat) : Bool := decide (s.imemLen c ≤ (s.ctx c).pc.toNat)

/-- The cycles that the instruction at the PC takes: an L counts its successor (R105). -/
def State.needOf (s : State) (c : Nat) : Nat := if !s.pcOut c && s.fetchWord c / 2 ^ 26 == 0x3F then 2 else 1

/-- What context `c` skips after a YIELD. -/
def State.skipOf (s : State) (c : Nat) : Option Skip := smGet none (s.core (coreOf c)).skips (c % 4)

/-- That replaced. -/
def State.setSkip (s : State) (c : Nat) (v : Option Skip) : State :=
  let k := s.core (coreOf c)
  s.setCore (coreOf c) { k with skips := smSet none k.skips (c % 4) v }

/-- The context is inside a YIELD: its cycles, or its turn, have not yet passed (R162, R164). -/
def State.inYield (s : State) (c : Nat) : Bool :=
  match s.skipOf c with
  | none => false
  | some .turn => true
  | some (.until_ r) => decide (s.rawNow < r)

/-- Context `c` is one that its core may choose for `need` cycles (R104, R105, R413): RUNNABLE, no skipped cycle, cycles left in the budget,
in the tenant's cap and beside the guarantees of the others. -/
def State.eligible (s : State) (c need : Nat) : Bool :=
  s.cxState c == 3 && !(s.skipOf c != some .turn && s.inYield c) && decide (need ≤ s.coreLeft (coreOf c)) &&
    decide (need ≤ s.capLeft (coreOf c) (s.tenantOf c)) && s.guaranteed (coreOf c) (s.tenantOf c) need

/-- The contexts of core `k` in the order of the round robin, which begins after the one that issued last (R104). -/
def State.rotation (s : State) (k : Nat) : List Nat := (List.range 4).map (fun i => 4 * k + ((s.core k).last + 1 + i) % 4)

/-- The context that core `k` chooses: the first eligible one that does not skip its turn, or, when all of them do, the first. -/
def State.nextCtx (s : State) (k : Nat) : Option Nat :=
  let es := (s.rotation k).filter (fun c => s.eligible c (s.needOf c))
  match es.find? (fun c => s.skipOf c != some .turn) with
  | some c => some c
  | none => es.head?

/-- Context `c` may issue an instruction that takes `need` cycles in all (an L counts its successor): it is its core's choice. The
successor of an L always issues. -/
def State.canIssue (s : State) (c need : Nat) : Bool :=
  !s.inReset && decide (c < 256) && s.cxState c == 3 && !s.flag CORE_STAT_MAPPED_OUT (coreOf c) &&
    ((s.ctx c).latch.isSome ||
      (!s.flag PW_ALLOC_SHORT 0 && !s.pinned c && s.eligible c need && s.nextCtx (coreOf c) == some c))

/-- What the contexts of the core skip once `c` issues: the turns that the round has passed over are skipped, and `c` skips nothing more. -/
def State.skipsAfter (s : State) (c : Nat) : SMap (Option Skip) :=
  let k := s.core (coreOf c)
  if (s.ctx c).latch.isSome then k.skips
  else
    let round := s.rotation (coreOf c)
    let passed := if s.skipOf c == some .turn then round else round.takeWhile (· != c) ++ [c]
    passed.foldl (fun m d => if d == c || smGet none m (d % 4) == some .turn then smSet none m (d % 4) none else m) k.skips

/-- One issue cycle charged to the core's budget and the tenant's cap (R105), the round robin moved on (R104), and the flow records of a
first issue (R169). -/
def State.begin (s : State) (c : Nat) : State :=
  let k := s.core (coreOf c)
  let t := s.tenantOf c
  (((s.setCore (coreOf c) { k with
      used := k.used + 1, usedBy := smSet 0 k.usedBy t (smGet 0 k.usedBy t + 1), last := c % 4, skips := s.skipsAfter c }).incF
    CORE_STAT_ISSUED (coreOf c)).countBlock 13 1).firstFlow c

/-- A context that leaves RUNNABLE inside a YIELD stands at the YIELD, which runs again (R164). -/
def State.leaveYield (s : State) (c : Nat) : State :=
  let s1 := if s.inYield c then s.setCtx c { s.ctx c with pc := (s.ctx c).pc - 4 } else s
  s1.setSkip c none

/-- The PC that a boundary at the present instruction reports: that of the L when one precedes (R127). -/
def Ctx.boundary (x : Ctx) : Word := match x.latch with
  | some (_, pc) => BitVec.ofNat 64 pc
  | none => x.pc

/-- A trap (R103, R166): CX_PC at the boundary, the latch empty, CX_TRAP, TRAPPED, the tenant interrupt. -/
def State.trapCtx (s : State) (c cause info : Nat) : State :=
  let x := s.ctx c
  let s1 := s.setCtx c { x with pc := x.boundary, latch := none }
  let s2 := ((s1.endFlow c).setF CX_TRAP_CAUSE c cause).setF CX_TRAP_INFO c info
  (s2.setF CX_STATUS_STATE c 6).raiseTenant (s.tenantOf c) IRQ_TCAUSE_TRAP

/-- An instruction completes: the next PC, and the latch empty (R127). -/
def State.retire (s : State) (c : Nat) (pc : Word) : State := s.setCtx c { s.ctx c with pc := pc, latch := none }

/-- What an instruction does when its encoding is sound: it completes with the next PC, sets the prefix latch (L), or traps. -/
inductive Exec where
  | done (s : State) (pc : Word)
  | latched (s : State)
  | trap (cause info : Nat) (s : State)

/-- What an instruction of word `word` does once it has been fetched (R167): ILLEGAL, PREFIX, then `run`. -/
def State.execute (s : State) (c word : Nat) (illegal takesPrefix : Bool) (run : State → Exec) : Res :=
  if illegal then .next (s.trapCtx c 0x0001 word)
  else if (s.ctx c).latch.isSome && !takesPrefix then .next (s.trapCtx c 0x000B word)
  else match run s with
    | .done s2 pc => .next (s2.retire c pc)
    | .latched s2 => .next s2
    | .trap cause info s2 => .next (s2.trapCtx c cause info)

/-- Context `c` issues the instruction whose word is `word` (R104, R128, R167). A context that may not issue, or whose PC stands at
another instruction, leaves the state unchanged: the command does not come about. A fetch outside the instruction range traps with
PCRANGE, and a word that no table lists with ILLEGAL, whichever instruction the command names. -/
def State.issue (s : State) (c need word : Nat) (illegal takesPrefix : Bool) (run : State → Exec) : Res :=
  let w := s.fetchWord c
  if !s.canIssue c need then .next s
  else if s.pcOut c then .next ((s.begin c).trapCtx c 0x0002 (s.ctx c).pc.toNat)
  else if w == word then (s.begin c).execute c word illegal takesPrefix run
  else if (decodeEhrile c w).isSome then .next s
  else .next ((s.begin c).trapCtx c 0x0001 w)

/-- PC + 4. -/
def State.nextPc (s : State) (c : Nat) : Word := (s.ctx c).pc + 4

/-- The instruction completes and execution goes on in sequence. -/
def State.goOn (s : State) (c : Nat) : Exec := .done s (s.nextPc c)

/-- The PC of context `c` set. -/
def State.setPc (s : State) (c : Nat) (pc : Word) : State := s.setCtx c { s.ctx c with pc := pc }

/-- The guard of a format-A instruction (R126). -/
def Ctx.guard (x : Ctx) (f : FmtA) : Bool := x.pr f.qp.toNat != f.qn

/-- A format-A instruction with effect `eff` under its guard. -/
def State.issueA (s : State) (c op fn : Nat) (f : FmtA) (illegal : Bool) (eff : State → State) : Res :=
  s.issue c 1 (encA op fn f) illegal false (fun s1 => if (s1.ctx c).guard f then (eff s1).goOn c else s1.goOn c)

/-- A format-A instruction that writes g[rd] with a function of ra and rb. -/
def State.binA (s : State) (c op fn : Nat) (f : FmtA) (g : Word → Word → Word) : Res :=
  s.issueA c op fn f false (fun s1 => s1.writeG c f.rd (g ((s1.ctx c).gr f.ra) ((s1.ctx c).gr f.rb)))

/-- A compare of format A (R131): p[RD[2:0]] from ra and rb; RD[4:3] must be zero. A field that must be zero and is not makes the word one
that no table lists, and it traps with ILLEGAL (DESIGN CHOICE, log entry 91). -/
def State.cmpA (s : State) (c fn : Nat) (f : FmtA) (g : Word → Word → Bool) : Res :=
  s.issueA c 0x02 fn f (8 ≤ f.rd.toNat)
    (fun s1 => s1.writeP c f.rd.toNat (g ((s1.ctx c).gr f.ra) ((s1.ctx c).gr f.rb)))

/-- A predicate function of R132; the upper bits of the three fields must be zero (log entry 91). -/
def State.predA (s : State) (c fn : Nat) (f : FmtA) (g : Bool → Bool → Bool) : Res :=
  s.issueA c 0x03 fn f (8 ≤ f.rd.toNat || 8 ≤ f.ra.toNat || 8 ≤ f.rb.toNat)
    (fun s1 => s1.writeP c f.rd.toNat (g ((s1.ctx c).pr f.ra.toNat) ((s1.ctx c).pr f.rb.toNat)))

/-- Bits [31:0] of a register (R133). -/
def low32 (w : Word) : BitVec 32 := w.setWidth 32

/-- An FP32 result in the low bits, zeros above (R133). -/
def wide32 (v : BitVec 32) : Word := v.setWidth 64

/-- An FP32 function of ra and rb. -/
def State.fpA (s : State) (c fn : Nat) (f : FmtA) (g : BitVec 32 → BitVec 32 → BitVec 32) : Res :=
  s.binA c 0x04 fn f (fun a b => wide32 (g (low32 a) (low32 b)))

/-- SAT of a conversion (R134). -/
def satOf (f : FmtA) : Bool := f.rb.toNat % 2 == 1

/-- A conversion (R134): RB holds SAT, and RB[4:1] must be zero (log entry 91). -/
def State.cvtA (s : State) (c fn : Nat) (f : FmtA) (g : Word → Word) : Res :=
  s.issueA c 0x04 fn f (2 ≤ f.rb.toNat) (fun s1 => s1.writeG c f.rd (g ((s1.ctx c).gr f.ra)))

/-! ### Immediates (R127) -/

/-- IMM26 of the latch. -/
def Ctx.high (x : Ctx) : Option (BitVec 26) := x.latch.map (fun e => BitVec.ofNat 26 e.1)

/-- IMM16 sign-extended, or IMM26:IMM16 sign-extended. -/
def immS (h : Option (BitVec 26)) (i : BitVec 16) : Word := match h with
  | some u => (u ++ i).signExtend 64
  | none => i.signExtend 64

/-- IMM16 zero-extended, or IMM26:IMM16 zero-extended. -/
def immU (h : Option (BitVec 26)) (i : BitVec 16) : Word := match h with
  | some u => (u ++ i).setWidth 64
  | none => i.setWidth 64

/-- IMM13 sign-extended, or IMM26:IMM13 sign-extended. -/
def immM (h : Option (BitVec 26)) (i : BitVec 13) : Word := match h with
  | some u => (u ++ i).signExtend 64
  | none => i.signExtend 64

/-- An immediate instruction that writes g[rd] with a function of ra and the immediate. -/
def State.immI (s : State) (c op : Nat) (f : FmtI) (signed : Bool) (g : Word → Word → Word) : Res :=
  s.issue c 1 (encI op f) false true (fun s1 =>
    let x := s1.ctx c
    (s1.writeG c f.rd (g (x.gr f.ra) (if signed then immS x.high f.imm else immU x.high f.imm))).goOn c)

/-- An immediate compare (R131): COND in RD[4:3], PD in RD[2:0]. -/
def State.cmpI (s : State) (c op : Nat) (f : FmtI) (g : Nat → Word → Word → Bool) : Res :=
  s.issue c 1 (encI op f) false true (fun s1 =>
    let x := s1.ctx c
    (s1.writeP c (f.rd.toNat % 8) (g (f.rd.toNat / 8) (x.gr f.ra) (immS x.high f.imm))).goOn c)

/-- A format-T instruction; it takes no prefix (R127). -/
def State.issueT (s : State) (c op : Nat) (f : FmtT) (illegal : Bool) (run : State → Exec) : Res :=
  s.issue c 1 (encT op f) illegal false run

/-- A T-format instruction writes g[rd] and p[PD] and completes. -/
def State.result (s : State) (c : Nat) (f : FmtT) (v : Word) (ok : Bool) : Exec :=
  ((s.writeG c f.rd v).writeP c f.pd.toNat ok).goOn c

/-- A T-format instruction writes p[PD] and completes. -/
def State.status (s : State) (c : Nat) (f : FmtT) (ok : Bool) : Exec := (s.writeP c f.pd.toNat ok).goOn c

end Sys2Proof.Machine
end

