-- ==== Sys2Proof/Machine/Alu.lean ====
section
/-! DEFINITION. Integer, compare, predicate and floating-point instructions (R129 to R135). -/

namespace Sys2Proof.Machine

/-! ### ALU functions (R129) -/

/-- A shift amount: rb[5:0]. -/
def amount (b : Word) : Nat := b.toNat % 64

def sllOf (a b : Word) : Word := a <<< amount b
def srlOf (a b : Word) : Word := a >>> amount b
def sraOf (a b : Word) : Word := a.sshiftRight (amount b)
def rorOf (a b : Word) : Word := a.rotateRight (amount b)

/-- Zeros before the highest 1 bit, 64 for 0. -/
def clzOf (a : Word) : Word := if a = 0 then 64 else BitVec.ofNat 64 (63 - Nat.log2 a.toNat)

/-- Zeros below the lowest 1 bit, 64 for 0. -/
def ctzOf (a : Word) : Word := BitVec.ofNat 64 ((List.range 64).findIdx (fun i => a.getLsbD i))

/-- The number of 1 bits. -/
def popcOf (a : Word) : Word := BitVec.ofNat 64 ((List.range 64).filter (fun i => a.getLsbD i)).length

/-- ra[n:0] sign-extended, n = rb[5:0]. -/
def sextOf (a b : Word) : Word := (a <<< (63 - amount b)).sshiftRight (63 - amount b)

/-- ra[n:0] zero-extended. -/
def zextOf (a b : Word) : Word := (a <<< (63 - amount b)) >>> (63 - amount b)

/-- The eight bytes reversed. -/
def bswapOf (a : Word) : Word := BitVec.ofNat 64 (beNat (leBytes 8 a.toNat))

def execAdd (c : Nat) (f : FmtA) (s : State) : Res := s.binA c 0x00 0x00 f (fun a b => a + b)
def execSub (c : Nat) (f : FmtA) (s : State) : Res := s.binA c 0x00 0x01 f (fun a b => a - b)
def execAnd (c : Nat) (f : FmtA) (s : State) : Res := s.binA c 0x00 0x02 f (fun a b => a &&& b)
def execOr (c : Nat) (f : FmtA) (s : State) : Res := s.binA c 0x00 0x03 f (fun a b => a ||| b)
def execXor (c : Nat) (f : FmtA) (s : State) : Res := s.binA c 0x00 0x04 f (fun a b => a ^^^ b)
def execAndn (c : Nat) (f : FmtA) (s : State) : Res := s.binA c 0x00 0x05 f (fun a b => a &&& ~~~b)
def execSll (c : Nat) (f : FmtA) (s : State) : Res := s.binA c 0x00 0x06 f sllOf
def execSrl (c : Nat) (f : FmtA) (s : State) : Res := s.binA c 0x00 0x07 f srlOf
def execSra (c : Nat) (f : FmtA) (s : State) : Res := s.binA c 0x00 0x08 f sraOf
def execRor (c : Nat) (f : FmtA) (s : State) : Res := s.binA c 0x00 0x09 f rorOf
def execClz (c : Nat) (f : FmtA) (s : State) : Res := s.binA c 0x00 0x0A f (fun a _ => clzOf a)
def execCtz (c : Nat) (f : FmtA) (s : State) : Res := s.binA c 0x00 0x0B f (fun a _ => ctzOf a)
def execPopc (c : Nat) (f : FmtA) (s : State) : Res := s.binA c 0x00 0x0C f (fun a _ => popcOf a)
def execMin (c : Nat) (f : FmtA) (s : State) : Res := s.binA c 0x00 0x0D f (fun a b => if a.slt b then a else b)
def execMax (c : Nat) (f : FmtA) (s : State) : Res := s.binA c 0x00 0x0E f (fun a b => if a.slt b then b else a)
def execMinu (c : Nat) (f : FmtA) (s : State) : Res := s.binA c 0x00 0x0F f (fun a b => if a < b then a else b)
def execMaxu (c : Nat) (f : FmtA) (s : State) : Res := s.binA c 0x00 0x10 f (fun a b => if a < b then b else a)
def execSext (c : Nat) (f : FmtA) (s : State) : Res := s.binA c 0x00 0x11 f sextOf
def execZext (c : Nat) (f : FmtA) (s : State) : Res := s.binA c 0x00 0x12 f zextOf
def execBswap (c : Nat) (f : FmtA) (s : State) : Res := s.binA c 0x00 0x13 f (fun a _ => bswapOf a)

/-! ### Immediate forms (R127, R129) -/

def execAddi (c : Nat) (f : FmtI) (s : State) : Res := s.immI c 0x08 f true (fun a i => a + i)
def execAndi (c : Nat) (f : FmtI) (s : State) : Res := s.immI c 0x09 f true (fun a i => a &&& i)
def execOri (c : Nat) (f : FmtI) (s : State) : Res := s.immI c 0x0A f false (fun a i => a ||| i)
def execXori (c : Nat) (f : FmtI) (s : State) : Res := s.immI c 0x0B f false (fun a i => a ^^^ i)

/-- The shift of SHI by its kind: 0 SLL, 1 SRL, 2 SRA, 3 ROR. -/
def shiOf (kind : Nat) (a b : Word) : Word :=
  if kind == 0 then sllOf a b else if kind == 1 then srlOf a b else if kind == 2 then sraOf a b else rorOf a b

/-- SHI: IMM16[15:8] must be zero; it takes no prefix. -/
def execShi (c : Nat) (f : FmtI) (s : State) : Res :=
  s.issue c 1 (encI 0x0C f) (256 ≤ f.imm.toNat) false (fun s1 =>
    (s1.writeG c f.rd (shiOf (f.imm.toNat / 64) ((s1.ctx c).gr f.ra) (f.imm.setWidth 64))).goOn c)

/-! ### Multiply and divide (R130) -/

def mulhuOf (a b : Word) : Word := BitVec.ofNat 64 (a.toNat * b.toNat / 2 ^ 64)
def mulhOf (a b : Word) : Word := BitVec.ofInt 64 (a.toInt * b.toInt / 2 ^ 64)
def divuOf (a b : Word) : Word := if b = 0 then BitVec.allOnes 64 else BitVec.ofNat 64 (a.toNat / b.toNat)
def remuOf (a b : Word) : Word := if b = 0 then a else BitVec.ofNat 64 (a.toNat % b.toNat)

/-- Signed division toward zero; −1 for divisor 0, and −2^63 ÷ −1 wraps to −2^63. -/
def divOf (a b : Word) : Word := if b = 0 then BitVec.allOnes 64 else BitVec.ofInt 64 (a.toInt.tdiv b.toInt)
def remOf (a b : Word) : Word := if b = 0 then a else BitVec.ofInt 64 (a.toInt.tmod b.toInt)

def execMul (c : Nat) (f : FmtA) (s : State) : Res := s.binA c 0x01 0x00 f (fun a b => a * b)
def execMulhu (c : Nat) (f : FmtA) (s : State) : Res := s.binA c 0x01 0x01 f mulhuOf
def execMulh (c : Nat) (f : FmtA) (s : State) : Res := s.binA c 0x01 0x02 f mulhOf
def execDivu (c : Nat) (f : FmtA) (s : State) : Res := s.binA c 0x01 0x03 f divuOf
def execRemu (c : Nat) (f : FmtA) (s : State) : Res := s.binA c 0x01 0x04 f remuOf
def execDiv (c : Nat) (f : FmtA) (s : State) : Res := s.binA c 0x01 0x05 f divOf
def execRem (c : Nat) (f : FmtA) (s : State) : Res := s.binA c 0x01 0x06 f remOf

/-! ### Compares (R131) -/

def execEq (c : Nat) (f : FmtA) (s : State) : Res := s.cmpA c 0x00 f (fun a b => a == b)
def execNe (c : Nat) (f : FmtA) (s : State) : Res := s.cmpA c 0x01 f (fun a b => a != b)
def execLt (c : Nat) (f : FmtA) (s : State) : Res := s.cmpA c 0x02 f (fun a b => a.slt b)
def execGe (c : Nat) (f : FmtA) (s : State) : Res := s.cmpA c 0x03 f (fun a b => !a.slt b)
def execLtu (c : Nat) (f : FmtA) (s : State) : Res := s.cmpA c 0x04 f (fun a b => a.ult b)
def execGeu (c : Nat) (f : FmtA) (s : State) : Res := s.cmpA c 0x05 f (fun a b => !a.ult b)
def execTst (c : Nat) (f : FmtA) (s : State) : Res := s.cmpA c 0x06 f (fun a b => a &&& b != 0)
def execTstz (c : Nat) (f : FmtA) (s : State) : Res := s.cmpA c 0x07 f (fun a b => a &&& b == 0)
def execFeq (c : Nat) (f : FmtA) (s : State) : Res := s.cmpA c 0x10 f (fun a b => fEq (low32 a) (low32 b))
def execFlt (c : Nat) (f : FmtA) (s : State) : Res := s.cmpA c 0x11 f (fun a b => fLt (low32 a) (low32 b))
def execFle (c : Nat) (f : FmtA) (s : State) : Res := s.cmpA c 0x12 f (fun a b => fLe (low32 a) (low32 b))
def execFunord (c : Nat) (f : FmtA) (s : State) : Res := s.cmpA c 0x13 f (fun a b => fUnord (low32 a) (low32 b))

/-- CMPI by COND: 0 EQ, 1 NE, 2 LT, 3 GE, signed. -/
def cmpiOf (cond : Nat) (a i : Word) : Bool :=
  if cond == 0 then a == i else if cond == 1 then a != i else if cond == 2 then a.slt i else !a.slt i

/-- CMPIU by COND: 0 LTU, 1 GEU, 2 TST, 3 TSTZ. -/
def cmpiuOf (cond : Nat) (a i : Word) : Bool :=
  if cond == 0 then a.ult i else if cond == 1 then !a.ult i else if cond == 2 then a &&& i != 0 else a &&& i == 0

def execCmpi (c : Nat) (f : FmtI) (s : State) : Res := s.cmpI c 0x0D f cmpiOf
def execCmpiu (c : Nat) (f : FmtI) (s : State) : Res := s.cmpI c 0x0E f cmpiuOf

/-! ### Predicates and SEL (R132) -/

def execPand (c : Nat) (f : FmtA) (s : State) : Res := s.predA c 0x00 f (fun a b => a && b)
def execPor (c : Nat) (f : FmtA) (s : State) : Res := s.predA c 0x01 f (fun a b => a || b)
def execPxor (c : Nat) (f : FmtA) (s : State) : Res := s.predA c 0x02 f (fun a b => a != b)
def execPandn (c : Nat) (f : FmtA) (s : State) : Res := s.predA c 0x03 f (fun a b => a && !b)

/-- SEL is not guarded: QP and QN select the operand (R126). -/
def execSel (c : Nat) (f : FmtA) (s : State) : Res :=
  s.issue c 1 (encA 0x03 0x04 f) false false (fun s1 =>
    let x := s1.ctx c
    (s1.writeG c f.rd (if x.guard f then x.gr f.ra else x.gr f.rb)).goOn c)

/-- PRD: p7…p0, of which p0 reads 1. -/
def execPrd (c : Nat) (f : FmtA) (s : State) : Res :=
  s.issueA c 0x03 0x05 f false (fun s1 => s1.writeG c f.rd (((s1.ctx c).p ||| 1).setWidth 64))

/-- PWR: p[i] for each i from 1 to 7 with bit i of rb. -/
def execPwr (c : Nat) (f : FmtA) (s : State) : Res :=
  s.issueA c 0x03 0x06 f false (fun s1 =>
    let x := s1.ctx c
    let m : BitVec 8 := ((x.gr f.rb).setWidth 8) &&& 0xFE
    s1.setCtx c { x with p := (x.p &&& ~~~m) ||| (((x.gr f.ra).setWidth 8) &&& m) })

/-! ### Floating point (R134, R135) -/

def execFadd (c : Nat) (f : FmtA) (s : State) : Res := s.fpA c 0x00 f fAdd
def execFsub (c : Nat) (f : FmtA) (s : State) : Res := s.fpA c 0x01 f fSub
def execFmul (c : Nat) (f : FmtA) (s : State) : Res := s.fpA c 0x02 f fMul

/-- FFMA reads rd as its third operand. -/
def execFfma (c : Nat) (f : FmtA) (s : State) : Res :=
  s.issueA c 0x04 0x03 f false (fun s1 =>
    let x := s1.ctx c
    s1.writeG c f.rd (wide32 (fFma (low32 (x.gr f.ra)) (low32 (x.gr f.rb)) (low32 (x.gr f.rd)))))

def execFmin (c : Nat) (f : FmtA) (s : State) : Res := s.fpA c 0x04 f (fPick false)
def execFmax (c : Nat) (f : FmtA) (s : State) : Res := s.fpA c 0x05 f (fPick true)
def execFabs (c : Nat) (f : FmtA) (s : State) : Res := s.fpA c 0x06 f (fun a _ => fAbs a)
def execFneg (c : Nat) (f : FmtA) (s : State) : Res := s.fpA c 0x07 f (fun a _ => fNeg a)
def execFcvtSL (c : Nat) (f : FmtA) (s : State) : Res := s.cvtA c 0x10 f (fun a => wide32 (fOfInt a.toInt))
def execFcvtLS (c : Nat) (f : FmtA) (s : State) : Res := s.cvtA c 0x11 f (fun a => fToInt (low32 a))
def execFcvtBfS (c : Nat) (f : FmtA) (s : State) : Res := s.cvtA c 0x14 f (fun a => (fToBf (low32 a)).setWidth 64)
def execFcvtSBf (c : Nat) (f : FmtA) (s : State) : Res := s.cvtA c 0x15 f (fun a => wide32 (fFrom bf16 (a.toNat % 65536)))
def execFcvtE4S (c : Nat) (f : FmtA) (s : State) : Res := s.cvtA c 0x16 f (fun a => (fToE4 (satOf f) (low32 a)).setWidth 64)
def execFcvtE5S (c : Nat) (f : FmtA) (s : State) : Res := s.cvtA c 0x17 f (fun a => (fToE5 (satOf f) (low32 a)).setWidth 64)
def execFcvtSE4 (c : Nat) (f : FmtA) (s : State) : Res := s.cvtA c 0x18 f (fun a => wide32 (fFrom e4m3 (a.toNat % 256)))
def execFcvtSE5 (c : Nat) (f : FmtA) (s : State) : Res := s.cvtA c 0x19 f (fun a => wide32 (fFrom e5m2 (a.toNat % 256)))

end Sys2Proof.Machine
end

