-- ==== Sys2Proof/Machine/Branch.lean ====
section
/-! DEFINITION. Branches, the long prefix and the control instructions that end or pause a program (R127, R138, R139, R162, R164). -/

namespace Sys2Proof.Machine

/-- A branch with condition predicate `f.p`, its target and what it writes when taken (R139). A conditional one gives a branch bit
of the self flow-trace (R169). -/
def State.branch (s : State) (c op : Nat) (f : FmtB) (link : Bool) : Res :=
  s.issue c 1 (encB op f) false false (fun s1 =>
    let x := s1.ctx c
    let taken := x.pr f.p.toNat != f.pn
    let pc := if taken then x.pc + 4 * f.disp.signExtend 64 else x.pc + 4
    let s2 := if taken && link then s1.writeG c 31 (x.pc + 4) else s1
    let s3 := s2.setPc c pc
    .done (if f.p = 0 then s3 else s3.branchBit c taken) pc)

def execBr (c : Nat) (f : FmtB) (s : State) : Res := s.branch c 0x10 f false
def execCall (c : Nat) (f : FmtB) (s : State) : Res := s.branch c 0x11 f true

/-- JMPR: the target is what ra held before rd took the link, so JMPR with RD = RA jumps to the old ra (DESIGN CHOICE, log entry 93). A
misaligned target traps with PCRANGE, which comes before PREFIX (R167). A guard other than always gives a branch bit,
a jump gives its target, which the pending bits precede (R169). -/
def execJmpr (c : Nat) (f : FmtA) (s : State) : Res :=
  s.issue c 1 (encA 0x05 0x00 f) false true (fun s1 =>
    let x := s1.ctx c
    let taken := x.guard f
    let target := x.gr f.ra
    if taken && target.toNat % 4 != 0 then .trap 0x0002 target.toNat s1
    else if x.latch.isSome then .trap 0x000B (encA 0x05 0x00 f) s1
    else
      let pc := if taken then target else x.pc + 4
      let s2 := (if taken then s1.writeG c f.rd (x.pc + 4) else s1).setPc c pc
      let guarded := !(f.qp = 0 && !f.qn)
      let s3 := if taken then (if guarded then s2.pushBit c true else s2).targetFlow c target.toNat
        else if guarded then s2.countBit c false else s2
      .done (if guarded then s3.periodFlow c else s3) pc)

/-- L sets the prefix latch; its successor issues in the next cycle (R105, R127). -/
def execL (c : Nat) (imm : BitVec 26) (s : State) : Res :=
  s.issue c 2 (encL imm) false false (fun s1 =>
    let x := s1.ctx c
    .latched (s1.setCtx c { x with pc := x.pc + 4, latch := some (imm.toNat, x.pc.toNat) }))

/-- The three register fields of a format-T instruction and PD are zero. -/
def noFields (f : FmtT) : Bool := f.rd = 0 && f.ra = 0 && f.rb = 0 && f.pd = 0

/-- What YIELD with `ctl` skips (R162): its next turn, or the ticks that `ctl` cycles of clk_core take (128 cycles are 125 ticks). -/
def State.yieldOf (s : State) (ctl : Nat) : Skip := if ctl = 0 then .turn else .until_ (s.rawNow + cdiv (125 * ctl) 128)

/-- YIELD: the context skips issue and stays RUNNABLE (R162). -/
def execYield (c : Nat) (f : FmtT) (s : State) : Res :=
  s.issueT c 0x33 f (!noFields f) (fun s1 => (s1.setSkip c (some (s1.yieldOf f.ctl.toNat))).goOn c)

/-- HALT: the context enters HALTED. -/
def execHalt (c : Nat) (f : FmtT) (s : State) : Res :=
  s.issueT c 0x34 f (!noFields f || f.ctl != 0) (fun s1 =>
    let pc := s1.nextPc c
    .done (((s1.setPc c pc).endFlow c).setF CX_STATUS_STATE c 5) pc)

/-- TRAP: cause 0x0100 + CTL, INFO 0. -/
def execTrap (c : Nat) (f : FmtT) (s : State) : Res :=
  s.issueT c 0x35 f (!noFields f) (fun s1 => .trap (0x0100 + f.ctl.toNat) 0 s1)

/-- FENCE: every effect of the context's earlier instructions has taken place in this model, but for the report of a store's memory
error, which comes at a FENCE with bit 1 of KINDS at the latest: the context traps in its place (R138, R164). -/
def execFence (c : Nat) (f : FmtT) (s : State) : Res :=
  s.issueT c 0x32 f (!noFields f || 8 ≤ f.ctl.toNat) (fun s1 =>
    match (s1.ctx c).lateErrs with
    | [] => s1.goOn c
    | a :: _ =>
      if f.ctl.getLsbD 1 then .trap 0x0006 a (s1.setCtx c { s1.ctx c with lateErrs := [] })
      else s1.goOn c)

/-- A store's memory error is reported to context `c` (R138): it traps with MEMERR at the instruction that follows the last completed
one, which for a waiting context is the waiting instruction. A context that has halted or trapped since is reported to as well: it is TRAPPED
with MEMERR from then on (DEDUCED, log entry 13). -/
def State.reportStore (s : State) (c : Nat) : State :=
  match (s.ctx c).lateErrs with
  | [] => s
  | a :: _ =>
    let waiting := s.cxState c == 4
    let s0 := s.leaveYield c
    let x := s0.ctx c
    let s1 := s0.setCtx c { x with lateErrs := [], wait := .none, pc := if waiting then x.pc - 4 else x.pc }
    s1.trapCtx c 0x0006 a

/-- Context `c` executes a program or has ended it: RUNNABLE, WAITING, HALTED or TRAPPED. -/
def State.hasRun (s : State) (c : Nat) : Bool := decide (3 ≤ s.cxState c) && decide (s.cxState c ≤ 6)

/-- STORE_MEMERR_REPORT: reported at an instruction boundary of a context that runs, waits or has ended. -/
def execStoreMemerrReport (c : Nat) (s : State) : Res := s.event (s.hasRun c) (s.reportStore c)

end Sys2Proof.Machine
end

