-- ==== Sys2Proof/Machine/Telemetry.lean ====
section
/-! DEFINITION. Time, records, windows, analytics, mailboxes and timers of contexts (R142, R144, R145, R147, R152 to R155, R157 to R159,
R161). -/

namespace Sys2Proof.Machine

/-- Time is not started: RDTIME and ATARM do nothing (R142, R152). Quality as TB_CTRL reports it, with HOLD_LEFT above it. -/
def State.timeWordOf (s : State) (n : Snap) (sel : Nat) : Word :=
  if sel == 1 then BitVec.ofNat 64 n.raw
  else if sel == 2 then BitVec.ofNat 64 (n.epoch % 65536 * 2 ^ 48 + secOf n.fab)
  else if sel == 3 then BitVec.ofNat 64 (n.epoch % 65536 * 2 ^ 48 + nsOf n.fab * 2 ^ 16 + fracOf n.fab)
  else BitVec.ofNat 64 (s.getF TB_STATUS_HOLD_LEFT 0 * 2 ^ 16 + s.getF TB_CTRL_QUALITY 0)

/-- RDTIME (R142); SEL 5 to 7 are reserved. -/
def execRdtime (c : Nat) (f : FmtT) (s : State) : Res :=
  s.issueT c 0x20 f (f.ra != 0 || f.rb != 0 || 5 ≤ f.ctl.toNat) (fun s1 =>
    let x := s1.ctx c
    if !s1.running then s1.result c f 0 false
    else if f.ctl = 0 then
      (s1.setCtx c { x with snap := { raw := s1.rawNow % 2 ^ 64, fab := s1.fabNow, epoch := s1.epoch } }).result c f
        (BitVec.ofNat 64 s1.shortNow) true
    else s1.result c f (s1.timeWordOf x.snap f.ctl.toNat) true)

/-! ### EMIT -/

/-- The EMIT checks of R144 on type and control word. -/
def emitForbidden (typ ctl : Nat) : Bool :=
  (typ != 0x70 && decide (typ < 0x80)) || ctl / 16 % 4 == 0 || ctl / 8 % 2 == 1 || ctl / 64 % 4 != 0 || decide (512 ≤ ctl)

/-- The record that EMIT forms: payload from scratch, the stamp of now or of rd. Before time has started the stamp of now is 0 (DESIGN CHOICE, log
entry 104). -/
def State.emitRec (s : State) (c : Nat) (f : FmtT) : Rec :=
  let x := s.ctx c
  let ctl := (x.gr f.rb).toNat
  let slots := ctl % 8 + 1
  { typ := f.ctl.toNat, slots := slots, cls := ctl / 16 % 4, tenant := s.tenantOf c, source := 0x8200 + c, seq := 0,
    stamp := if ctl / 256 % 2 == 1 then s.shortNow else (x.gr f.rd).toNat,
    payload := s.scrBytes c (x.gr f.ra).toNat (payloadLen slots), epoch := s.epoch }

/-- An EMIT refused because the window `g` on which it depends has been voided: counted for the VOID of `g` (R144, R323). -/
def State.refuseEmit (s : State) (t g : Nat) : State :=
  let w := s.window t
  s.setWindow t { w with jobs := w.jobs.map (fun (j : VoidJob) => if j.gen == g then { j with refused := min 0xFFFF (j.refused + 1) } else j) }

/-- The dependence of a context names a window that has been voided. -/
def State.depVoided (s : State) (c : Nat) : Option Nat :=
  (s.ctx c).dep.filter (fun g => s.genState (s.tenantOf c) g == .voided)

/-- The generation whose void an EMIT of this step may still meet in flight: its dependence ended at most 12 cycles of clk_core (12 ticks) ago,
within which an EMIT is answered (R141), the context has seen neither DVOID nor a later window since, and the void waits for its EMITs
(R322). -/
def State.lateVoid (s : State) (c : Nat) : Option Nat :=
  let x := s.ctx c
  if x.dvoid && x.dep.isNone then
    ((s.window (s.tenantOf c)).jobs.find? (fun j => j.deps.contains c && decide (s.rawNow ≤ j.raw + 12))).map (·.gen)
  else none

/-- The generation whose void refuses an EMIT of context `c`. Whether an EMIT that follows a void within 12 cycles had issued before it is a
free value, for issue and acceptance are one step here (log entry 94). -/
def State.emitVoided (s : State) (c : Nat) : Option Nat × State := match s.depVoided c, s.lateVoid c with
  | some g, _ => (some g, s)
  | none, some g =>
    let (free, s1) := s.draw
    (if free.getLsbD 0 then some g else none, s1)
  | none, none => (none, s)

/-- EMIT (R144, R145). A dependence on a voided window refuses the record, which takes no SEQ and is counted for the VOID of that window;
otherwise the record belongs to the open window. -/
def execEmit (c : Nat) (f : FmtT) (s : State) : Res :=
  s.issueT c 0x22 f false (fun s1 =>
    let x := s1.ctx c
    let ctl := (x.gr f.rb).toNat
    let a := (x.gr f.ra).toNat
    if emitForbidden f.ctl.toNat ctl then .trap 0x0008 (encT 0x22 f) s1
    else if a % 8 != 0 then .trap 0x0003 a s1
    else if !s1.inScratch c a (payloadLen (ctl % 8 + 1)) then .trap 0x0004 a s1
    else match s1.emitVoided c with
      | (some g, s2) => (s2.refuseEmit (s2.tenantOf c) g).status c f false
      | (none, s2) =>
        let (s3, cause) := s2.append 3 (s2.emitRec c f)
        s3.status c f (cause == 0))

/-! ### Dependences and windows -/

/-- DEPSTAT, PEEK with MODE 3 (R147): the dependence as rd, DVOID cleared. Without a dependence the generation reads 0 (DESIGN CHOICE, log
entry 95). -/
def execDepstat (c : Nat) (f : FmtT) (s : State) : Res :=
  if f.ctl ≠ 3 then .next s
  else s.issueT c 0x24 f false (fun s1 =>
    let x := s1.ctx c
    let v := x.dep.isSome.toNat * 2 ^ 63 + x.dvoid.toNat * 2 ^ 62 + (x.dep.getD 0) % 2 ^ 32
    (s1.setCtx c { x with dvoid := false }).result c f (BitVec.ofNat 64 v) x.dvoid)

/-- SEAL and VOID of the window whose generation is g[ra][31:0] (R157). A VOID by a program has reason 1 (R323). -/
def State.windowT (s : State) (c op : Nat) (f : FmtT) (void_ : Bool) : Res :=
  s.issueT c op f (f.rd != 0 || f.rb != 0 || f.ctl != 0) (fun s1 =>
    let (s2, ok) := s1.windowRequest (s1.tenantOf c) (((s1.ctx c).gr f.ra).toNat % 2 ^ 32) void_ 1
    s2.status c f ok)

def execSeal (c : Nat) (f : FmtT) (s : State) : Res := s.windowT c 0x2B f false
def execVoid (c : Nat) (f : FmtT) (s : State) : Res := s.windowT c 0x2C f true

/-! ### HIST and SKETCH -/

/-- The bin of a value (R158). -/
def histBin (v : Nat) : Nat := if v = 0 then 0 else min 63 (Nat.log2 v + 1)

/-- HIST (R158). -/
def execHist (c : Nat) (f : FmtT) (s : State) : Res :=
  s.issueT c 0x2D f (128 ≤ f.ctl.toNat) (fun s1 =>
    let x := s1.ctx c
    let a := (x.gr f.ra).toNat
    if a % 8 != 0 then .trap 0x0003 a s1
    else if !s1.inScratch c a 512 then .trap 0x0004 a s1
    else
      let at_ := a + 8 * histBin ((x.gr f.rb).toNat / 2 ^ (f.ctl.toNat % 64))
      let sum := leNat (s1.scrBytes c at_ 8) + if f.ctl.getLsbD 6 then (x.gr f.rd).toNat else 1
      (s1.scrWrite c at_ (leBytes 8 (min sum (2 ^ 64 - 1)))).status c f (decide (sum < 2 ^ 64)))

/-- The multipliers of R159. -/
def sketchMul (i : Nat) : Nat :=
  if i == 0 then 0x9E3779B97F4A7C15 else if i == 1 then 0xC2B2AE3D27D4EB4F
  else if i == 2 then 0x165667B19E3779F9 else 0x85EBCA77C2B2AE63

/-- The scratch address of the counter of row `i` for key `k`. -/
def sketchAt (a logw k i : Nat) : Nat := a + 4 * 2 ^ logw * i + 4 * (k * sketchMul i % 2 ^ 64 / 2 ^ (64 - logw))

/-- The rows updated, and whether a counter that was to rise stayed at 2^32 − 1. With CONS = 1, a counter above the minimum was not to rise, and
does not count (DESIGN CHOICE, log entry 101). -/
def State.sketchRows (s : State) (c : Nat) (cons : Bool) (est : Nat) : List Nat → State × Bool
  | [] => (s, false)
  | a :: rest =>
    let v := leNat (s.scrBytes c a 4)
    if cons && v != est then s.sketchRows c cons est rest
    else
      let (s1, full) := (s.scrWrite c a (leBytes 4 (min (2 ^ 32 - 1) (v + 1)))).sketchRows c cons est rest
      (s1, full || v == 2 ^ 32 - 1)

/-- SKETCH (R159). -/
def execSketch (c : Nat) (f : FmtT) (s : State) : Res :=
  s.issueT c 0x2E f false (fun s1 =>
    let x := s1.ctx c
    let a := (x.gr f.ra).toNat
    let logw := f.ctl.toNat % 32
    let rows := f.ctl.toNat / 64 + 1
    if logw < 4 || 16 < logw then .trap 0x000A (encT 0x2E f) s1
    else if a % 4 != 0 then .trap 0x0003 a s1
    else if !s1.inScratch c a (4 * 2 ^ logw * rows) then .trap 0x0004 a s1
    else
      let places := (List.range rows).map (sketchAt a logw (x.gr f.rb).toNat)
      let est := (places.map (fun p => leNat (s1.scrBytes c p 4))).foldl min (2 ^ 32 - 1)
      let (s2, full) := s1.sketchRows c (f.ctl.getLsbD 5) est places
      s2.result c f (BitVec.ofNat 64 (min (2 ^ 32 - 1) (est + 1))) (!full))

/-! ### Mailboxes -/

/-- A post to mailbox `m` (R119, R120), with the generation on which it depends. The answer says whether it was accepted. -/
def State.mbPost (s : State) (m len : Nat) (data : List Byte) (dep : Option Nat) : State × Bool :=
  if (s.mailbox m).parked.isSome then (s.incF MB_HDR_OVERRUN m, false)
  else match dep with
    | none => if s.flag MB_HDR_READY m then (s.incF MB_HDR_OVERRUN m, false) else (s.showResult m len data, true)
    | some g =>
      let park := fun (sealed : Bool) =>
        s.setMailbox m { s.mailbox m with parked := some { len := len, data := data, gen := g, sealed := sealed } }
      match s.genState (m / 4) g with
      | .open_ => (park false, true)
      | .voided => (s.incF MB_HDR_VOIDED m, true)
      | .final => ((park true).releasePark m, true)

/-- MBPOST (R161). When the mailbox and the bytes both break ACCESS, INFO is the mailbox number (DESIGN CHOICE, log entry 97). -/
def execMbpost (c : Nat) (f : FmtT) (s : State) : Res :=
  s.issueT c 0x31 f (f.rd != 0 || 64 ≤ f.ctl.toNat) (fun s1 =>
    let x := s1.ctx c
    let len := f.ctl.toNat
    let a := (x.gr f.ra).toNat
    let m := (x.gr f.rb).toNat % 256
    if 48 < len then .trap 0x000A (encT 0x31 f) s1
    else if a % 8 != 0 then .trap 0x0003 a s1
    else if m / 4 != s1.tenantOf c then .trap 0x0004 m s1
    else if !s1.inScratch c a len then .trap 0x0004 a s1
    else
      let (s2, ok) := s1.mbPost m len (s1.scrBytes c a len) x.dep
      s2.status c f ok)

/-! ### Context timers (R152 to R155) -/

/-- Timer `i` of a context. -/
def Ctx.timer (x : Ctx) (i : Nat) : Timer := smGet {} x.timers i

/-- Timer `i` replaced. -/
def Ctx.setTimer (x : Ctx) (i : Nat) (y : Timer) : Ctx := { x with timers := smSet {} x.timers i y }

/-- Timer `i` in another state. -/
def Ctx.setTimerState (x : Ctx) (i st : Nat) : Ctx := x.setTimer i { x.timer i with state := st }

/-- Some timer of the mask is FIRED, LATE or EPOCH (R155). -/
def Ctx.timerDone (x : Ctx) (mask : Nat) : Bool :=
  (List.range 4).any (fun i => mask / 2 ^ i % 2 == 1 && 2 ≤ (x.timer i).state)

/-- The states of the four timers as rd of TWAIT shows them. -/
def Ctx.timerStates (x : Ctx) : Word :=
  BitVec.ofNat 64 ((x.timer 0).state + 16 * (x.timer 1).state + 256 * (x.timer 2).state + 4096 * (x.timer 3).state)

/-- The completed timers of the mask return to IDLE. -/
def Ctx.collect (x : Ctx) (mask : Nat) : Ctx :=
  (List.range 4).foldl
    (fun x i => if mask / 2 ^ i % 2 == 1 && 2 ≤ (x.timer i).state then x.setTimerState i 0 else x) x

/-- A waiting TWAIT whose mask holds a completed timer completes (R153, R155). -/
def State.wakeTimers (s : State) (c : Nat) : State :=
  let x := s.ctx c
  match x.wait with
  | .twait mask rd pd =>
    if s.cxState c == 4 && x.timerDone mask then
      let y := ((x.collect mask).setG (BitVec.ofNat 5 rd) x.timerStates).setP pd true
      (s.setCtx c { y with wait := .none }).setF CX_STATUS_STATE c 3
    else s
  | _ => s

/-- TWAIT (R155). A TWAIT that completes at once with p[PD] = 0 gives the four timer states too (DESIGN CHOICE, log entry 96). -/
def execTwait (c : Nat) (f : FmtT) (s : State) : Res :=
  s.issueT c 0x30 f (f.ra != 0 || f.rb != 0 || 16 ≤ f.ctl.toNat) (fun s1 =>
    let x := s1.ctx c
    let mask := f.ctl.toNat
    if x.timerDone mask then (s1.setCtx c (x.collect mask)).result c f x.timerStates true
    else if !(List.range 4).any (fun i => mask / 2 ^ i % 2 == 1 && (x.timer i).state == 1) then
      s1.result c f x.timerStates false
    else
      let pc := s1.nextPc c
      let s2 := s1.setCtx c { x with wait := .twait mask f.rd.toNat f.pd.toNat, pc := pc }
      .done ((s2.waitFlow c).setF CX_STATUS_STATE c 4) pc)

/-- A timer armed now (R152, R153): LATE at once when its target has passed (R69). -/
def State.armTimer (s : State) (signedMode : Bool) (lo hi : Nat) : Timer :=
  { state := if s.passed 0 signedMode lo hi s.epoch then 3 else 1, signed := signedMode, lo := lo, hi := hi, epoch := s.epoch }

/-- TIMER_FIRE: an ARMED timer whose comparator holds is FIRED and wakes a TWAIT that waits for it (R153). -/
def execTimerFire (c timer : Nat) (s : State) : Res :=
  let x := s.ctx c
  let y := x.timer timer
  s.event (timer < 4 && y.state == 1 && s.holdsNow 0 y.signed y.lo y.hi y.epoch)
    ((s.setCtx c (x.setTimerState timer 2)).wakeTimers c)

end Sys2Proof.Machine
end

