-- ==== Sys2Proof/Machine/RegWrite.lean ====
section
/-! DEFINITION. Writes of registers field by field (R8 to R11, R13, R15): what every register's own handler starts from. -/

namespace Sys2Proof.Machine

/-- The bits of a register that a write of these lanes addresses (R13, R15). -/
def Lanes.mask : Lanes → Word
  | .full => BitVec.allOnes 64
  | .lo => 0x00000000FFFFFFFF
  | .hi => 0xFFFFFFFF00000000

/-- A mask of the bits `[hi:lo]`. -/
def fieldMask (hi lo : Nat) : Word := putBits 0 hi lo (2 ^ (hi + 1 - lo) - 1)

/-- A field is one that crosses bit 32 and can be written (R15). -/
def FieldDesc.crosses (f : FieldDesc) : Bool := decide (32 ≤ f.hi) && decide (f.lo < 32) && f.acc != .ro

/-- A value is among the encodings that a field's table marks reserved (R10). -/
def FieldDesc.reserved (f : FieldDesc) (v : Nat) : Bool := f.res.any (fun r => decide (r.1 ≤ v) && decide (v ≤ r.2))

/-- What a write puts on the bits of a register: the data where its lanes address it, and, after a 32-bit write, free values in each
field that crosses bit 32 (R15: undefined). The half that is not written reads 0 in the word, so that the operand fields there of a command
act as 0 (DESIGN CHOICE, log entry 46). The answer is the word, the mask of bits written and the state. -/
def State.written (s : State) (r : Reg) (lanes : Lanes) (data : Word) : Word × Word × State :=
  match lanes with
  | .full => (data, BitVec.allOnes 64, s)
  | _ =>
    let (free, s1) := if r.fields.any (·.crosses) then s.draw else (0, s)
    let cross := (r.fields.filter (·.crosses)).foldl (fun m f => m ||| fieldMask f.hi f.lo) 0
    ((data &&& Lanes.mask lanes &&& ~~~cross) ||| (free &&& cross), Lanes.mask lanes ||| cross, s1)

/-- One field under a write of the bits `mask` of `w` to a register that holds `old` (R8, R10, R11); `armed` says that WLK fields are
armed. A field that the write does not address whole stays. -/
def FieldDesc.store (f : FieldDesc) (armed : Bool) (w mask old : Word) : Word :=
  let v := bitsOf w f.hi f.lo
  if bitsOf mask f.hi f.lo != 2 ^ (f.hi + 1 - f.lo) - 1 then old
  else match f.acc with
    | .ro => old
    | .wo => old
    | .rw => if f.reserved v then old else putBits old f.hi f.lo v
    | .wlk => if armed || f.reserved v then old else putBits old f.hi f.lo v
    | .w1c => putBits old f.hi f.lo (bitsOf (old &&& ~~~w) f.hi f.lo)
    | .w1s => putBits old f.hi f.lo (bitsOf (old ||| w) f.hi f.lo)

/-- A register under a write, field by field. -/
def storeFields (armed : Bool) (w mask : Word) : List FieldDesc → Word → Word
  | [], old => old
  | f :: fs, old => storeFields armed w mask fs (f.store armed w mask old)

/-- Entry `i` of register `r` written: its stored fields take their values; what the register's commands do is its handler's. -/
def State.store (s : State) (r : Reg) (i : Nat) (w mask : Word) (armed : Bool) : State :=
  s.setReg r i (storeFields armed w mask r.fields (s.getReg r i))

/-- A one-bit field that the write addresses and sets. -/
def Fld.cmd (f : Fld) (w mask : Word) : Bool := f.on (w &&& mask)

/-- A write of a whole register. -/
def allBits : Word := BitVec.allOnes 64

end Sys2Proof.Machine
end

