-- ==== Sys2Proof/Machine/Queues.lean ====
section
/-! DEFINITION. Reading queues (DEQ, PEEK and the export drain), configuration and commands of queues, bank map-out, the scrubber, spill
and drain (R146, R147, R281 to R303, R306, R310). -/

namespace Sys2Proof.Machine

/-! ### Readers (R284, R298, R299) -/

/-- What a reader meets at an end of a queue: no record, a record in the salt pans, or a resident record with its cell. -/
inductive Head where
  | empty
  | remote
  | item (r : Rec) (cell : Nat)
  deriving DecidableEq, Repr

/-- The first record of a list of cells that is not GONE. -/
def firstLive : List Cell → Option (Rec × Nat)
  | [] => none
  | c :: cs => match c.recs.find? (fun r => !r.gone) with
    | some r => some (r, c.idx)
    | none => firstLive cs

/-- The last record of a list of cells that is not GONE. -/
def lastLive (cs : List Cell) : Option (Rec × Nat) :=
  cs.reverse.findSome? (fun c => (c.recs.reverse.find? (fun r => !r.gone)).map (fun r => (r, c.idx)))

/-- Some remote record of the queue is not GONE. -/
def State.remoteLive (s : State) (q : Nat) : Bool := (s.remoteOf q).any (fun e => !e.cell.spent)

/-- The head of a queue: the front, then the remote segment, then the back (R299). -/
def State.headOf (s : State) (q : Nat) : Head :=
  match firstLive (s.queue q).front with
  | some (r, x) => .item r x
  | none =>
    if s.remoteLive q then .remote
    else match firstLive (s.queue q).back with
      | some (r, x) => .item r x
      | none => .empty

/-- The newest record of a queue. -/
def State.newestOf (s : State) (q : Nat) : Head :=
  match lastLive (s.queue q).back with
  | some (r, x) => .item r x
  | none =>
    if s.remoteLive q then .remote
    else match lastLive (s.queue q).front with
      | some (r, x) => .item r x
      | none => .empty

/-- The first record of a list that is not GONE becomes GONE. -/
def goneFirst : List Rec → List Rec
  | [] => []
  | r :: rs => if r.gone then r :: goneFirst rs else { r with gone := true } :: rs

/-- The same for the first such record of cell `x`, or the last. -/
def goneIn (x : Nat) (newest : Bool) (cs : List Cell) : List Cell :=
  cs.map (fun c => if c.idx == x then
    { c with recs := if newest then (goneFirst c.recs.reverse).reverse else goneFirst c.recs } else c)

/-- The record at the head (or the newest) of queue `q`, in cell `x`, leaves it: GONE, COUNT falls, spent cells are freed (R291). -/
def State.removeRec (s : State) (q x : Nat) (newest : Bool) : State :=
  let y := s.queue q
  ((s.setQueue q { y with front := goneIn x newest y.front, back := goneIn x newest y.back }).uncount q 1).sweep q

/-- A record with an uncorrectable slot is discarded (R284). -/
def State.discardBad (s : State) (q x : Nat) (newest : Bool) (r : Rec) : State :=
  let s1 := (s.removeRec q x newest).incF QM_ERR_MEMERR 0
  if r.err == 1 then
    s1.alarm (s1.getF QM_QCFG_TENANT q) 0x8305 0x0902 (leBytes 2 q ++ leBytes 2 0 ++ leBytes 4 x ++ leBytes 4 0)
  else (s1.lose r 7 true).settleLosses

/-- What a reader finds at the head (or the newest record), past the records that R284 discards. With `keepOpen`, a record of the open
window is not read, so its slots are not judged (R146). -/
def State.readFrom (s : State) (q : Nat) (newest keepOpen : Bool) : Nat → State × Head
  | 0 => (s, .empty)
  | fuel + 1 =>
    match if newest then s.newestOf q else s.headOf q with
    | .item r x =>
      if r.err == 0 || (keepOpen && s.genState r.tenant r.gen == .open_) then (s, .item r x)
      else (s.discardBad q x newest r).readFrom q newest keepOpen fuel
    | h => (s, h)

/-- A read of queue `q`. -/
def State.readQueue (s : State) (q : Nat) (newest keepOpen : Bool) : State × Head :=
  let s1 := s.useQueue q
  s1.readFrom q newest keepOpen (s1.getF QM_QSTAT_COUNT q + 1)

/-- DEQ, PEEK or the export drain asks for a cell of the remote segment (R301). -/
def State.wantRemote (s : State) (q : Nat) : State :=
  let t := s.getF QM_QCFG_TENANT q
  s.setRing t { s.ring t with want := true }

/-! ### DEQ and PEEK (R146, R147) -/

/-- Programs of tenant `t` may read queue `q`. -/
def State.readable (s : State) (t q : Nat) : Bool :=
  decide (q < 32768) && s.flag QM_QCFG_VALID q && s.flag QM_QCFG_PROG q && s.getF QM_QCFG_TENANT q == t

/-- The status word of R146. -/
def statusWord (status : Nat) (remote : Bool) (slots gen : Nat) : Word :=
  BitVec.ofNat 64 (status * 2 ^ 62 + remote.toNat * 2 ^ 61 + (slots - 1) % 8 * 2 ^ 53 + gen % 2 ^ 32)

/-- The checks that DEQ and PEEK share: the cause and INFO of a trap. -/
def State.readTrap (s : State) (c : Nat) (f : FmtT) : Option (Nat × Nat) :=
  let x := s.ctx c
  let q := (x.gr f.ra).toNat
  let a := (x.gr f.rb).toNat
  if !s.readable (s.tenantOf c) q then some (0x0009, q)
  else if a % 32 != 0 then some (0x0003, a)
  else if !s.inScratch c a 256 then some (0x0004, a)
  else none

/-- DEQ. -/
def execDeq (c : Nat) (f : FmtT) (s : State) : Res :=
  s.issueT c 0x23 f (f.ctl != 0) (fun s1 =>
    match s1.readTrap c f with
    | some (cause, info) => .trap cause info s1
    | none =>
      let q := ((s1.ctx c).gr f.ra).toNat
      let a := ((s1.ctx c).gr f.rb).toNat
      match s1.readQueue q false true with
      | (s2, .empty) => s2.result c f (statusWord 1 false 1 0) false
      | (s2, .remote) => (s2.wantRemote q).result c f (statusWord 2 true 1 0) false
      | (s2, .item r x) =>
        match s2.genState r.tenant r.gen with
        | .open_ => s2.result c f (statusWord 2 false 1 0) false
        | g =>
          ((s2.removeRec q x false).scrWrite c a (r.bytes false)).result c f
            (statusWord (if g == .voided then 3 else 0) false r.slots r.gen) true)

/-- PEEK with MODE 0 or 1; the word with MODE 3 is DEPSTAT's. -/
def execPeek (c : Nat) (f : FmtT) (s : State) : Res :=
  if f.ctl = 3 then .next s
  else s.issueT c 0x24 f (2 ≤ f.ctl.toNat) (fun s1 =>
    match s1.readTrap c f with
    | some (cause, info) => .trap cause info s1
    | none =>
      let q := ((s1.ctx c).gr f.ra).toNat
      let a := ((s1.ctx c).gr f.rb).toNat
      match s1.readQueue q (f.ctl == 1) false with
      | (s2, .empty) => s2.result c f (statusWord 1 false 1 0) false
      | (s2, .remote) => (s2.wantRemote q).result c f (statusWord 2 true 1 0) false
      | (s2, .item r _) =>
        match s2.genState r.tenant r.gen with
        | .open_ =>
          let s3 := s2.scrWrite c a (r.bytes true)
          let s4 := (s3.setCtx c { s3.ctx c with dep := some r.gen }).setFlag CX_STATUS_DEP c true
          s4.result c f (statusWord 0 false r.slots r.gen) true
        | .voided => (s2.scrWrite c a (r.bytes true)).result c f (statusWord 3 false r.slots r.gen) true
        | .final => (s2.scrWrite c a (r.bytes false)).result c f (statusWord 0 false r.slots r.gen) true)

/-! ### Appending -/

/-- Class and slots of the record types (R37): the code, the least and the greatest class, the least and the greatest slot count. -/
def recordTypes : List (Nat × Nat × Nat × Nat × Nat) :=
  [ (0x01, 2, 2, 1, 4), (0x02, 2, 2, 1, 1), (0x03, 2, 2, 1, 1), (0x04, 2, 2, 1, 2), (0x05, 2, 2, 1, 2), (0x10, 2, 2, 2, 2),
    (0x11, 2, 2, 1, 2), (0x12, 2, 2, 2, 2), (0x20, 1, 1, 2, 2), (0x21, 1, 1, 2, 2), (0x30, 1, 1, 2, 2), (0x31, 2, 2, 1, 2),
    (0x40, 1, 1, 1, 2), (0x41, 1, 1, 1, 1), (0x50, 1, 1, 2, 8), (0x51, 1, 1, 1, 1), (0x52, 1, 1, 1, 2), (0x60, 0, 0, 1, 2),
    (0x70, 1, 3, 1, 8), (0x71, 3, 3, 8, 8) ]

/-- The block forms records of this type, class and slot count (R37); from 0x80 on the types are the tenants'. -/
def recordOk (typ cls slots : Nat) : Bool :=
  recordTypes.any (fun e => typ == e.1 && decide (e.2.1 ≤ cls) && decide (cls ≤ e.2.2.1) && decide (e.2.2.2.1 ≤ slots) &&
    decide (slots ≤ e.2.2.2.2)) ||
  (decide (0x80 ≤ typ) && decide (typ < 256) && decide (1 ≤ cls) && decide (cls ≤ 3) && decide (1 ≤ slots) && decide (slots ≤ 8))

/-- RECORD_APPEND: a record that a unit of the block or the funnel offers (R26, R287); a unit forms none that R37 does not list. -/
def execRecordAppend (r : RecIn) (s : State) : Res :=
  s.event (recordOk r.typ r.cls (slotsOf r.payload.length)) (s.form
    { typ := r.typ, slots := slotsOf r.payload.length, cls := r.cls, tenant := r.tenant, source := r.source, seq := r.seq.getD 0,
      stamp := r.stamp, payload := r.payload, epoch := r.epoch })

/-! ### Configuration and commands -/

/-- QM_QCFG written for the selected queue (R285). A queue that changes its tenant or its REWIND, which it can only while it is empty, keeps
no mark: R297 gives marks to queues with REWIND = 1 and to the open window of their tenant (DEDUCED, log entry 99). A write of FR alone leaves the
mark (R19). -/
def State.writeQcfg (s : State) (w mask : Word) : State :=
  let q := s.getF QM_QSEL_QUEUE 0
  let old := s.getReg .QM_QCFG q
  let new := storeFields false w mask Reg.QM_QCFG.fields old
  let moved := QM_QCFG_TENANT.of new != QM_QCFG_TENANT.of old || QM_QCFG_REWIND.of new != QM_QCFG_REWIND.of old
  if ((moved || QM_QCFG_FR.of new != QM_QCFG_FR.of old) && s.getF QM_QSTAT_COUNT q != 0) || (QM_QCFG_FR.on new && QM_QCFG_CAP.of new == 0) then s
  else
    let s1 := s.setReg .QM_QCFG q new
    if moved then s1.setQueue q { s1.queue q with mark := .none } else s1

def execQcfgWrite (data : Word) (s : State) : Res := s.hostDoes true (s.writeQcfg data allBits)

/-- QM_CMD written: 1 RESET, 2 FREEZE (a queue with FR = 1), 3 THAW (R292, R293). -/
def State.writeQmCmd (s : State) (w mask : Word) : State :=
  let q := QM_CMD_QUEUE.of (w &&& mask)
  let cmd := QM_CMD_CMD.of (w &&& mask)
  if cmd == 1 then s.resetQueue q 4
  else if cmd == 2 then (if s.flag QM_QCFG_FR q then s.setFlag QM_QSTAT_FROZEN q true else s)
  else if cmd == 3 then s.setFlag QM_QSTAT_FROZEN q false
  else s

def execQueueReset (data : Word) (s : State) : Res := s.hostDoes (QM_CMD_CMD.of data == 1) (s.writeQmCmd data allBits)
def execFreeze (data : Word) (s : State) : Res := s.hostDoes (QM_CMD_CMD.of data == 2) (s.writeQmCmd data allBits)
def execThaw (data : Word) (s : State) : Res := s.hostDoes (QM_CMD_CMD.of data == 3) (s.writeQmCmd data allBits)

/-! ### Bank map-out (R281, R293) -/

/-- Bank `b` mapped out: its cells leave the pool, and every queue that has a cell in it is reset with cause BANK. -/
def State.mapOutBank (s : State) (b : Nat) : State :=
  if s.bankOut b then s
  else
    let inUse := (s.qm.used.filter (fun e => e.1 / 4096 == b)).length
    let s1 := s.setReg .QM_BANK 0 (putBits (s.getReg .QM_BANK 0) b b 1)
    let s2 := ((s1.decF QM_POOL_FREE 0 (4096 - inUse)).decF QM_POOL_USABLE 0 4096).lowerCaps .bank b
    (smKeys (fun _ x => x.cells.any (fun c => c.idx / 4096 == b)) s2.qm.queues).foldl (fun s q => s.resetQueue q 3) s2

/-- The banks of a mask mapped out, from bank `b` on. -/
def State.mapOutBanks (s : State) (w : Word) : Nat → State
  | 0 => s
  | n + 1 =>
    let s1 := s.mapOutBanks w n
    if bitOf w n then s1.mapOutBank n else s1

def execQmBankMapout (data : Word) (s : State) : Res := s.hostDoes true (s.mapOutBanks data 64)

/-! ### The scrubber (R294) -/

/-- A walk starts over the incarnations handed before it, up to 16. -/
def execScrubWalkStart (s : State) : Res :=
  s.event (!s.qm.walking && !s.qm.waiting.isEmpty)
    { s with qm := { s.qm with walking := true, walkAt := s.rawNow, serving := s.qm.waiting.take 16, waiting := s.qm.waiting.drop 16 } }

/-- A walk ends: it has reached every cell of the incarnations that it served. -/
def State.endWalk (s : State) : State :=
  let s1 := s.scrubTo 262144
  { s1 with qm := { s1.qm with walking := false, serving := [] } }

def execScrubWalkEnd (s : State) : Res := s.event s.qm.walking s.endWalk

/-! ### Streams (R309, R310) -/

/-- Stream `k` of tenant `t` in the DS registers. -/
def ds (t k : Nat) : Nat := 16 * t + k

/-- STATE of a stream: 0 IDLE, 1 RUNNING, 2 STALLED, 3 QUIESCED. -/
def State.dsState (s : State) (t k : Nat) : Nat := s.getF DS_STAT_STATE (ds t k)

/-- A stream starts a descriptor. -/
def State.startStream (s : State) (t k : Nat) : State :=
  (s.setF DS_STAT_STATE (ds t k) 1).setF DS_STAT_POS (ds t k) 0

/-- A stream ends its descriptor: 1 COMPLETE, 2 ABANDONED. -/
def State.endStream (s : State) (t k last : Nat) : State :=
  (s.setF DS_STAT_STATE (ds t k) 0).setF DS_STAT_LAST (ds t k) last

/-- A stream completes its descriptor of `n` bytes, all of which POS counts (R309). -/
def State.completeStream (s : State) (t k n : Nat) : State := (s.setF DS_STAT_POS (ds t k) n).endStream t k 1

/-- A stream stalls (R310): DS_FAULT, the interrupt, ALARM DMA_FAULT. -/
def State.stallStream (s : State) (t k cause va pos : Nat) : State :=
  let s1 := (s.setF DS_STAT_STATE (ds t k) 2).setF DS_STAT_POS (ds t k) pos
  let s2 := ((s1.setF DS_FAULT_CAUSE (ds t k) cause).setF DS_FAULT_ADDR (ds t k) va).raise vecDmaFault
  s2.alarm t 0x8306 0x0A01 (leBytes 1 k ++ leBytes 1 cause ++ leBytes 2 0 ++ leBytes 8 va)

/-! ### Spill and drain (R299 to R303) -/

/-- LEVEL of a tenant's ring set to the number of its entries: RING_FULL, CROSSED, which a rise above HIGH sets, and PEAK follow (R303). -/
def State.showLevel (s : State) (t : Nat) : State :=
  let n := (s.ring t).ents.length
  let s1 := (s.setF SP_LEVEL_LEVEL t n).setFlag SP_LEVEL_RING_FULL t (n == s.getF SP_SIZE_CELLS t)
  let s2 := if s.getF SP_LEVEL_LEVEL t ≤ s.getF SP_SIZE_HIGH t && decide (s.getF SP_SIZE_HIGH t < n) then s1.setFlag SP_LEVEL_CROSSED t true else s1
  s2.setF SP_PEAK_PEAK t (max n (s.getF SP_PEAK_PEAK t))

/-- A queue's front and back as R299 divides them: while the remote segment is empty, the front is the first FRONT cells. -/
def State.segments (s : State) (q : Nat) : List Cell × List Cell :=
  let x := s.queue q
  if s.isRemote q then (x.front, x.back)
  else
    let n := s.getF QT_LIMIT_FRONT (s.getF QM_QCFG_TENANT q)
    (x.cells.take n, x.cells.drop n)

/-- The cell that spill would take from queue `q`: the oldest closed back cell, which must not be the queue's last, its tail cell, though that may
be closed once the cell behind it has been freed (R300). -/
def State.spillCell (s : State) (q : Nat) : Option Cell :=
  match (s.segments q).2 with
  | c :: _ :: _ => if c.closed then some c else none
  | _ => none

/-- Queue `q` of tenant `t` may spill now. -/
def State.spills (s : State) (t q : Nat) : Bool :=
  s.getF QM_QCFG_TENANT q == t && s.flag QM_QCFG_SPILL q && !s.flag QM_QCFG_FR q && (s.spillCell q).isSome

/-- The queue that spill serves next, in rotation after the one it served last (R300). -/
def State.spillQueue (s : State) (t : Nat) : Option Nat :=
  let qs := smKeys (fun q _ => s.spills t q) s.qm.queues
  match qs.find? (fun q => decide ((s.ring t).lastQ < q)) with
  | some q => some q
  | none => qs.head?

/-- Spill may take a cell (R300). -/
def State.spillDue (s : State) (t : Nat) : Bool :=
  s.flag SP_SIZE_EN t && s.dsState t 0 == 0 && decide (s.getF QT_LIMIT_SPILL_MARK t < s.getF QT_USE_RESIDENT t) &&
    decide ((s.ring t).ents.length < s.getF SP_SIZE_CELLS t)

/-- The records of a cell that R284 discards when spill reads it. -/
def State.discardBads (s : State) (q x : Nat) : Nat → State
  | 0 => s
  | n + 1 =>
    let y := s.queue q
    match (y.cells.filter (fun c => c.idx == x)).flatMap (·.recs) |>.find? (fun r => !r.gone && r.err != 0) with
    | none => s
    | some r =>
      let cut := fun (cs : List Cell) => cs.map (fun c => if c.idx == x then
        { c with recs := c.recs.map (fun z => if z == r then { z with gone := true } else z) } else c)
      let s1 := ((s.setQueue q { y with front := cut y.front, back := cut y.back }).uncount q 1).incF QM_ERR_MEMERR 0
      let s2 := if r.err == 1 then
          s1.alarm (s1.getF QM_QCFG_TENANT q) 0x8305 0x0902 (leBytes 2 q ++ leBytes 2 0 ++ leBytes 4 x ++ leBytes 4 0)
        else (s1.lose r 7 true).settleLosses
      s2.discardBads q x n

/-- Spill starts on a cell of queue `q` (R300): the stream runs, and the cell stays resident. -/
def State.startSpill (s : State) (t q : Nat) : State :=
  let s0 := s.useQueue q
  let (f, b) := s0.segments q
  let s1 := s0.setQueue q { s0.queue q with front := f, back := b }
  match s1.spillCell q with
  | none => s1
  | some c =>
    let s2 := s1.discardBads q c.idx c.recs.length
    let e : RingEnt := { queue := q, incarn := s2.getF QM_QSTAT_INCARN q, cell := c }
    (s2.setRing t { s2.ring t with spill := some e, lastQ := q }).startStream t 0

def execSpillStart (t : Nat) (s : State) : Res :=
  match s.spillQueue t with
  | some q => s.event (s.spillDue t) (s.startSpill t q)
  | none => .next s

/-- Per-slot flags and fields of a sideband: the bit of each slot at which a record begins that satisfies `p`. -/
def slotBits (p : Rec → Bool) : Nat → List Rec → Nat
  | _, [] => 0
  | i, r :: rs => (if p r then 2 ^ i else 0) + slotBits p (i + r.slots) rs

/-- A value for each of the eight slots, `n` bytes each; 0 where no record begins. -/
def slotFields (n : Nat) (g : Rec → Nat) (rs : List Rec) : Nat → Nat → List Byte
  | 0, _ => []
  | fuel + 1, i =>
    let starts := (List.range rs.length).find? (fun j => slotsBefore (rs.take j) == i)
    let v := match starts with
      | some j => (rs[j]?.map g).getD 0
      | none => 0
    leBytes n v ++ slotFields n g rs fuel (i + 1)

/-- The 256 data bytes of a cell; slots that nothing was written to are written as zeros. -/
def Cell.data (c : Cell) : List Byte := padTo 256 (c.recs.flatMap (·.bytes false))

/-- The sideband of R283 without its CHECK: bytes 0 to 55. -/
def RingEnt.side (e : RingEnt) : List Byte :=
  leBytes 2 (e.queue % 2 ^ 15) ++ leBytes 1 (e.incarn % 16) ++ leBytes 1 (slotBits (fun _ => true) 0 e.cell.recs) ++
    leBytes 1 e.cell.used ++ leBytes 1 (slotBits (·.gone) 0 e.cell.recs) ++ leBytes 2 0 ++
    slotFields 2 (·.epoch) e.cell.recs 8 0 ++ slotFields 4 (·.gen) e.cell.recs 8 0

/-- CHECK of R283. -/
def RingEnt.check (e : RingEnt) : Nat := crc32c (e.cell.data ++ e.side)

/-- Where entry `i` of a ring lies (R302). -/
def State.ringData (s : State) (t i : Nat) : Nat := s.getF SP_BASE_BASE t * 65536 + 256 * i
def State.ringSide (s : State) (t i : Nat) : Nat :=
  s.getF SP_BASE_BASE t * 65536 + 256 * s.getF SP_SIZE_CELLS t + 64 * i

/-- An entry of the ring written: cell data, then sideband, in pinned pages (R302, R309). -/
def State.writeEntry (s : State) (t i : Nat) (e : RingEnt) : State × Option (Nat × Nat × Nat) :=
  match s.streamWrite t (s.ringData t i) true 4 e.cell.data with
  | (s1, some (cause, va)) => (s1, some (cause, va, va - s.ringData t i))
  | (s1, none) => match s1.streamWrite t (s.ringSide t i) true 1 (e.side ++ leBytes 4 e.check ++ leBytes 4 0) with
    | (s2, some (cause, va)) => (s2, some (cause, va, 256))
    | (s2, none) => (s2, none)

/-- The ring index of the next entry to write. -/
def State.ringTail (s : State) (t : Nat) : Nat :=
  let r := s.ring t
  if s.getF SP_SIZE_CELLS t = 0 then 0 else (r.head + r.ents.length) % s.getF SP_SIZE_CELLS t

/-- Spill's descriptor ends (R300): the entry is written, and its cell is freed, or the stream stalls. An entry whose queue has been reset
meanwhile enters the ring with its old incarnation; a cell that was freed meanwhile leaves no entry. -/
def State.finishSpill (s0 : State) (t : Nat) (e0 : RingEnt) : State :=
  let q := e0.queue
  let s := s0.useQueue q
  let same := s.getF QM_QSTAT_INCARN q == e0.incarn
  let cur := (s.queue q).back.find? (fun c => c.idx == e0.cell.idx)
  let e := if same then { e0 with cell := cur.getD e0.cell } else e0
  match s.writeEntry t (s.ringTail t) e with
  | (s1, some (cause, va, pos)) => s1.stallStream t 0 cause va pos
  | (s1, none) =>
    let r := s1.ring t
    let s2 := s1.setRing t { r with spill := none, ents := if same && cur.isNone then r.ents else r.ents ++ [e] }
    let s3 := if same && cur.isSome then
        let x := s2.queue q
        (s2.setQueue q { x with back := x.back.filter (fun c => c.idx != e0.cell.idx) }).freeCellOf q e0.cell.idx
      else s2
    ((s3.showLevel t).countBlock 6 1).completeStream t 0 320

def execSpillComplete (t : Nat) (s : State) : Res :=
  match (s.ring t).spill with
  | some e => s.event (s.dsState t 0 == 1) (s.finishSpill t e)
  | none => .next s

/-- The drain serves queue `q` (R334). -/
def State.served (s : State) (q : Nat) : Bool :=
  s.flag QM_QCFG_EXPORT q && (!s.flag QM_QCFG_FR q || s.flag QM_QSTAT_FROZEN q) &&
    s.flag EX_STREAM_VALID (s.getF QM_QCFG_TENANT q) && s.flag EX_CFG_EN 0 && s.locked

/-- The export drain needs the next cell of a queue that it serves from its remote segment (R301). -/
def State.exportNeeds (s : State) (t : Nat) : Bool :=
  s.qm.queues.any (fun e => s.getF QM_QCFG_TENANT e.1 == t && s.served e.1 && s.headOf e.1 == .remote)

/-- Drain may take an entry (R301). -/
def State.drainDue (s : State) (t : Nat) : Bool :=
  s.dsState t 1 == 0 && !(s.ring t).ents.isEmpty &&
    (decide (s.getF QT_USE_RESIDENT t ≤ s.getF QT_LIMIT_DRAIN_MARK t) ||
      (((s.ring t).want || s.exportNeeds t) && !s.shareFull t))

def execDrainStart (t : Nat) (s : State) : Res :=
  s.event (s.drainDue t) ((s.setRing t { s.ring t with drain := true, checked := false }).startStream t 1)

/-- The oldest entry leaves the ring. -/
def State.popEntry (s : State) (t : Nat) : State :=
  let r := s.ring t
  let n := s.getF SP_SIZE_CELLS t
  (s.setRing t { r with ents := r.ents.drop 1, head := if n = 0 then 0 else (r.head + 1) % n, drain := false, want := false }).showLevel t

/-- A drained cell joins the front of its queue, or is freed: an old incarnation (R294), or all of its records GONE (R298). -/
def State.joinFront (s0 : State) (t : Nat) (e : RingEnt) : State :=
  let q := e.queue
  let s := if s0.getF QM_QSTAT_INCARN q == e.incarn then s0.useQueue q else s0
  if s.getF QM_QSTAT_INCARN q != e.incarn || s.getF QM_QCFG_TENANT q != t || e.cell.spent then s
  else
    let (s1, idx) := s.allocCell t q
    let x := s1.queue q
    s1.setQueue q { x with front := x.front ++ [{ e.cell with idx := idx }] }

/-- Drain's descriptor ends: the entry is read from memory and its CHECK is tested (R301, R310). -/
def State.finishDrain (s : State) (t : Nat) (e : RingEnt) : State :=
  let i := (s.ring t).head
  match s.streamRead t (s.ringData t i) true 4 with
  | .error (cause, va) => s.stallStream t 1 cause va (va - s.ringData t i)
  | .ok data => match s.streamRead t (s.ringSide t i) true 1 with
    | .error (cause, va) => s.stallStream t 1 cause va 256
    | .ok side =>
      if crc32c (data ++ side.take 56) != leNat ((side.drop 56).take 4) then s.stallStream t 1 7 (s.ringData t i) 0
      else (((s.popEntry t).joinFront t e).countBlock 7 1).completeStream t 1 320

/-- DRAIN_COMPLETE: a joining cell takes a free cell outside CTL_RESERVE (R288). -/
def execDrainComplete (t : Nat) (s : State) : Res :=
  match (s.ring t).ents with
  | e :: _ => s.event (s.dsState t 1 == 1 && decide (s.getF QM_CFG_CTL_RESERVE 0 < s.getF QM_POOL_FREE 0)) (s.finishDrain t e)
  | [] => .next s

/-- ALARM DRAIN_LOST of a queue that loses records (R295, R310). -/
def State.drainLost (s : State) (t q n : Nat) : State :=
  if n = 0 then s
  else (s.uncount q n).alarm t 0x8306 0x0A02 (leBytes 2 q ++ leBytes 2 0 ++ leBytes 4 n ++ leBytes 4 0)

/-- Records of an entry that its queue still counts. -/
def State.entryLive (s : State) (e : RingEnt) : Nat :=
  if s.getF QM_QSTAT_INCARN e.queue == e.incarn then (e.cell.recs.filter (fun r => !r.gone)).length else 0

/-- The oldest entry of the ring can be read, and its CHECK holds. -/
def State.entryReads (s : State) (t : Nat) : Bool :=
  let i := (s.ring t).head
  match s.streamRead t (s.ringData t i) true 4, s.streamRead t (s.ringSide t i) true 1 with
  | .ok data, .ok side => crc32c (data ++ side.take 56) == leNat ((side.drop 56).take 4)
  | _, _ => false

/-- The uses of several queues (R293). -/
def State.useQueues (s : State) (qs : List Nat) : State := qs.foldl (fun z q => z.useQueue q) s

/-- The whole ring is emptied, and every queue loses what its entries still hold of it. -/
def State.emptyRing (s : State) (t : Nat) : State :=
  let r := s.ring t
  let s1 := (s.setRing t { r with ents := [], head := 0, drain := false, want := false }).showLevel t
  (r.ents.map (·.queue)).dedup.foldl
    (fun z q => z.drainLost t q ((r.ents.filter (fun e => e.queue == q)).map s.entryLive).sum) s1

/-- ABANDON of DRAIN (R310): when the sideband had been read and checked before the stall, its cell is discarded, else the whole ring. The queues
that lose records are used first. -/
def State.abandonDrain (s : State) (t : Nat) : State :=
  match (s.ring t).ents with
  | [] => s.endStream t 1 2
  | e :: es =>
    if (s.ring t).checked then
      let s1 := s.useQueue e.queue
      ((s1.popEntry t).drainLost t e.queue (s1.entryLive e)).endStream t 1 2
    else ((s.useQueues ((e :: es).map (·.queue)).dedup).emptyRing t).endStream t 1 2

/-- SP_PEAK written with CLEAR (R303). -/
def State.writeSpPeak (s : State) (t : Nat) (w mask : Word) : State :=
  if SP_PEAK_CLEAR.cmd w mask then s.setF SP_PEAK_PEAK t (s.getF SP_LEVEL_LEVEL t) else s

def execSpPeakClear (t : Nat) (data : Word) (s : State) : Res :=
  s.hostDoes (SP_PEAK_CLEAR.on data) (s.writeSpPeak t data allBits)

/-! ### Invalidation of translations (R306): every access of this model uses the entries at once -/

/-- XL_INV written with GO. -/
def State.writeXlInv (s : State) (w mask : Word) : State :=
  if XL_INV_GO.cmd w mask then s.setFlag XL_INV_BUSY 0 true else s

def execXlInvalidate (data : Word) (s : State) : Res := s.hostDoes (XL_INV_GO.on data) (s.writeXlInv data allBits)
def execXlInvComplete (s : State) : Res := s.event (s.flag XL_INV_BUSY 0) (s.setFlag XL_INV_BUSY 0 false)

end Sys2Proof.Machine
end

