-- ==== Sys2Proof/Machine/WindowCmd.lean ====
section
/-! DEFINITION. Commands and events of the window unit (R316, R318, R322, R329). -/

namespace Sys2Proof.Machine

/-- The TENANT message of tenant `t` (R379); `request` asks for its partition afresh (R390). -/
def State.tenantMsg (s : State) (t : Nat) (request : Bool) : MirMsg :=
  .tenant t (s.getF TN_STATUS_STATE t) (s.getReg .TN_CFG t) (s.getF EX_STREAM_STREAM t) request

/-- A TENANT message to the partner. -/
def State.sendTenant (s : State) (t : Nat) : State := s.sendMir (s.tenantMsg t false)

/-- WN_CFG written: EN opens a window, or crystallises the open one as DISABLED (R318). -/
def State.writeWnCfg (s : State) (t : Nat) (w mask : Word) : State :=
  let s1 := s.store .WN_CFG t w mask false
  let s2 := if s1.getReg .WN_CFG t == s.getReg .WN_CFG t then s1 else s1.sendTenant t
  if s2.flag WN_CFG_EN t then s2.tryOpen t
  else if s2.getF WN_STAT_STATE t == 1 then s2.crystallise t 5 0
  else s2

def execWnEnSet (t : Nat) (data : Word) (s : State) : Res := s.hostDoes (WN_CFG_EN.on data) (s.writeWnCfg t data allBits)
def execWnEnClear (t : Nat) (data : Word) (s : State) : Res := s.hostDoes (!WN_CFG_EN.on data) (s.writeWnCfg t data allBits)

/-- WN_CMD written: VOID before SEAL, which a VOID of the same generation refuses (R345). -/
def State.writeWnCmd (s : State) (t : Nat) (w mask : Word) : State :=
  let g := WN_CMD_GEN.of (w &&& mask)
  let s1 := if WN_CMD_VOID.cmd w mask then (s.windowRequest t g true 2).1 else s
  if WN_CMD_SEAL.cmd w mask then (s1.windowRequest t g false 2).1 else s1

def execWnSeal (t : Nat) (data : Word) (s : State) : Res := s.hostDoes (WN_CMD_SEAL.on data) (s.writeWnCmd t data allBits)
def execWnVoid (t : Nat) (data : Word) (s : State) : Res := s.hostDoes (WN_CMD_VOID.on data) (s.writeWnCmd t data allBits)

/-- WN_GEN written: NEXT, while the tenant is FREE (R346). -/
def State.writeWnGen (s : State) (t : Nat) (w mask : Word) : State :=
  if s.getF TN_STATUS_STATE t == 0 then s.store .WN_GEN t w mask false else s

/-- A window's interval ends (R316). The openings of WIN phases and the steps end windows in their own commands. -/
def execWindowNaturalEnd (t : Nat) (s : State) : Res := s.event (s.intervalOver t) (s.closeAndOpen t 0)

/-- A window of PHASE or MANUAL has stood for 2^MAXK ticks of the microsecond clock (R316). -/
def State.capDue (s : State) (t : Nat) : Bool :=
  s.getF WN_STAT_STATE t == 1 && (s.window t).align != 0 && decide ((s.window t).openUs + 2 ^ (s.window t).maxk ≤ s.us)

def execWindowCap (t : Nat) (s : State) : Res := s.event (s.capDue t) (s.closeAndOpen t 1)

/-- A void's rewinds are complete and its EMITs resolved: its VOID record is formed (R322). -/
def execVoidSettle (t : Nat) (s : State) : Res := s.event (!(s.window t).jobs.isEmpty) (s.settleVoid t)

/-- A tally's 16 microseconds have passed (R329). -/
def State.tallyDue (s : State) (source : Nat) : Bool :=
  match smGet none s.win.tallies source with
  | some y => decide (y.firstUs + 16 ≤ s.us)
  | none => false

def execLossTallyTimeout (source : Nat) (s : State) : Res :=
  s.event (s.tallyDue source) (s.closeTally source).settleLosses

/-- The refused LOSS records are offered again (R329). -/
def State.reofferLosses (s : State) : State :=
  ({ s with win := { s.win with closed := s.win.closed.map (fun (y : Tally) => { y with tried := false }) } }).settleLosses

def execLossReoffer (s : State) : Res := s.event (s.win.closed.any (·.tried)) s.reofferLosses

end Sys2Proof.Machine
end

