-- ==== Sys2Proof/Machine/Export.lean ====
section
/-! DEFINITION. The export unit: ports, the drain, frames, pause and credits, and shedding (R331 to R343, R434). -/

namespace Sys2Proof.Machine

/-! ### The unit's parts -/

/-- The stream of tenant `t`. -/
def State.stream (s : State) (t : Nat) : ExStream := smGet {} s.ex.streams t

/-- That replaced. -/
def State.setStream (s : State) (t : Nat) (x : ExStream) : State :=
  { s with ex := { s.ex with streams := smSet {} s.ex.streams t x } }

/-- Export port `p`. -/
def State.exPort (s : State) (p : Nat) : ExPort := smGet {} s.ex.ports p

/-- That replaced. -/
def State.setExPort (s : State) (p : Nat) (x : ExPort) : State :=
  { s with ex := { s.ex with ports := smSet {} s.ex.ports p x } }

/-- The open frame of a stream and class. -/
def State.openFrame (s : State) (t cls : Nat) : Option ExFrame := smGet none s.ex.open_ (4 * t + cls)

/-- That replaced. -/
def State.setOpenFrame (s : State) (t cls : Nat) (f : Option ExFrame) : State :=
  { s with ex := { s.ex with open_ := smSet none s.ex.open_ (4 * t + cls) f } }

/-- The IEEE 802.1Q priority of a class (R338). -/
def State.prio (s : State) (cls : Nat) : Nat :=
  if cls == 0 then s.getF EX_PFC_PRIO0 0 else if cls == 1 then s.getF EX_PFC_PRIO1 0
  else if cls == 2 then s.getF EX_PFC_PRIO2 0 else s.getF EX_PFC_PRIO3 0

/-- A priority of port `p` is paused (R338). -/
def State.paused (s : State) (p prio : Nat) : Bool := smGet 0 (s.exPort p).pause prio != 0

/-- The port is UP. -/
def State.portUp (s : State) (p : Nat) : Bool := s.getF EX_PORT_STATE p == 2

/-! ### Ports and lanes (R332, R333) -/

/-- The lanes of port `p` under a mode, as a mask; 0 for a port that the mode does not provide. -/
def portMask (mode p : Nat) : Nat :=
  if mode == 0 then (if p == 0 then 0xFF else 0)
  else if mode == 1 then (if p < 2 then 0x0F * 2 ^ (4 * p) else 0)
  else if mode == 2 then (if p < 4 then 3 * 2 ^ (2 * p) else 0)
  else 0

/-- The lowest pair inside a mask with no failed lane, as a mask, or 0. -/
def goodPair (mask dead : Nat) : Nat :=
  (([3, 12, 48, 192].find? (fun m => m &&& mask == m && m &&& dead == 0)).getD 0)

/-- The lanes and the RATE code of port `p` under the table of R332; (0, 0) when it is DOWN. -/
def portLayout (mode p dead : Nat) : Nat × Nat :=
  let mask := portMask mode p
  let bad := dead &&& mask
  let pair := goodPair mask dead
  let low := if pair == 0 then (0, 0) else (pair, 1)
  if mask == 0 then (0, 0)
  else if mode == 0 then
    if bad == 0 then (mask, 3)
    else if bad &&& 0x0F == 0 then (0x0F, 2)
    else if bad &&& 0xF0 == 0 then (0xF0, 2)
    else low
  else if mode == 1 then (if bad == 0 then (mask, 2) else low)
  else if bad == 0 then (mask, 1) else (0, 0)

/-- The layout of port `p` now. -/
def State.layout (s : State) (p : Nat) : Nat × Nat := portLayout (s.getF EX_CFG_MODE 0) p s.ex.dead

/-- The failed lanes of port `p`. -/
def State.failedLanes (s : State) (p : Nat) : Nat := s.ex.dead &&& portMask (s.getF EX_CFG_MODE 0) p

/-- Port `p` enters a state (0 OFF, 1 TRAINING, 2 UP, 3 DOWN): EX_PORT, and ALARM PORT_STATE at a change (R332, R344). -/
def State.setPort (s : State) (p st : Nat) : State :=
  let before := s.getF EX_PORT_STATE p
  let lanes := if st == 1 || st == 2 then (s.layout p).1 else 0
  let rate := if st == 2 then (s.layout p).2 else 0
  let failed := s.failedLanes p
  let s1 := ((s.setF EX_PORT_STATE p st).setF EX_PORT_RATE p rate).setF EX_PORT_LANES p lanes
  let s2 := s1.setF EX_PORT_FAILED p failed
  if before == st then s2
  else s2.alarm s2.sysTenant 0x8304 0x0B02
    (leBytes 1 p ++ leBytes 1 before ++ leBytes 1 st ++ leBytes 1 lanes ++ leBytes 1 rate ++ leBytes 3 0 ++ leBytes 1 failed ++ leBytes 3 0)

/-- Port `p` starts training under the mode, or is DOWN for want of lanes; a port that the mode does not provide stays OFF. -/
def State.trainPort (s : State) (p : Nat) : State :=
  if portMask (s.getF EX_CFG_MODE 0) p == 0 then s
  else if (s.layout p).2 == 0 then s.setPort p 3
  else s.setPort p 1

/-- An export port completes its training; while self-test runs its transmitters are idle (R406). -/
def execPortTrained (p : Nat) (s : State) : Res :=
  s.event (s.getF EX_PORT_STATE p == 1 && !s.flag MYB_BIST_STAT_BUSY 0) (s.setPort p 2)

/-- The frame that port `p` is sending is lost on the wire (R332): its records are accounted as LINK_ABORT. -/
def State.abortFrame (s : State) (p : Nat) : State :=
  match (s.exPort p).cur with
  | none => s
  | some x =>
    let s1 := (s.setExPort p { s.exPort p with cur := none }).incF EX_STAT_LINK_ABORT 0
    (x.frame.recs.foldl (fun z r => z.lose r.1 12 true) s1).settleLosses

/-- A port that EN = 0 has stopped goes OFF once nothing is on its wire, and trains if EN is 1 again (R434), unless self-test keeps it idle
(R406). -/
def State.stopPort (s : State) (p : Nat) : State :=
  let s1 := (s.setExPort p { s.exPort p with stop := false }).setPort p 0
  if s1.flag EX_CFG_EN 0 && !s1.flag MYB_BIST_STAT_BUSY 0 then s1.trainPort p else s1

/-- A port whose lanes have changed trains anew (R332), or goes OFF when it was only ending its last frame (R434). -/
def State.retrain (s : State) (p : Nat) : State := if (s.exPort p).stop then s.stopPort p else s.trainPort p

/-- Export lane `lane` fails: MYB_CAPS falls (R32), and its port aborts its frame and falls back when the lane was in use (R332). -/
def State.failExportLane (s : State) (lane : Nat) : State :=
  if s.ex.dead / 2 ^ lane % 2 == 1 then s
  else
    let used := fun (p : Nat) => bitOf (s.getReg .EX_PORT p) (48 + lane)
    let s1 := { s with ex := { s.ex with dead := s.ex.dead + 2 ^ lane } }
    [0, 1, 2, 3].foldl
      (fun z p =>
        let z1 := z.setF EX_PORT_FAILED p (z.failedLanes p)
        if used p then (z1.abortFrame p).retrain p else z1) (s1.lowerCaps .exportLane lane)

def execExportLaneFailure (lane : Nat) (s : State) : Res :=
  s.event (lane < 8 && s.ex.dead / 2 ^ lane % 2 == 0) (s.failExportLane lane)

/-! ### Enabling and disabling (R434) -/

/-- The formed frames held, in the order of their closing; each has the next FSEQ of its stream from now on. -/
def State.holdFrames (s : State) : List ExFrame → List ExFrame × State
  | [] => ([], s)
  | f :: fs =>
    let y := s.stream f.tenant
    let s1 := if f.fseq.isSome then s else s.setStream f.tenant { y with fseq := y.fseq + 1 }
    let (rest, s2) := s1.holdFrames fs
    ({ f with held := true, fseq := some (f.fseq.getD y.fseq) } :: rest, s2)

/-- EX_CFG.EN becomes 0: the ports that send a frame go OFF after it, the others at once; what is formed is held with its FSEQ. -/
def State.exportOff (s : State) : State :=
  let (held, s0) := s.holdFrames s.ex.ready
  let s1 := { s0 with ex := { s0.ex with ready := held } }
  [0, 1, 2, 3].foldl
    (fun z p => if (z.exPort p).cur.isSome then z.setExPort p { z.exPort p with stop := true } else z.setPort p 0) s1

/-- EX_CFG.EN becomes 1: the ports train, but for one that is still to go OFF; while a self-test runs the lanes stay idle (R406). -/
def State.exportOn (s : State) : State :=
  if s.flag MYB_BIST_STAT_BUSY 0 then s
  else [0, 1, 2, 3].foldl (fun z p => if (z.exPort p).stop then z else z.trainPort p) s

/-- EX_CFG written; MODE is discarded while EN is 1 (R346). -/
def State.writeExCfg (s : State) (w mask : Word) : State :=
  let on := s.flag EX_CFG_EN 0
  let m := if on then mask &&& ~~~(fieldMask 62 61) else mask
  let s1 := s.store .EX_CFG 0 w m false
  if s1.flag EX_CFG_EN 0 == on then s1 else if on then s1.exportOff else s1.exportOn

def execExportEnable (data : Word) (s : State) : Res := s.hostDoes (EX_CFG_EN.on data) (s.writeExCfg data allBits)
def execExportDisable (data : Word) (s : State) : Res := s.hostDoes (!EX_CFG_EN.on data) (s.writeExCfg data allBits)

/-- EX_STREAM written; a change is told to the partner (R379). -/
def State.writeExStream (s : State) (t : Nat) (w mask : Word) : State :=
  let s1 := s.store .EX_STREAM t w mask false
  if s1.getReg .EX_STREAM t == s.getReg .EX_STREAM t then s1 else s1.sendTenant t

/-! ### Credits (R340) -/

/-- The ENABLE bits of a stream, bit c for class c. -/
def State.creditBits (s : State) (t : Nat) : Nat := s.getF EX_CRSTAT_EN1 t * 2 + s.getF EX_CRSTAT_EN2 t * 4 + s.getF EX_CRSTAT_EN3 t * 8

/-- Class `cls` of a stream is under credit. -/
def State.underCredit (s : State) (t cls : Nat) : Bool := s.creditBits t / 2 ^ cls % 2 == 1

/-- (LIMITc − SENTc) mod 2^32. -/
def State.creditLeft (s : State) (t cls : Nat) : Nat :=
  (smGet 0 (s.stream t).limit cls + 2 ^ 32 - smGet 0 (s.stream t).sent cls) % 2 ^ 32

/-- A class-`cls` frame of `n` slots is covered. -/
def State.covers (s : State) (t cls n : Nat) : Bool :=
  !s.underCredit t cls || (decide (n ≤ s.creditLeft t cls) && decide (s.creditLeft t cls < 2 ^ 31))

/-- The credit left in units of 64 slots, saturating; 0xFFFF without credit control, and 0 where SENTc is beyond LIMITc. -/
def State.creditUnits (s : State) (t cls : Nat) : Nat :=
  if !s.underCredit t cls then 0xFFFF
  else if s.creditLeft t cls < 2 ^ 31 then satTo 16 (s.creditLeft t cls / 64) else 0

/-- EX_CRSTAT shows what is left. -/
def State.showCredit (s : State) (t : Nat) : State :=
  ((s.setF EX_CRSTAT_LEFT1 t (s.creditUnits t 1)).setF EX_CRSTAT_LEFT2 t (s.creditUnits t 2)).setF EX_CRSTAT_LEFT3 t (s.creditUnits t 3)

/-- The ENABLE bits of a stream set. -/
def State.setCreditBits (s : State) (t bits : Nat) : State :=
  ((s.setF EX_CRSTAT_EN1 t (bits / 2)).setF EX_CRSTAT_EN2 t (bits / 4)).setF EX_CRSTAT_EN3 t (bits / 8)

/-! ### The drain (R334, R335) -/

/-- The port on which a stream leaves: PORT when it is UP, else ALT when valid and UP (R332, R333). -/
def State.targetPort (s : State) (t : Nat) : Option Nat :=
  if s.portUp (s.getF EX_STREAM_PORT t) then some (s.getF EX_STREAM_PORT t)
  else if s.flag EX_STREAM_ALT_VALID t && s.portUp (s.getF EX_STREAM_ALT t) then some (s.getF EX_STREAM_ALT t)
  else none

/-- Slots of a stream and class in the export queue, not yet charged. -/
def State.pendingSlots (s : State) (t cls : Nat) : Nat :=
  (match s.openFrame t cls with | some f => f.slots | none => 0) +
    ((s.ex.ready.filter (fun f => f.tenant == t && f.cls == cls)).map (·.slots)).sum

/-- The export queue may take record `r` now: a port, room in the queue (R24), no pause, credit (R338, R340). -/
def State.mayTake (s : State) (r : Rec) : Bool :=
  match s.targetPort r.tenant with
  | none => false
  | some p => decide (s.ex.used + r.slots ≤ 1024) && !s.paused p (s.prio r.cls) &&
      s.covers r.tenant r.cls (s.pendingSlots r.tenant r.cls + r.slots)

/-- SHED3 discards class-3 records at queue heads (R343). -/
def State.shedsHead (s : State) (r : Rec) : Bool := r.cls == 3 && s.flag EX_SHSTAT_SHED3 r.tenant

/-- The class of the resident head of queue `q`, when the drain may put it into the export queue. -/
def State.offers (s : State) (q : Nat) : Option Nat :=
  if !s.served q then none
  else match s.headOf q with
    | .item r _ => if !s.shedsHead r && s.mayTake r then some r.cls else none
    | _ => none

/-- The queues that offer a record, of tenant `t`. -/
def State.offering (s : State) (t : Nat) : List Nat :=
  smKeys (fun q _ => s.getF QM_QCFG_TENANT q == t && (s.offers q).isSome) s.qm.queues

/-- The first of a list after `last`, around. -/
def nextAfter (last : Nat) (xs : List Nat) : Option Nat :=
  match xs.find? (fun x => decide (last < x)) with
  | some x => some x
  | none => xs.head?

/-- Whose turn it is: the tenant of the last take until it has had WEIGHT records, else the next that offers. -/
def State.drainTenant (s : State) : Option Nat :=
  let ts := (List.range 64).filter (fun t => !(s.offering t).isEmpty)
  if s.ex.taken < s.getF EX_STREAM_WEIGHT s.ex.turn && ts.contains s.ex.turn then some s.ex.turn else nextAfter s.ex.turn ts

/-- The queue that a tenant's turn serves: one whose head is class 0 first, then the others, in rotation. -/
def State.drainQueue (s : State) (t : Nat) : Option Nat :=
  let qs := s.offering t
  let zero := qs.filter (fun q => s.offers q == some 0)
  nextAfter (smGet 0 s.ex.lastQ t) (if zero.isEmpty then qs else zero)

/-- The slots that the served queues offer, against the room of the export queue. -/
def State.scarce (s : State) : Bool :=
  decide (1024 < s.ex.used +
    ((s.qm.queues.filter (fun e => s.served e.1)).map
      (fun e => ((e.2.cells.flatMap (·.recs)).filter (fun r => !r.gone)).map (·.slots) |>.sum)).sum)

/-- It is the turn of queue `q` (R334): the rotation decides while the room is scarce. -/
def State.drainTurn (s : State) (q : Nat) : Bool :=
  if s.scarce then (s.drainTenant.bind s.drainQueue) == some q else (s.offers q).isSome

/-- A frame closes: SHED as it stands now (R336); one that closes while EN is 0 is held (R434). -/
def State.closeFrame (s : State) (t cls : Nat) : State :=
  match s.openFrame t cls with
  | none => s
  | some f =>
    let shed := s.getF EX_SHSTAT_SHED3 t + 16 * s.getF EX_SHSTAT_D t
    let s1 := s.setOpenFrame t cls none
    { s1 with ex := { s1.ex with ready := s1.ex.ready ++ [{ f with shed := shed, held := !s.flag EX_CFG_EN 0 }] } }

/-- The open frame cannot take record `r`. -/
def ExFrame.refuses (f : ExFrame) (r : Rec) : Bool := f.epoch != r.epoch || f.gen != r.gen || decide (280 < f.slots + r.slots)

/-- Record `r` put into the open frame of its stream and class (R335). -/
def State.putFrame (s : State) (r : Rec) : State :=
  let t := r.tenant
  let prov := match s.genState t r.gen with | .final => false | _ => true
  let s1 := match s.openFrame t r.cls with
    | some f => if f.refuses r then s.closeFrame t r.cls else s
    | none => s
  let f := match s1.openFrame t r.cls with
    | some f => { f with slots := f.slots + r.slots, recs := f.recs ++ [(r, prov)] }
    | none => { tenant := t, cls := r.cls, epoch := r.epoch, gen := r.gen, slots := r.slots, born := s.rawNow, recs := [(r, prov)] }
  let s2 := s1.setOpenFrame t r.cls (some f)
  let s3 := { s2 with ex := { s2.ex with used := s2.ex.used + r.slots } }
  if f.slots == 280 then s3.closeFrame t r.cls else s3

/-- The rotations move on after a take from queue `q` of tenant `t`. -/
def State.turnOn (s : State) (t q : Nat) : State :=
  let n := if s.ex.turn == t && s.ex.taken < s.getF EX_STREAM_WEIGHT t then s.ex.taken + 1 else 1
  { s with ex := { s.ex with turn := t, taken := n, lastQ := smSet 0 s.ex.lastQ t q } }

/-- A class-3 record discarded at the head (R343). -/
def State.shedHead (s : State) (q x : Nat) (r : Rec) : State :=
  ((((s.removeRec q x false).incF EX_SHSTAT_SHED r.tenant).countBlock 10 r.slots).lose r 11 true).settleLosses

/-- The drain takes the head record of queue `q`, if its turn has come; a record that R284 discards, or that is shed, takes no turn. -/
def State.exportTake (s : State) (q : Nat) : State :=
  match s.readQueue q false false with
  | (s1, .item r x) =>
    if s1.shedsHead r then s1.shedHead q x r
    else if s1.drainTurn q then ((s1.removeRec q x false).putFrame r).turnOn r.tenant q
    else s1
  | (s1, _) => s1

def execExportTake (q : Nat) (s : State) : Res := s.event (s.served q) (s.exportTake q)

/-- FLUSH_NS have passed since the first record of the frame (R335): 16 ticks are 10.24 ns, so n ticks are 16n / 25 ns. -/
def State.flushDue (s : State) (t cls : Nat) : Bool :=
  match s.openFrame t cls with
  | some f => decide (25 * s.getF EX_CFG_FLUSH_NS 0 ≤ 16 * (s.rawNow - f.born))
  | none => false

def execFrameFlushTimeout (t cls : Nat) (s : State) : Res := s.event (s.flushDue t cls) (s.closeFrame t cls)

/-! ### Frames (R336, R337) -/

/-- Bytes per microsecond of a RATE code. -/
def rateBytes (rate : Nat) : Nat := if rate == 1 then 50000 else if rate == 2 then 100000 else if rate == 3 then 200000 else 0

/-- The allowance of classes 1 to 3 in one microsecond on port `p`. -/
def State.allowance (s : State) (p : Nat) : Nat := rateBytes (s.getF EX_PORT_RATE p) * (100 - s.getF EX_CFG_RESERVE 0) / 100

/-- The frames that the streams of port `p` would send next: a stream's held frames first, in the order of their closing (R434), else the
oldest of each class. -/
def State.heads (s : State) (p : Nat) : List ExFrame → List ExFrame → List ExFrame
  | _, [] => []
  | before, f :: fs =>
    let blocked := before.any (fun g => g.tenant == f.tenant && (g.held || g.cls == f.cls))
    (if !blocked && s.targetPort f.tenant == some p then [f] else []) ++ s.heads p (before ++ [f]) fs

/-- The frame may start on port `p` (R337): pause, credit, shaper. -/
def State.mayStart (s : State) (p : Nat) (f : ExFrame) : Bool :=
  !s.paused p (s.prio f.cls) && s.covers f.tenant f.cls f.slots &&
    (f.cls == 0 || decide ((s.exPort p).shaped < s.allowance p))

/-- The weighted round robin of class `cls` on port `p` chooses among the eligible frames. -/
def State.pickFrame (s : State) (p cls : Nat) : Option ExFrame :=
  let fs := (s.heads p [] s.ex.ready).filter (fun f => f.cls == cls && s.mayStart p f)
  let w := smGet {} (s.exPort p).rr cls
  let ts := (List.range 64).filter (fun t => fs.any (fun f => f.tenant == t))
  let t := if w.taken < s.getF EX_STREAM_WEIGHT w.tenant && ts.contains w.tenant then some w.tenant else nextAfter w.tenant ts
  t.bind (fun t => fs.find? (fun f => f.tenant == t))

/-- The next frame of port `p`: class 0 first, then 1, 2 and 3. -/
def State.chooseFrame (s : State) (p : Nat) : Option ExFrame :=
  [0, 1, 2, 3].findSome? (fun c => s.pickFrame p c)

/-- The 32-byte header (R336). -/
def State.frameHeader (s : State) (f : ExFrame) (fseq : Nat) (credits : Nat → Nat) : List Byte :=
  leBytes 1 1 ++ leBytes 1 0 ++ leBytes 2 s.blockId ++ leBytes 2 (s.getF EX_STREAM_STREAM f.tenant) ++
    leBytes 1 (f.tenant + 64 * f.cls) ++ leBytes 1 0 ++ leBytes 4 fseq ++ leBytes 4 f.gen ++ leBytes 2 f.epoch ++ leBytes 2 f.slots ++
    leBytes 1 f.shed ++ leBytes 3 0 ++ leBytes 2 0xFFFF ++ leBytes 2 (credits 1) ++ leBytes 2 (credits 2) ++ leBytes 2 (credits 3)

/-- The addresses, tag and EtherType before the header (R336). -/
def State.frameHead (s : State) (f : ExFrame) : List Byte :=
  beBytes 6 (s.getF EX_DMAC_DMAC f.tenant) ++ beBytes 6 (s.getF EX_MAC_MAC 0) ++
    (if s.flag EX_STREAM_TAG f.tenant then beBytes 2 0x8100 ++ beBytes 2 (s.prio f.cls * 8192 + s.getF EX_STREAM_VID f.tenant) else []) ++
    beBytes 2 0x88B5

/-- The wire bytes of a frame, with preamble, inter-frame gap and FCS. -/
def State.wireBytes (s : State) (f : ExFrame) : Nat := 70 + 32 * f.slots + (if s.flag EX_STREAM_TAG f.tenant then 4 else 0)

/-- Frame `f` starts on port `p`: SENTc, the shaper and the round robin move, and so does FSEQ unless the frame has its own (R336, R337,
R340, R434). -/
def State.startFrame (s : State) (p : Nat) (f : ExFrame) : State :=
  let t := f.tenant
  let y := s.stream t
  let s1 := s.setStream t { y with fseq := if f.fseq.isSome then y.fseq else y.fseq + 1, sent := smSet 0 y.sent f.cls ((smGet 0 y.sent f.cls + f.slots) % 2 ^ 32) }
  let s2 := s1.showCredit t
  let body := s.frameHead f ++ s.frameHeader f (f.fseq.getD y.fseq).toNat (fun c => s2.creditUnits t c) ++ f.recs.flatMap (fun r => r.1.bytes r.2)
  let x := s2.exPort p
  let w := smGet {} x.rr f.cls
  let n := if w.tenant == t && w.taken < s.getF EX_STREAM_WEIGHT t then w.taken + 1 else 1
  let s3 := s2.setExPort p
    { x with cur := some { frame := f, bytes := body ++ leBytes 4 (crc32 body) },
             shaped := if f.cls == 0 then x.shaped else x.shaped + s.wireBytes f,
             allowed := if f.cls == 0 then x.allowed else some (s.allowance p),
             rr := smSet {} x.rr f.cls { tenant := t, taken := n } }
  { s3 with ex := { s3.ex with used := s3.ex.used - f.slots, ready := s3.ex.ready.erase f } }

def execFrameStart (p : Nat) (s : State) : Res :=
  match s.chooseFrame p with
  | some f => s.event (s.portUp p && (s.exPort p).cur.isNone && s.flag EX_CFG_EN 0 && s.locked) (s.startFrame p f)
  | none => .next s

/-- The frame on the wire completes; a port that EN = 0 has stopped goes OFF (R434). -/
def State.endFrame (s : State) (p : Nat) (x : ExSend) : State :=
  let y := s.exPort p
  let s1 := (((s.setExPort p { y with cur := none }).emit (.exportFrame p x.bytes)).countBlock 8 1).countBlock 9 x.frame.slots
  if y.stop then s1.stopPort p else s1

def execFrameEnd (p : Nat) (s : State) : Res :=
  match (s.exPort p).cur with
  | some x => s.event true (s.endFrame p x)
  | none => .next s

/-! ### Pause and return frames (R338 to R340) -/

/-- Picoseconds of 512 bit times at a RATE code. -/
def quantumPs (rate : Nat) : Nat := if rate == 3 then 320 else if rate == 2 then 640 else 1280

/-- One priority of a PFC frame: paused for the time it states, from now. -/
def State.pausePrio (s : State) (p prio quanta : Nat) : State :=
  let y := s.exPort p
  let until_ := if quanta == 0 then 0 else s.rawNow * 640 + quanta * quantumPs (s.getF EX_PORT_RATE p)
  s.setExPort p { y with pause := smSet 0 y.pause prio until_, pausedNow := y.pausedNow || quanta != 0 }

def execPfcReceive (p : Nat) (mask : BitVec 8) (quanta : List Nat) (s : State) : Res :=
  s.event (s.portUp p && s.flag EX_PFC_PFC_EN 0)
    ([0, 1, 2, 3, 4, 5, 6, 7].foldl (fun z i => if mask.getLsbD i then z.pausePrio p i (quanta.getD i 0 % 65536) else z) s)

def execPauseExpire (p prio : Nat) (s : State) : Res :=
  let e := smGet 0 (s.exPort p).pause prio
  s.event (e != 0 && e ≤ s.rawNow * 640) (s.setExPort p { s.exPort p with pause := smSet 0 (s.exPort p).pause prio 0 })

/-- A return frame that this block accepts: version, kind, BLOCK_ID, zero reserved fields and a known STREAM (R339). -/
def State.goodReturn (s : State) (h : List Byte) : Bool :=
  h.length == 32 && leNat (h.take 1) == 1 && leNat ((h.drop 1).take 1) == 0x80 && leNat ((h.drop 2).take 2) == s.blockId &&
    leNat ((h.drop 6).take 1) &&& 0xF1 == 0 && leNat ((h.drop 7).take 5) == 0 && leNat ((h.drop 24).take 8) == 0 &&
    (List.range 64).any (fun t => s.flag EX_STREAM_VALID t && s.getF EX_STREAM_STREAM t == leNat ((h.drop 4).take 2))

/-- A return frame applied to stream `t`. -/
def State.grantStream (s : State) (t : Nat) (h : List Byte) : State :=
  let lim := fun (c : Nat) => leNat ((h.drop (8 + 4 * c)).take 4)
  let y := s.stream t
  let s1 := s.setStream t { y with limit := smSet 0 (smSet 0 (smSet 0 y.limit 1 (lim 1)) 2 (lim 2)) 3 (lim 3), crTicks := 0 }
  (s1.setCreditBits t (leNat ((h.drop 6).take 1))).showCredit t

/-- A frame discarded on an export port. -/
def State.rxDiscard (s : State) : State := s.incF EX_STAT_RX_DISCARD 0

/-- A return frame received. -/
def State.returnFrame (s : State) (dmac : Nat) (h : List Byte) : State :=
  if dmac % 2 ^ 48 == s.getF EX_MAC_MAC 0 && s.goodReturn h then
    ((List.range 64).filter (fun t => s.flag EX_STREAM_VALID t && s.getF EX_STREAM_STREAM t == leNat ((h.drop 4).take 2))).foldl
      (fun z t => z.grantStream t h) (s.incF EX_STAT_RET_FRAMES 0)
  else s.rxDiscard

def execReturnFrame (p dmac : Nat) (hdr : List Byte) (s : State) : Res := s.event (s.portUp p) (s.returnFrame dmac hdr)
def execExportRxOther (p : Nat) (s : State) : Res := s.event (s.portUp p) s.rxDiscard

/-- A stream's credit timeout has run out. -/
def State.creditDue (s : State) (t : Nat) : Bool :=
  s.creditBits t != 0 && s.getF EX_CFG_CRED_TO 0 != 0 && decide (s.getF EX_CFG_CRED_TO 0 ≤ (s.stream t).crTicks)

def State.creditTimeout (s : State) (t : Nat) : State :=
  ((s.setCreditBits t 0).showCredit t).alarm t 0x8304 0x0B03 (leBytes 2 (s.getF EX_STREAM_STREAM t) ++ leBytes 1 (s.creditBits t) ++ leBytes 9 0)

def execCreditTimeout (t : Nat) (s : State) : Res := s.event (t < 64 && s.creditDue t) (s.creditTimeout t)

/-! ### Shedding (R341) -/

/-- The pressure of tenant `t`, with the LEVEL or RESIDENT that it uses. -/
def State.pressure (s : State) (t : Nat) : Nat × Nat :=
  let cells := s.getF SP_SIZE_CELLS t
  if s.flag SP_SIZE_EN t && cells != 0 then (min 255 (s.getF SP_LEVEL_LEVEL t * 256 / cells), s.getF SP_LEVEL_LEVEL t)
  else if s.getF QT_LIMIT_LIMIT t == 0 then (255, s.getF QT_USE_RESIDENT t)
  else (min 255 (s.getF QT_USE_RESIDENT t * 256 / s.getF QT_LIMIT_LIMIT t), s.getF QT_USE_RESIDENT t)

/-- SHED3 and d of tenant `t` evaluated, with `free` cells in the pool. -/
def State.shedTenant (s : State) (free t : Nat) : State :=
  let (p, used) := s.pressure t
  let t3 := s.getF EX_SHED_T3 t
  let t2 := s.getF EX_SHED_T2 t
  let hyst := s.getF EX_SHED_HYST t
  let low3 := decide (free < s.getF EX_GSHED_FREE3 0)
  let low2 := decide (free < s.getF EX_GSHED_FREE2 0)
  let hot2 := decide (t2 ≤ p) || low2
  let cool2 := decide (p + hyst < t2) && !low2
  let was := s.flag EX_SHSTAT_SHED3 t
  let d := s.getF EX_SHSTAT_D t
  let shed3 := if decide (t3 ≤ p) || low3 then true else if decide (p + hyst < t3) && !low3 then false else was
  let y := s.stream t
  let due := match y.lastStep with | none => true | some u => decide (u + s.getF EX_SHED_STEP_US t ≤ s.us)
  let d' := if !due then d else if hot2 && d < s.getF EX_SHED_DMAX t then d + 1 else if cool2 && 0 < d then d - 1 else d
  let s1 := if d' == d then s else s.setStream t { y with lastStep := some s.us }
  let s2 := ((s1.setF EX_SHSTAT_P t p).setFlag EX_SHSTAT_SHED3 t shed3).setF EX_SHSTAT_D t d'
  if shed3 == was && d' == d then s2
  else s2.alarm t 0x8304 0x0B01
    (leBytes 1 shed3.toNat ++ leBytes 1 d' ++ leBytes 1 was.toNat ++ leBytes 1 d ++ leBytes 1 p ++ leBytes 3 0 ++ leBytes 4 used)

def execShedEvaluate (s : State) : Res :=
  s.event true ((List.range 64).foldl (fun z t => z.shedTenant (s.getF QM_POOL_FREE 0) t) s)

/-! ### The microsecond (R337, R340, R346) -/

/-- The bytes by which a port has exceeded the allowance of the microsecond that ends. -/
def ExPort.overshoot (y : ExPort) : Nat := match y.allowed with
  | some n => y.shaped - n
  | none => 0

/-- Port `p` at a tick of the microsecond clock: PAUSED_US, and a new allowance, from which the bytes are taken by which the frames started in the
last microsecond exceed its allowance (R337). -/
def State.portMicro (s : State) (p : Nat) : State :=
  let y := s.exPort p
  let still := y.pause.any (fun e => e.2 != 0)
  let s1 := if y.pausedNow || still then s.incF EX_PORT_PAUSED_US p else s
  s1.setExPort p { y with shaped := y.overshoot, allowed := none, pausedNow := still }

/-- Streams under credit count the tick. -/
def State.creditMicro (s : State) (t : Nat) : State :=
  if s.creditBits t == 0 then s else s.setStream t { s.stream t with crTicks := (s.stream t).crTicks + 1 }

/-- What the export unit does at a tick of the microsecond clock. -/
def State.exportMicro (s : State) : State :=
  (List.range 64).foldl (fun z t => z.creditMicro t) ([0, 1, 2, 3].foldl (fun z p => z.portMicro p) s)

end Sys2Proof.Machine
end

