-- ==== Sys2Proof/Machine/ImagoMath.lean ====
section
/-! DEFINITION. The arithmetic of the imago units: formats, tensor descriptors and the results of each operation, tile by tile (R349 to
R353, R362). -/

namespace Sys2Proof.Machine

/-! ### Formats (R349, R350) -/

def fp16 : FFormat := { man := 10, exp := 5 }

/-- Bits of an element. -/
def fmtBits (k : Nat) : Nat :=
  if k == 0 || k == 11 then 32 else if k == 1 || k == 2 then 16 else if k == 8 || k == 9 then 6 else if k == 10 then 4 else 8

/-- The MX formats. -/
def fmtMx (k : Nat) : Bool := decide (6 ≤ k) && decide (k ≤ 10)

/-- The six-bit and four-bit MX elements, which have neither infinity nor NaN (OCP MX v1.0). -/
def decodeSmall (man exp code : Nat) : FVal :=
  let bias : Nat := 2 ^ (exp - 1) - 1
  let neg := code / 2 ^ (man + exp) % 2 == 1
  let e := code / 2 ^ man % 2 ^ exp
  let m := code % 2 ^ man
  if e == 0 then .fin neg m (1 - (bias : Int) - man) else .fin neg (2 ^ man + m) ((e : Int) - bias - man)

/-- What an element of a floating-point format stands for. -/
def elemVal (k code : Nat) : FVal :=
  if k == 0 then fread (BitVec.ofNat 32 code)
  else if k == 1 then bf16.decode code
  else if k == 2 then fp16.decode code
  else if k == 3 || k == 6 then e4m3.decode code
  else if k == 4 || k == 7 then e5m2.decode code
  else if k == 8 then decodeSmall 2 3 code
  else if k == 9 then decodeSmall 3 2 code
  else decodeSmall 1 2 code

/-- The code of element `i` of packed elements of `bits` bits, lower elements in lower bits. -/
def elemCode (bits : Nat) (data : List Byte) (i : Nat) : Nat :=
  leNat ((data.drop (i * bits / 8)).take 5) / 2 ^ (i * bits % 8) % 2 ^ bits

/-- The smallest multiple of 64 not below `n`. -/
def up64 (n : Nat) : Nat := (n + 63) / 64 * 64

/-- Bytes of an operand's elements. -/
def elemBytes (k rows cols : Nat) : Nat := (rows * cols * fmtBits k + 7) / 8

/-- Bytes of an operand, scales included. -/
def operandBytes (k rows cols : Nat) : Nat :=
  if fmtMx k then up64 (elemBytes k rows cols) + rows * (cols / 32) else elemBytes k rows cols

/-- Element (r, c) of an operand of `rows` rows of `cols` elements, with its scale (R350). -/
def operandVal (k rows cols : Nat) (data : List Byte) (r c : Nat) : FVal :=
  let v := elemVal k (elemCode (fmtBits k) data (r * cols + c))
  if fmtMx k then
    let s := ((data.drop (up64 (elemBytes k rows cols) + r * (cols / 32) + c / 32)).headD 0).toNat
    if s == 255 then .nan else v.mul (.fin false 1 ((s : Int) - 127))
  else v

/-- An FP32 value in a result format (R351): for BF16 and FP16, which R135 does not name, an overflow gives an infinity, or the largest
value with SAT. -/
def toFormat (k : Nat) (sat : Bool) (a : BitVec 32) : Nat :=
  if k == 0 then a.toNat
  else if k == 1 then
    (if sat then bf16.encode 0x7F7F 0x7F7F (fToBf a).toNat (fread a) else (fToBf a).toNat)
  else if k == 2 then
    let x := Config.nanBits 3 a
    let top := if sat then 0x7BFF else 0x7C00
    fp16.encode top top (x % 2 * 32768 + 0x7C00 + (1 + x / 2 % 1023)) (fread a)
  else if k == 3 then (fToE4 sat a).toNat
  else (fToE5 sat a).toNat

/-! ### Descriptors (R352) -/

/-- A tensor descriptor's fields; `clean` says that every field marked zero is zero. -/
structure Desc where
  op : Nat
  fmtA : Nat
  fmtB : Nat
  fmtC : Nat
  func : Nat
  accum : Bool
  sat : Bool
  evalStart : Bool
  after : Bool
  model : Nat
  m : Nat
  k : Nat
  n : Nat
  aStore : Bool
  aOfs : Nat
  bStore : Bool
  bOfs : Nat
  cOfs : Nat
  param : Nat
  clean : Bool
  deriving DecidableEq, Repr

/-- The field of `n` bytes at byte `p` of a descriptor whose bytes from 8 on are given. -/
def descField (d : List Byte) (p n : Nat) : Nat := leNat ((d.drop (p - 8)).take n)

/-- The descriptor that bytes 8 to 63 spell. -/
def parseDesc (d : List Byte) : Desc :=
  let op := descField d 8 1
  let fl := descField d 12 1
  let a := descField d 24 8
  let b := descField d 32 8
  let c := descField d 40 8
  { op := op, fmtA := descField d 9 1 % 16, fmtB := descField d 9 1 / 16, fmtC := descField d 10 1 % 16, func := descField d 11 1,
    accum := fl % 2 == 1, sat := fl / 2 % 2 == 1, evalStart := fl / 4 % 2 == 1, after := fl / 8 % 2 == 1,
    model := descField d 13 1 % 4, m := descField d 16 2, k := descField d 18 2, n := descField d 20 4,
    aStore := a / 2 ^ 63 == 1, aOfs := a % 2 ^ 32, bStore := b / 2 ^ 63 == 1, bOfs := b % 2 ^ 32, cOfs := c % 2 ^ 32,
    param := descField d 48 8,
    clean := descField d 10 1 / 16 == 0 && fl / 16 == 0 && descField d 13 1 / 4 == 0 && descField d 14 2 == 0 &&
      a / 2 ^ 32 % 2 ^ 31 == 0 && b / 2 ^ 32 % 2 ^ 31 == 0 && c / 2 ^ 32 == 0 && descField d 56 8 == 0 &&
      (op == 2 || op == 3 || descField d 11 1 == 0) }

/-- ELTWISE uses its operand B. -/
def Desc.usesB (d : Desc) : Bool := d.op == 1 || (d.op == 2 && (d.func == 0 || d.func == 1 || d.func == 7))

/-- The first check of R355: OP, FUNC, formats and zero fields. FMT_B must be a permitted code where the operation has no B too. -/
def Desc.opcodeOk (d : Desc) : Bool :=
  let plain := fun (k : Nat) => decide (k ≤ 4)
  let mat := fun (k : Nat) => decide (1 ≤ k) && decide (k ≤ 10) && k != 5
  d.clean &&
    (if d.op == 1 then
      (if d.fmtA == 5 || d.fmtB == 5 then d.fmtA == 5 && d.fmtB == 5 && (d.fmtC == 11 || d.fmtC == 0)
       else mat d.fmtA && mat d.fmtB && plain d.fmtC)
     else if d.op == 2 then decide (d.func ≤ 7) && plain d.fmtA && plain d.fmtB && plain d.fmtC
     else if d.op == 3 then decide (d.func ≤ 4) && plain d.fmtA && plain d.fmtB && d.fmtC == 0
     else if d.op == 4 then plain d.fmtA && plain d.fmtB && d.fmtC == 0
     else d.op == 5 && d.fmtA == 0 && d.fmtB == 0 && d.fmtC == 0)

/-- A dimension in its range. -/
def dimOk (x hi : Nat) : Bool := decide (1 ≤ x) && decide (x ≤ hi)

/-- The second check: M, K, N and the block rule, for the dimensions that the operation uses. -/
def Desc.shapeOk (d : Desc) : Bool :=
  if d.op == 1 then dimOk d.m 4096 && dimOk d.k 8192 && dimOk d.n 4096 && (d.k % 32 == 0 || !(fmtMx d.fmtA || fmtMx d.fmtB))
  else if d.op == 2 || d.op == 3 then dimOk d.m 4096 && dimOk d.n 4096
  else if d.op == 4 then d.m == 1 && dimOk d.n 65536 && dimOk (d.param % 128) 64
  else dimOk d.m 256

/-- The third check: A, B and C, whether or not the operation uses them. -/
def Desc.alignOk (d : Desc) : Bool := d.aOfs % 64 == 0 && d.bOfs % 64 == 0 && d.cOfs % 64 == 0

/-- Columns of A. -/
def Desc.aCols (d : Desc) : Nat := if d.op == 1 then d.k else d.n

/-- Bytes of A, B and C. -/
def Desc.aBytes (d : Desc) : Nat := if d.op == 5 then 16 * d.m else operandBytes d.fmtA d.m d.aCols
def Desc.bBytes (d : Desc) : Nat := if d.op == 1 then operandBytes d.fmtB d.n d.k else operandBytes d.fmtB d.m d.n
def Desc.cBytes (d : Desc) : Nat :=
  if d.op == 3 then 4 * d.m else if d.op == 4 then 8 * (d.param % 128) else if d.op == 5 then 0
  else elemBytes d.fmtC d.m d.n

/-! ### MATMUL (R351) -/

/-- The exact sum of products of columns `c` to `c + n − 1`. -/
def dotExact (a b : Nat → FVal) (c : Nat) : Nat → FVal
  | 0 => .fin false 0 0
  | 1 => (a c).mul (b c)
  | n + 1 => ((a c).mul (b c)).add (dotExact a b (c + 1) n)

/-- The FP32 accumulation over the aligned blocks of K. -/
def dotBlocks (a b : Nat → FVal) (k : Nat) : Nat → Nat → BitVec 32 → BitVec 32
  | 0, _, acc => acc
  | fuel + 1, c, acc =>
    if k ≤ c then acc
    else
      let part := fwrite (dotExact a b c (min 32 (k - c)))
      dotBlocks a b k fuel (c + 32) (fAdd acc part)

/-- An INT8 element. -/
def int8 (data : List Byte) (i : Nat) : Int := (data.getD i 0).toInt

/-- The exact integer dot product of INT8 rows. -/
def dotInt (a b : List Byte) (i j : Nat) : Nat → Int
  | 0 => 0
  | n + 1 => int8 a i * int8 b j + dotInt a b (i + 1) (j + 1) n

/-- Saturation to INT32. -/
def sat32 (v : Int) : Int := max (-2147483648) (min 2147483647 v)

/-- One element of C, from the operands' bytes and the old bytes of C. -/
def matElem (d : Desc) (a b c : List Byte) (i j : Nat) : List Byte :=
  let old := elemCode (fmtBits d.fmtC) c (i * d.n + j)
  if d.fmtA == 5 then
    let base : Int := if !d.accum then 0 else if d.fmtC == 11 then (BitVec.ofNat 32 old).toInt
      else sat32 (fToInt (BitVec.ofNat 32 old)).toInt
    let v := sat32 (base + dotInt a b (i * d.k) (j * d.k) d.k)
    leBytes 4 (if d.fmtC == 11 then (BitVec.ofInt 32 v).toNat else (fOfInt v).toNat)
  else
    let base : BitVec 32 := if d.accum then fwrite (elemVal d.fmtC old) else 0
    let v := dotBlocks (operandVal d.fmtA d.m d.k a i) (operandVal d.fmtB d.n d.k b j) d.k (d.k / 32 + 1) 0 base
    leBytes (fmtBits d.fmtC / 8) (toFormat d.fmtC d.sat v)

/-! ### The table-driven functions (R353)

A result lies within a relative error of 2^-14 of the exact value or within an absolute error of 2^-24, whichever is larger. Values here
are fixed-point integers with 160 fractional bits, within about 2^-150 of the exact ones. -/

/-- One, and the constants ln 2 and 2 × √(2 ÷ π), in fixed point. -/
def fxOne : Int := 2 ^ 160
def fxLn2 : Int := 1013035739299659071135698605846798551586536899366
def fxGelu : Int := 2332219184028872162936766921774799528781383630017

/-- The series of e^r by Horner's rule: `n` terms from the term `i` on. -/
def fxSeries (r : Int) : Nat → Nat → Int
  | 0, _ => fxOne
  | n + 1, i => fxOne + r * fxSeries r n (i + 1) / (fxOne * (i : Int))

/-- e^x for |x| below 256. -/
def fxExp (x : Int) : Int :=
  let k := x / fxLn2
  let t := fxSeries (x - k * fxLn2) 48 1
  if 0 ≤ k then t * 2 ^ k.toNat else t / 2 ^ (-k).toNat

/-- 1 ÷ (1 + e^-x); for |x| of 256 or more the term e^-|x| is taken as zero. -/
def fxSigmoid (x : Int) : Int :=
  let a := if x < 0 then -x else x
  let u := if a < 256 * fxOne then fxExp (-a) else 0
  (if x < 0 then u else fxOne) * fxOne / (fxOne + u)

/-- The tanh form of GELU, x ÷ 2 × (1 + tanh(√(2 ÷ π) × (x + 0.044715 × x³))), for |x| below 16. PRESUMED: the constant of the tanh form, which
the manual does not write out. -/
def fxGeluTanh (x : Int) : Int :=
  let cube := x * x / fxOne * x / fxOne
  let v := fxGelu * (x + 44715 * cube / 1000000) / fxOne
  x * fxSigmoid v / fxOne

/-- The exact value of EXP (0), SIGMOID (1) or GELU (2) at `x`; `none` for an EXP above every FP32 value. -/
def fxTable (k : Nat) (x : Int) : Option Int :=
  if k == 0 then (if 256 * fxOne ≤ x then none else if x ≤ -256 * fxOne then some 0 else some (fxExp x))
  else if k == 1 then some (fxSigmoid x)
  else if 16 * fxOne ≤ x then some x else if x ≤ -16 * fxOne then some 0 else some (fxGeluTanh x)

/-- A value within R353's bound of the exact value `y`. -/
def fxWithin (v : FVal) (y : Int) : Bool :=
  match v with
  | .fin n m e =>
    let a : Int := y.natAbs
    decide (16384 * ((signedAt n m e (-160) - y).natAbs : Int) ≤ max a (2 ^ 150) + a / 2 ^ 120 + 2 ^ 30)
  | _ => false

/-- The exact value of EXP (0), SIGMOID (1) or GELU (2) at an infinity: a finite one, an infinity, or for GELU at minus infinity none that the
form gives. -/
def tableAtInf (k : Nat) (neg : Bool) : Option FVal :=
  if k == 2 && neg then none
  else if k != 1 && !neg then some (.inf false)
  else some (.fin false (if neg then 0 else 1) 0)

/-- A value of FP32 that keeps R353's bound of the exact value `y` where one does: the nearest, or the largest finite one of its sign where the
nearest is infinite. -/
def tableNear (y : Int) : BitVec 32 :=
  let near := fwrite (.fin (decide (y < 0)) y.natAbs (-160))
  if fxWithin (fread near) y then near else BitVec.ofNat 32 (fp32.sign (decide (y < 0)) + 0x7F7FFFFF)

/-- The result of a table-driven function: a free value that keeps R353's bound. It is free altogether where the operand is a NaN, where the
form gives no value (GELU at minus infinity), or where no FP32 value keeps the bound. -/
def tableResult (k : Nat) (x : BitVec 32) : BitVec 32 :=
  let free := fwrite (fread (Config.tableFunction k x))
  match fread x with
  | .fin n m e =>
    match fxTable k (signedAt n m e (-160)) with
    | none => free
    | some y => if fxWithin (fread free) y || !fxWithin (fread (tableNear y)) y then free else tableNear y
  | .inf neg =>
    match tableAtInf k neg with
    | some (.fin n m e) =>
      if fxWithin (fread free) (signedAt n m e (-160)) then free else fwrite (.fin n m e)
    | some v => fwrite v
    | none => free
  | _ => free

/-! ### ELTWISE, REDUCE and TOPK (R353) -/

/-- One FP32 result of ELTWISE; sums and products of exact operands are rounded once each. -/
def eltVal (d : Desc) (x y : FVal) : BitVec 32 :=
  let al := BitVec.ofNat 32 d.param
  let be := BitVec.ofNat 32 (d.param / 2 ^ 32)
  if d.func == 0 then fwrite (x.add y)
  else if d.func == 1 then fwrite (x.mul y)
  else if d.func == 2 then fAdd (fwrite ((fread al).mul x)) be
  else if d.func == 3 then tableResult 0 (fwrite x)
  else if d.func == 4 then tableResult 1 (fwrite x)
  else if d.func == 5 then tableResult 2 (fwrite x)
  else if d.func == 6 then fPick true (fwrite x) 0
  else fPick true (fwrite x) (fwrite y)

/-- Element `i` of an ELTWISE result. -/
def eltElem (d : Desc) (a b : List Byte) (i : Nat) : List Byte :=
  let x := elemVal d.fmtA (elemCode (fmtBits d.fmtA) a i)
  let y := if d.usesB then elemVal d.fmtB (elemCode (fmtBits d.fmtB) b i) else .fin false 0 0
  leBytes (fmtBits d.fmtC / 8) (toFormat d.fmtC d.sat (eltVal d x y))

/-- An FP32 value divided by a natural number, rounded once. -/
def fDivNat (a : BitVec 32) (n : Nat) : BitVec 32 :=
  match fread a with
  | .fin neg m e =>
    let q := m * 2 ^ 64 / n
    fwrite (.fin neg (2 * q + (if m * 2 ^ 64 % n = 0 then 0 else 1)) (e - 65))
  | v => fwrite v

/-- The REDUCE of one row, given as FP32 values. -/
def reduceRow (func : Nat) (xs : List (BitVec 32)) : BitVec 32 :=
  let ys := if func == 4 then xs.map (fun x => fMul x x) else xs
  let f := fun (a b : BitVec 32) => if func == 1 then fPick true a b else if func == 2 then fPick false a b else fAdd a b
  let r := match ys with
    | [] => 0
    | y :: rest => rest.foldl f y
  if func == 3 then fDivNat r ys.length else r

/-- Row `r` of a REDUCE. -/
def reduceElem (d : Desc) (a : List Byte) (r : Nat) : List Byte :=
  leBytes 4 (reduceRow d.func ((List.range d.n).map
    (fun c => fwrite (elemVal d.fmtA (elemCode (fmtBits d.fmtA) a (r * d.n + c)))))).toNat

/-- TOPK ranks `x` before `y` of a higher index. -/
def ranksFirst (x y : BitVec 32) : Bool :=
  let u := fread x
  let v := fread y
  if v.isNan then true else if u.isNan then false else !u.lt v

/-- A value with a lower index than every listed one, put in its place in a descending list. -/
def topInsert (x : BitVec 32 × Nat) : List (BitVec 32 × Nat) → List (BitVec 32 × Nat)
  | [] => [x]
  | y :: ys => if ranksFirst x.1 y.1 then x :: y :: ys else y :: topInsert x ys

/-- The result of TOPK. -/
def topk (d : Desc) (a : List Byte) : List Byte :=
  let xs := (List.range d.n).map (fun i => (fwrite (elemVal d.fmtA (elemCode (fmtBits d.fmtA) a i)), i))
  let sorted := xs.foldr topInsert []
  let k := d.param % 128
  (List.range k).flatMap (fun i => match sorted[i]? with
    | some (v, j) => leBytes 4 v.toNat ++ leBytes 4 j
    | none => leBytes 4 0x7FC00000 ++ leBytes 4 0xFFFFFFFF)

/-! ### Tiles (R362) -/

/-- Tiles of a launch; TOPK and VERDICT have one. -/
def Desc.tiles (d : Desc) : Nat :=
  if d.op == 1 then ((d.m + 63) / 64) * ((d.n + 63) / 64)
  else if d.op == 2 then (d.m * d.n + 4095) / 4096
  else if d.op == 3 then (d.m + 63) / 64
  else 1

/-- The bytes of A and of B, from their beginnings, that tile `t` reads; an MX operand's scales lie behind all of its elements. -/
def Desc.tileNeeds (d : Desc) (t : Nat) : Nat × Nat :=
  let lead := fun (k rows cols whole : Nat) => if fmtMx k then whole else elemBytes k rows cols
  if d.op == 1 then
    let across := (d.n + 63) / 64
    (lead d.fmtA (min d.m (64 * (t / across) + 64)) d.k d.aBytes, lead d.fmtB (min d.n (64 * (t % across) + 64)) d.k d.bBytes)
  else if d.op == 2 then
    let n := min (d.m * d.n) (4096 * t + 4096)
    (elemBytes d.fmtA 1 n, if d.usesB then elemBytes d.fmtB 1 n else 0)
  else if d.op == 3 then (elemBytes d.fmtA (min d.m (64 * t + 64)) d.n, 0)
  else (d.aBytes, 0)

/-- How many tiles from `t` on, one after the other, find what they read in the leading bytes `a` and `b` of the operands. -/
def Desc.tilesReady (d : Desc) (a b : List Byte) (t : Nat) : Nat :=
  ((List.range (d.tiles - t)).takeWhile (fun i =>
    decide ((d.tileNeeds (t + i)).1 ≤ a.length) && decide ((d.tileNeeds (t + i)).2 ≤ b.length))).length

/-- What tile `t` writes: offsets in C and bytes. -/
def Desc.tileWrites (d : Desc) (a b c : List Byte) (t : Nat) : List (Nat × List Byte) :=
  let w := fmtBits d.fmtC / 8
  if d.op == 1 then
    let across := (d.n + 63) / 64
    let i0 := 64 * (t / across)
    let j0 := 64 * (t % across)
    (List.range (min 64 (d.m - i0))).map (fun i =>
      (((i0 + i) * d.n + j0) * w, (List.range (min 64 (d.n - j0))).flatMap (fun j => matElem d a b c (i0 + i) (j0 + j))))
  else if d.op == 2 then
    [(4096 * t * w, (List.range (min 4096 (d.m * d.n - 4096 * t))).flatMap (fun i => eltElem d a b (4096 * t + i)))]
  else if d.op == 3 then
    [(256 * t, (List.range (min 64 (d.m - 64 * t))).flatMap (fun r => reduceElem d a (64 * t + r)))]
  else if d.op == 4 then [(0, topk d a)]
  else []

end Sys2Proof.Machine
end

