-- ==== Sys2Proof/Machine/Imago.lean ====
section
/-! DEFINITION. The imago units: launches, the weight store and models (R347, R348, R352 to R363). -/

namespace Sys2Proof.Machine

/-! ### Launch queues (R356) -/

/-- The launches of tenant `t` that have not completed, oldest first. -/
def State.launches (s : State) (t : Nat) : List Launch := smGet [] s.imago.queues t

/-- That replaced; QUEUED follows. -/
def State.setLaunches (s : State) (t : Nat) (xs : List Launch) : State :=
  ({ s with imago := { s.imago with queues := smSet [] s.imago.queues t xs } }).setF IM_TSTAT_QUEUED t xs.length

/-- The launch `x` of tenant `t` replaced by `y`. Two launches may bear one ticket, one of them restored, so that it is the record that counts. -/
def State.setLaunch (s : State) (t : Nat) (x y : Launch) : State := s.setLaunches t ((s.launches t).replace x y)

/-- The model slot `m` of tenant `t`, as the index of its registers. -/
def hm (t m : Nat) : Nat := 4 * t + m

def State.model (s : State) (t m : Nat) : Model := smGet {} s.imago.models (hm t m)
def State.setModel (s : State) (t m : Nat) (x : Model) : State :=
  { s with imago := { s.imago with models := smSet {} s.imago.models (hm t m) x } }

/-- STATE of a model: 0 EMPTY, 1 LOADING, 2 RESIDENT, 3 STREAMED, 4 FAULTED. -/
def State.modelState (s : State) (t m : Nat) : Nat := s.getF HM_CTL_STATE (hm t m)

/-- TLAUNCH (R160, R352, R356). -/
def execTlaunch (c : Nat) (f : FmtT) (s : State) : Res :=
  s.issueT c 0x2F f (f.rb != 0 || f.ctl != 0) (fun s1 =>
    let a := ((s1.ctx c).gr f.ra).toNat
    let t := s1.tenantOf c
    if a % 64 != 0 then .trap 0x0003 a s1
    else if !s1.inScratch c a 64 then .trap 0x0004 a s1
    else if 16 ≤ (s1.launches t).length then s1.status c f false
    else
      let k := (s1.getF IM_TSTAT_TICKET t + 1) % 2 ^ 32
      let ticket := if k == 0 then 1 else k
      let s2 := (s1.setF IM_TSTAT_TICKET t ticket).setLaunches t
        (s1.launches t ++ [{ ticket := ticket, ctx := c, at_ := a, desc := s1.scrBytes c (a + 8) 56 }])
      (s2.countBlock 14 1).result c f (BitVec.ofNat 64 ticket) true)

/-! ### Starting (R355, R356, R360) -/

/-- The launch that unit `u` (0 to 3, or 4 for the health unit) runs, with its tenant. -/
def State.running? (s : State) (u : Nat) : Option (Nat × Launch) :=
  s.imago.queues.findSome? (fun e => (e.2.find? (fun x => x.unit == some u)).map (fun x => (e.1, x)))

/-- The evaluation of model `m` may start (R360): 2 raw ticks are 1.28 ns, so PERIOD_US are 3,125 / 2 ticks each. -/
def State.paceOk (s : State) (t m : Nat) : Bool :=
  match (s.model t m).lastStart with
  | none => true
  | some r => decide (3125 * s.getF HM_CTL_PERIOD_US (hm t m) ≤ 2 * (s.rawNow - r))

/-- The launch of tenant `t` that would start next, when unit `u` may start it. -/
def State.startable (s : State) (u t : Nat) : Option Launch :=
  match (s.launches t).find? (fun x => x.unit.isNone) with
  | none => none
  | some x =>
    let d := parseDesc x.desc
    let first := (s.launches t).head? == some x
    if s.getF TN_STATUS_STATE t == 1 && (d.op == 5) == (u == 4) &&
        (x.begun || ((!d.after || first) && (!d.evalStart || s.paceOk t d.model))) then some x
    else none

/-- The weight of a tenant in the rotation of the units: SHARE, with 0 counting as 16 (R356, R358). -/
def State.imagoShare (s : State) (t : Nat) : Nat := if s.getF IM_TCFG_SHARE t == 0 then 16 else s.getF IM_TCFG_SHARE t

/-- The tenant whose launch unit `u` takes next. -/
def State.nextTenant (s : State) (u : Nat) : Option Nat :=
  let ts := (List.range 64).filter (fun t => (s.startable u t).isSome)
  let w := smGet {} s.imago.rr u
  if w.taken < s.imagoShare w.tenant && ts.contains w.tenant then some w.tenant else nextAfter w.tenant ts

/-- A launch reads model weights. -/
def Desc.readsStore (d : Desc) : Bool := d.op != 5 && (d.aStore || (d.usesB && d.bStore))

/-- The first failing check of R355, as the ERROR of R354, or 0. -/
def State.launchError (s : State) (t : Nat) (x : Launch) : Nat :=
  let d := parseDesc x.desc
  let inStore := fun (ofs n : Nat) => decide (ofs + n ≤ (s.model t d.model).wkib * 1024)
  let loaded := [1, 2, 3].contains (s.modelState t d.model)
  if !d.opcodeOk then 1
  else if !d.shapeOk then 2
  else if !d.alignOk then 7
  else if (d.op == 5 && d.aStore) || (!d.aStore && !s.inScratch x.ctx d.aOfs d.aBytes) ||
      (d.usesB && !d.bStore && !s.inScratch x.ctx d.bOfs d.bBytes) || (d.op != 5 && !s.inScratch x.ctx d.cOfs d.cBytes) then 3
  else if d.readsStore && !loaded then 4
  else if (d.aStore && !inStore d.aOfs d.aBytes) || (d.usesB && d.bStore && !inStore d.bOfs d.bBytes) then 3
  else 0

/-- A unit is free again after a launch (R373). -/
def State.freeUnit (s : State) (u : Option Nat) (counts : Bool) : State :=
  match u with
  | some u =>
    if u < 4 then
      let s1 := (s.setFlag IM_UNIT_BUSY u false).setF IM_UNIT_TENANT u 0
      if counts then s1.incF IM_UNIT_LAUNCHES u else s1
    else s
  | none => s

/-- The launch `x` completes: STATUS, its place in the queue, its unit (R354). -/
def State.endLaunch (s : State) (t : Nat) (x : Launch) (err : Nat) : State :=
  let unit := match x.unit with | some u => if u < 4 then u else 255 | none => 255
  let bytes := leBytes 1 (if err == 0 then 2 else 3) ++ leBytes 1 err ++ leBytes 1 unit ++ leBytes 1 0 ++ leBytes 4 x.ticket
  let s1 := (s.scrWrite x.ctx x.at_ bytes).setLaunches t ((s.launches t).erase x)
  let s2 := if err == 0 then s1 else s1.incF IM_TSTAT_ERRORS t
  s2.freeUnit x.unit true

/-- The descriptor of a launch reads the model of a streamed slot: its stream runs (R359). -/
def State.weightStream (s : State) (t : Nat) (d : Desc) : Bool := d.readsStore && s.modelState t d.model == 3

/-- The ranges of its model's weights that a launch reads, A before B: its stream has a descriptor for each (R359). -/
def Desc.ranges (d : Desc) : List (Nat × Nat) :=
  (if d.aStore then [(d.aOfs, d.aBytes)] else []) ++ (if d.usesB && d.bStore then [(d.bOfs, d.bBytes)] else [])

/-- The descriptor of stream WEIGHTSm that fetches range `r` of the weights of a streamed model. -/
def State.rangeDesc (s : State) (t m : Nat) (r : Nat × Nat) : StreamDesc := { src := (s.model t m).waddr + r.1, dst := 0, len := r.2 }

/-- A descriptor of stream WEIGHTSm put in place, or its end. -/
def State.setStreamDesc (s : State) (t m : Nat) (d : Option StreamDesc) : State :=
  { s with imago := { s.imago with streams := smSet none s.imago.streams (hm t m) d } }

/-- The stream starts on the first range that a launch reads. -/
def State.fetchNext (s : State) (t : Nat) (d : Desc) : State := match d.ranges with
  | r :: _ => (s.setStreamDesc t d.model (some (s.rangeDesc t d.model r))).startStream t (3 + d.model)
  | [] => s

/-- Unit `u` starts launch `x` of tenant `t`. -/
def State.startLaunch (s : State) (u t : Nat) (x : Launch) : State :=
  let d := parseDesc x.desc
  let w := smGet {} s.imago.rr u
  let n := if w.tenant == t && w.taken < s.imagoShare t then w.taken + 1 else 1
  let s1 := { s with imago := { s.imago with rr := smSet {} s.imago.rr u { tenant := t, taken := n } } }
  let s2 := if d.evalStart && !x.begun then s1.setModel t d.model { s1.model t d.model with lastStart := some s.rawNow } else s1
  let y := { x with unit := some u, begun := true }
  let s3 := s2.setLaunch t x y
  let s4 := if u < 4 then (s3.setFlag IM_UNIT_BUSY u true).setF IM_UNIT_TENANT u t else s3
  let err := s4.launchError t y
  if err != 0 then s4.endLaunch t y err
  else if s4.weightStream t d && s4.dsState t (3 + d.model) == 0 then s4.fetchNext t d
  else s4

/-- LAUNCH_START: a free unit takes the next startable launch of the tenants. -/
def execLaunchStart (u : Nat) (s : State) : Res :=
  match s.nextTenant u with
  | none => .next s
  | some t => match s.startable u t with
    | none => .next s
    | some x => s.event (u ≤ 4 && (s.running? u).isNone && !(u < 4 && s.flag IM_UNIT_MAPPED_OUT u)) (s.startLaunch u t x)

/-! ### Weight streams (R309, R311, R359) -/

/-- `n` units of 64 bytes from `va` on that stream for tenant `t`: what can be read, and the cause and address of a fault. -/
def State.streamed (s : State) (t va : Nat) : Nat → List Byte × Option (Nat × Nat)
  | 0 => ([], none)
  | n + 1 => match s.xlRead t va 64 false with
    | .error e => ([], some (e, va))
    | .ok bs => match s.streamed t (va + 64) n with
      | (rest, x) => (bs ++ rest, x)

/-- The descriptor of stream WEIGHTSm: the restored one or a launch's range of a streamed model, else the copy of the slot's model. -/
def State.streamDesc (s : State) (t m : Nat) : StreamDesc :=
  let x := s.model t m
  (smGet none s.imago.streams (hm t m)).getD { src := x.waddr, dst := 65536 * x.first, len := x.wkib * 1024 }

/-- POS of stream WEIGHTSm. -/
def State.weightPos (s : State) (t m : Nat) : Nat := s.getF DS_STAT_POS (ds t (3 + m))

/-- The descriptor writes store units of the slot's own model; a restored one may name others, and its bytes then go nowhere. -/
def State.ownUnits (s : State) (t m : Nat) (d : StreamDesc) : Bool :=
  let x := s.model t m
  decide (65536 * x.first ≤ d.dst) && decide (d.dst + d.len ≤ 65536 * (x.first + x.count))

/-- The copy of stream WEIGHTSm goes on from POS until it passes byte `n` of its descriptor, or stalls (R310, R359). -/
def State.copyTo (s : State) (t m n : Nat) : State :=
  let d := s.streamDesc t m
  let pos := s.weightPos t m
  let (bs, fault) := s.streamed t (d.src + pos) ((min n d.len - pos + 63) / 64)
  let s1 := if s.ownUnits t m d then { s with imago := { s.imago with store := memWrite s.imago.store (d.dst + pos) bs } } else s
  match fault with
  | some (cause, va) => s1.stallStream t (3 + m) cause va (va - d.src)
  | none => s1.setF DS_STAT_POS (ds t (3 + m)) (min d.len (pos + bs.length))

/-! ### Running (R351 to R354, R359) -/

/-- The end of what a launch reads of its model's weights. -/
def Desc.storeEnd (d : Desc) : Nat :=
  max (if d.aStore then d.aOfs + d.aBytes else 0) (if d.usesB && d.bStore then d.bOfs + d.bBytes else 0)

/-- How many bytes of the range `r` of a launch's weights its stream has fetched: those before POS of its descriptor, or all when it has come to a
later range. -/
def State.fetched (s : State) (t : Nat) (d : Desc) (r : Nat × Nat) : Nat :=
  let sd := s.streamDesc t d.model
  if sd == s.rangeDesc t d.model r then s.weightPos t d.model
  else if ((d.ranges.dropWhile (· != r)).drop 1).any (fun q => sd == s.rangeDesc t d.model q) then r.2
  else 0

/-- The leading bytes of an operand that are at hand, and a fault of its stream. The weights of a LOADING model are there as far as the copy
has come, and those of a STREAMED one whose stream does not run as far as it has fetched them. -/
def State.operand (s : State) (t : Nat) (x : Launch) (store : Bool) (ofs n : Nat) : List Byte × Option (Nat × Nat) :=
  let d := parseDesc x.desc
  let y := s.model t d.model
  if !store then (s.scrBytes x.ctx ofs n, none)
  else if s.modelState t d.model == 3 then
    let (bs, fault) := s.streamed t (y.waddr + ofs) ((n + 63) / 64)
    (if s.dsState t (3 + d.model) == 1 then bs else bs.take (s.fetched t d (ofs, n)), fault)
  else (memBytes s.imago.store (65536 * y.first + ofs) (if s.modelState t d.model == 1 then min n (s.weightPos t d.model - ofs) else n), none)

/-- Tiles `t0` to `t0 + n − 1` of a launch written. -/
def State.writeTiles (s : State) (x : Launch) (a b : List Byte) (t0 n : Nat) : State :=
  let d := parseDesc x.desc
  let c := s.scrBytes x.ctx d.cOfs d.cBytes
  ((List.range n).flatMap (fun i => d.tileWrites a b c (t0 + i))).foldl (fun z w => z.scrWrite x.ctx (d.cOfs + w.1) w.2) s

/-- The operands A and B as far as they are at hand, and the first fault. -/
def State.operands (s : State) (t : Nat) (x : Launch) : List Byte × List Byte × Option (Nat × Nat) :=
  let d := parseDesc x.desc
  let (a, fa) := s.operand t x d.aStore d.aOfs d.aBytes
  let (b, fb) := if d.usesB then s.operand t x d.bStore d.bOfs d.bBytes else ([], none)
  (a, b, match fa with | some e => some e | none => fb)

/-- A running MATMUL, ELTWISE or REDUCE stops partway: some number of its further tiles, which the manual does not fix, has been written, of
those whose operands are at hand (R354, R362). -/
def State.stopPartway (s : State) (t : Nat) (x : Launch) : State × Launch :=
  let d := parseDesc x.desc
  if [1, 2, 3].contains d.op then
    let (a, b, _) := s.operands t x
    let (w, s1) := s.draw
    let n := w.toNat % (d.tilesReady a b x.tile + 1)
    (s1.writeTiles x a b x.tile n, { x with tile := x.tile + n })
  else (s, x)

/-- The running launches of tenant `t` that read model `m` end with an ERROR (R359, R372). -/
def State.strikeModel (s : State) (t m err : Nat) (partway : Bool) : State :=
  let hit := (s.launches t).filter (fun x => x.unit.isSome && (parseDesc x.desc).readsStore && (parseDesc x.desc).model == m)
  hit.foldl (fun z x =>
    (if partway then (z.stopPartway t x).1 else z).endLaunch t x err) s

/-- The launch waits: the copy of its LOADING model has not passed its range, or its stream does not run (R359). -/
def State.launchWaits (s : State) (t : Nat) (d : Desc) : Bool :=
  d.readsStore && ((s.modelState t d.model == 1 && decide (s.weightPos t d.model < d.storeEnd)) ||
    (s.modelState t d.model == 3 && s.dsState t (3 + d.model) != 1))

/-- The copy of a LOADING model, while it runs, comes to pass the range of a launch. -/
def State.passCopy (s : State) (t : Nat) (d : Desc) : State :=
  if d.readsStore && s.modelState t d.model == 1 && s.dsState t (3 + d.model) == 1 && decide (s.weightPos t d.model < d.storeEnd) then
    s.copyTo t d.model d.storeEnd
  else s

/-- A running launch of tenant `t` that reads the weights of model `m`. -/
def State.reader (s : State) (t m : Nat) : Option Launch :=
  (s.launches t).find? (fun x => x.unit.isSome && (parseDesc x.desc).readsStore && (parseDesc x.desc).model == m)

/-- The stream of a streamed model has completed the descriptors of launch `d`: POS counts the bytes of the last (R309). It rests, or turns to
another launch that reads the model. -/
def State.restStream (s : State) (t : Nat) (d : Desc) : State :=
  if !s.weightStream t d then s
  else match s.reader t d.model with
    | none => (s.setStreamDesc t d.model none).completeStream t (3 + d.model) ((d.ranges.getLast?).getD (0, 0)).2
    | some y =>
      let e := parseDesc y.desc
      if e.ranges.any (fun r => s.streamDesc t d.model == s.rangeDesc t d.model r) then s else s.fetchNext t e

/-- The stream of a streamed model stalls at `va` in the range of launch `d` that holds it: POS counts the bytes before it in that descriptor
(R309, R310). -/
def State.stallFetch (s : State) (t : Nat) (d : Desc) (cause va : Nat) : State :=
  let base := (s.model t d.model).waddr
  let r := (d.ranges.find? (fun r => decide (base + r.1 ≤ va) && decide (va < base + r.1 + r.2))).getD (0, 0)
  (s.setStreamDesc t d.model (some (s.rangeDesc t d.model r))).stallStream t (3 + d.model) cause va (va - base - r.1)

/-- An imago launch completes: its results, then STATUS; a fault of its stream stalls the stream instead (R310, R354). -/
def State.finishLaunch (s : State) (t : Nat) (x : Launch) : State :=
  let d := parseDesc x.desc
  match s.operands t x with
  | (_, _, some (cause, va)) => s.stallFetch t d cause va
  | (a, b, none) => ((s.writeTiles x a b x.tile (d.tiles - x.tile)).endLaunch t x 0).restStream t d

/-- The cycles that unit `u` may give tenant `t` in this microsecond: D, or what a cut has left, and the tenant's share of it (R348, R356,
R412). -/
def State.unitCycles (s : State) (u t : Nat) : Nat :=
  s.imago.further.getD (s.getF IM_UNIT_DUTY u) * s.imagoShare t / 16

/-- LAUNCH_COMPLETE. A unit that has no cycle for the launch in this microsecond pauses it. A launch that reads a LOADING model completes when
the running copy has passed its range, so the copy is taken up to there (log entry 98, DEDUCED). -/
def execLaunchComplete (u : Nat) (s : State) : Res :=
  match s.running? u with
  | none => .next s
  | some (t, x) =>
    let d := parseDesc x.desc
    if u == 4 then s.event (d.m ≤ x.entry) (s.endLaunch t x 0)
    else s.event (s.unitCycles u t != 0)
      (let s1 := s.passCopy t d
       if s1.launchWaits t d then s1 else s1.finishLaunch t x)

/-! ### The weight store and models (R357 to R361) -/

/-- Unit `i` of the weight store is free in tenant `t`'s range, slot `m` aside. -/
def State.wsFree (s : State) (t m i : Nat) : Bool :=
  let base := s.getF IM_TCFG_WS_BASE t
  decide (base ≤ i) && decide (i < base + s.getF IM_TCFG_WS_LEN t) &&
    !([0, 1, 2, 3].any (fun k => k != m && decide ((s.model t k).first ≤ i) && decide (i < (s.model t k).first + (s.model t k).count)))

/-- The first place of `n` free units in tenant `t`'s range. -/
def State.wsPlace (s : State) (t m n : Nat) : Option Nat :=
  (List.range (s.getF IM_TCFG_WS_LEN t)).map (s.getF IM_TCFG_WS_BASE t + ·) |>.find?
    (fun a => (List.range n).all (fun j => s.wsFree t m (a + j)))

/-- need_us of R358; `none` is infinite. -/
def State.needUs (s : State) (t wkib work : Nat) (streamed : Bool) : Option Nat :=
  let units := s.getF MYB_CAPS_IMAGO_OK 0
  let d := min 1600 (1600 * (s.getF PW_ALLOC_IMAGO 0 * 125) / 22000)
  let wbw := s.getF IM_TCFG_WBW t
  if units == 0 || d == 0 || (streamed && wbw == 0) then none
  else some (max (cdiv (work * 16) (units * d * s.imagoShare t)) (if streamed then cdiv (wkib * 1024) (wbw * 1000) else 0))

/-- PERIOD_US and REDUCED from need_us and TARGET_US. -/
def State.showPeriod (s : State) (i : Nat) (need : Option Nat) (target : Nat) : State :=
  let period := match need with | some n => max target n | none => 2 ^ 32 - 1
  (s.setF HM_CTL_PERIOD_US i (satTo 32 period)).setFlag HM_CTL_REDUCED i (match need with | some n => decide (target < n) | none => true)

/-- A command of a model slot ends, with a REASON or 0 (R359). -/
def State.modelDone (s : State) (t m reason : Nat) : State := (s.setF HM_CTL_REASON (hm t m) reason).setFlag HM_CTL_DONE (hm t m) true

/-- LOAD (R358). HM_WADDR holds address bits [47:16] alone, so the check of reason ALIGN cannot fail. -/
def State.loadModel (s : State) (t m : Nat) : State :=
  let i := hm t m
  let st := s.modelState t m
  let wkib := s.getF HM_WORK_WKIB i
  let work := s.getF HM_WORK_WORK i
  let units := cdiv wkib 64
  let place := s.wsPlace t m units
  let need := s.needUs t wkib work place.isNone
  let limit := s.getF HM_CAD_LIMIT_US i
  let target := s.getF HM_CAD_TARGET_US i
  if st != 0 && st != 4 then s.modelDone t m 1
  else if wkib == 0 || 524288 < wkib then s.modelDone t m 3
  else if (match need with | some n => decide (limit < n) | none => true) then s.modelDone t m 4
  else
    let x : Model := { first := place.getD 0, count := if place.isSome then units else 0, waddr := s.getF HM_WADDR_ADDR i * 65536,
                       wkib := wkib, work := work, target := target, limit := limit, lastStart := (s.model t m).lastStart }
    let s1 := (((s.setStreamDesc t m none).setModel t m x).showPeriod i need target).setFlag HM_CTL_UNDERRUN i false
    if place.isSome then ((s1.setF HM_CTL_STATE i 1).setF HM_CTL_REASON i 0).startStream t (3 + m)
    else (s1.setF HM_CTL_STATE i 3).modelDone t m 0

/-- A slot becomes EMPTY; its store units are free. -/
def State.emptyModel (s : State) (t m : Nat) : State :=
  let i := hm t m
  let s1 := (((s.setStreamDesc t m none).setModel t m { lastStart := (s.model t m).lastStart }).setF HM_CTL_STATE i 0).setF HM_CTL_PERIOD_US i 0
  let s2 := (s1.setFlag HM_CTL_REDUCED i false).setFlag HM_CTL_UNDERRUN i false
  if s2.dsState t (3 + m) == 0 then s2 else s2.endStream t (3 + m) 2

/-- UNLOAD (R359, R372). For an EMPTY slot no row is listed: only DONE is set (R19). -/
def State.unloadModel (s : State) (t m : Nat) : State :=
  if s.modelState t m == 0 then s.setFlag HM_CTL_DONE (hm t m) true
  else ((s.strikeModel t m 4 false).emptyModel t m).modelDone t m 0

/-- HM_CTL written: DONE is cleared before a command of the same write sets it (R12); LOAD comes before UNLOAD (R20), and beside a LOAD
an UNLOAD of a model that is EMPTY when the write arrives has no effect (R19). -/
def State.writeHmCtl (s : State) (i : Nat) (w mask : Word) : State :=
  let t := i / 4
  let m := i % 4
  let s1 := s.store .HM_CTL i w mask false
  let s2 := if HM_CTL_LOAD.cmd w mask then s1.loadModel t m else s1
  if HM_CTL_UNLOAD.cmd w mask && !(HM_CTL_LOAD.cmd w mask && s.modelState t m == 0) then s2.unloadModel t m else s2

def execModelLoad (t m : Nat) (s : State) : Res := s.hostDoes (t < 64 && m < 4) (s.writeHmCtl (hm t m) (putBits 0 63 63 1) allBits)
def execModelUnload (t m : Nat) (s : State) : Res := s.hostDoes (t < 64 && m < 4) (s.writeHmCtl (hm t m) (putBits 0 62 62 1) allBits)

/-- The copy of a LOADING model's weights ends, or its stream stalls; a stream that a migration has restored for a slot in another state, and
one of a STREAMED model whose launch has been stopped, come to the end of their descriptor alone. -/
def State.copyModel (s : State) (t m : Nat) : State :=
  let s1 := s.copyTo t m (s.streamDesc t m).len
  if s1.dsState t (3 + m) == 2 then s1
  else
    let s2 := (s1.setStreamDesc t m none).endStream t (3 + m) 1
    if s.modelState t m == 1 then (s2.setF HM_CTL_STATE (hm t m) 2).modelDone t m 0 else s2

def execModelCopyComplete (t m : Nat) (s : State) : Res :=
  s.event (t < 64 && m < 4 && !(s.modelState t m == 3 && (s.reader t m).isSome) && s.dsState t (3 + m) == 1) (s.copyModel t m)

/-- A loaded model faults with cause 5 STREAM or 6 MEMERR (R359, R361). -/
def State.faultModel (s : State) (t m cause : Nat) : State :=
  let loading := s.modelState t m == 1
  let s1 := (s.strikeModel t m cause true).setF HM_CTL_STATE (hm t m) 4
  let s2 := if cause == 5 then s1.setModel t m { s1.model t m with first := 0, count := 0 } else s1
  let s3 := if loading then s2.modelDone t m cause else s2.setF HM_CTL_REASON (hm t m) cause
  s3.alarm t 0x830C 0x0C02 (leBytes 1 m ++ leBytes 1 cause ++ leBytes 10 0)

def execWeightStoreMemerr (t m : Nat) (s : State) : Res :=
  s.event (t < 64 && m < 4 && s.modelState t m == 2) (s.faultModel t m 6)

/-- A WEIGHTS stream is abandoned (R310, R359). -/
def State.abandonWeights (s : State) (t m : Nat) : State :=
  let st := s.modelState t m
  let s1 := if st == 1 || st == 3 then s.faultModel t m 5 else s
  (s1.setStreamDesc t m none).endStream t (3 + m) 2

/-- The period of one loaded model recomputed (R358). -/
def State.recompute (s : State) (t m : Nat) : State :=
  let i := hm t m
  let st := s.modelState t m
  if [1, 2, 3].contains st then
    let x := s.model t m
    let need := s.needUs t x.wkib x.work (st == 3)
    let over_ := match need with | some n => decide (x.limit < n) | none => true
    let s1 := s.showPeriod i need x.target
    if over_ == s.flag HM_CTL_UNDERRUN i then s1
    else (s1.setFlag HM_CTL_UNDERRUN i over_).alarm t 0x830C 0x0C01
      (leBytes 1 m ++ leBytes 1 over_.toNat ++ leBytes 2 0 ++ leBytes 4 (satTo 32 (need.getD (2 ^ 32 - 1))) ++ leBytes 4 x.limit)
  else s

def execCadenceRecompute (s : State) : Res :=
  s.event true ((List.range 256).foldl (fun z i => z.recompute (i / 4) (i % 4)) s)

/-- IM_TCFG written: the discards of R357. -/
def State.writeImTcfg (s : State) (t : Nat) (w mask : Word) : State :=
  let new := storeFields false w mask Reg.IM_TCFG.fields (s.getReg .IM_TCFG t)
  let base := IM_TCFG_WS_BASE.of new
  let len := IM_TCFG_WS_LEN.of new
  let busy := [0, 1, 2, 3].any (fun m => s.modelState t m != 0)
  let meets := (List.range 64).any (fun u => u != t &&
    decide (base < s.getF IM_TCFG_WS_BASE u + s.getF IM_TCFG_WS_LEN u) && decide (s.getF IM_TCFG_WS_BASE u < base + len) &&
    decide (0 < len) && decide (0 < s.getF IM_TCFG_WS_LEN u))
  let keepRange := busy || decide (256 < base + len) || meets
  let sum := (((List.range 64).filter (· != t)).map (fun u => s.getF IM_TCFG_WBW u)).sum
  let keepBw := decide (256 < sum + IM_TCFG_WBW.of new)
  let m1 := if keepRange then mask &&& ~~~(fieldMask 59 43) else mask
  let m2 := if keepBw then m1 &&& ~~~(fieldMask 42 34) else m1
  s.store .IM_TCFG t w m2 false

/-! ### Map-out, pre-emption and reset (R362, R363) -/

/-- The running launches of tenant `t` stop at a tile boundary, a waiting one where it is; TOPK and VERDICT run to completion with their own
commands. -/
def State.stopLaunches (s : State) (t : Nat) : State :=
  ((s.launches t).filter (fun x => x.unit.isSome && [1, 2, 3].contains (parseDesc x.desc).op)).foldl
    (fun z x =>
      let (z1, y) := z.stopPartway t x
      if (parseDesc y.desc).tiles ≤ y.tile then z1.endLaunch t x 0
      else (z1.setLaunch t x { y with unit := none }).freeUnit y.unit false) s

/-- Some launch of tenant `t` that runs to completion still runs. -/
def State.launchesRun (s : State) (t : Nat) : Bool := (s.launches t).any (fun x => x.unit.isSome)

/-- Imago unit `u` is mapped out: its launch goes on elsewhere from its last completed tile, a TOPK from its start (R363). -/
def State.mapOutImago (s : State) (u : Nat) : State :=
  if s.flag IM_UNIT_MAPPED_OUT u then s
  else
    let s1 := match s.running? u with
      | some (t, x) =>
        let (z, y) := s.stopPartway t x
        (z.setLaunch t x { y with unit := none }).freeUnit (some u) false
      | none => s
    (s1.setFlag IM_UNIT_MAPPED_OUT u true).lowerCaps .imago u

/-- A tenant reset discards the launches and empties the model slots (R363). -/
def State.resetImago (s : State) (t : Nat) : State :=
  let s1 := (s.launches t).foldl (fun z x => z.freeUnit x.unit false) s
  [0, 1, 2, 3].foldl (fun z m => z.emptyModel t m) (s1.setLaunches t [])

end Sys2Proof.Machine
end

