-- ==== Sys2Proof/Machine/Health.lean ====
section
/-! DEFINITION. Verdicts, the expulsion governor, leases and liveness (R364 to R372). -/

namespace Sys2Proof.Machine

/-! ### The home table -/

/-- The partner owns home entry `i` and this block has not taken it over: a standby entry (R374, R386). In OFF there is no partner. -/
def State.standby (s : State) (i : Nat) : Bool :=
  s.pairState != 0 && s.arrBit .PR_OWN i && !s.arrBit .PR_TAKEN i

/-- Home entry `i` is valid. -/
def State.homeValid (s : State) (i : Nat) : Bool := s.flag HT_ADDR_VALID i

/-- The tenant of home entry `i`. -/
def State.homeTenant (s : State) (i : Nat) : Nat := s.getF HT_ADDR_TENANT i

/-- The HOME message of entry `i` (R379); `written` says that it tells of a write to the entry. -/
def State.homeMsg (s : State) (i : Nat) (written : Bool) : MirMsg :=
  .home i (s.getReg .HT_ADDR i) (s.getReg .HT_CRED i) (s.getF LS_ENT_STATE i) (s.getF LS_ENT_JOB_VIEW i) (s.getF LS_ENT_EXPEL_SENT i) written

/-- A change of entry `i`'s liveness is sent to the partner. -/
def State.sendHome (s : State) (i : Nat) : State := s.sendMir (s.homeMsg i false)

/-- A write to entry `i` is sent to the partner (R375). -/
def State.sendWritten (s : State) (i : Nat) : State := s.sendMir (s.homeMsg i true)

/-- Liveness of entry `i` (R368): 0 OFF, 1 ALIVE, 2 SUSPECT_DEAD, 3 DISPUTED, 4 DEAD. A change is told to the partner. -/
def State.liveness (s : State) (i : Nat) : Nat := s.getF LS_ENT_STATE i

def State.setLiveness (s : State) (i st : Nat) : State :=
  if s.liveness i == st then s else (s.setF LS_ENT_STATE i st).sendHome i

/-- What has changed of entry `i`'s liveness since `old` is told to the partner: STATE, JOB_VIEW, EXPEL_SENT (R379, R382). -/
def State.sendChange (s old : State) (i : Nat) : State :=
  if s.liveness i == old.liveness i && s.getF LS_ENT_JOB_VIEW i == old.getF LS_ENT_JOB_VIEW i &&
      s.getF LS_ENT_EXPEL_SENT i == old.getF LS_ENT_EXPEL_SENT i then s
  else s.sendHome i

/-! ### VERDICT records (R366) -/

/-- The tenant interrupt of the health unit, when HL_TEN.IRQ is 1. -/
def State.healthIrq (s : State) (t : Nat) : State := if s.flag HL_TEN_IRQ t then s.raiseTenant t IRQ_TCAUSE_HEALTH else s

/-- What a VERDICT record says beside its accelerator. -/
structure VerdictIn where
  verdict : Nat
  req : Nat
  lease : Bool
  flags : Nat
  model : Nat
  score : Nat
  phase : Nat
  pass : Nat
  advice : Nat
  deriving DecidableEq, Repr

/-- A VERDICT record about entry `i` for tenant `t`, and its interrupt. -/
def State.formVerdict (s : State) (t i : Nat) (v : VerdictIn) : State :=
  let two := v.verdict == 1 || v.verdict == 4
  let p := leBytes 1 i ++ leBytes 1 v.verdict ++ leBytes 1 v.req ++ leBytes 1 v.lease.toNat ++ leBytes 1 v.flags ++ leBytes 1 v.model ++
    leBytes 2 (s.getF LS_ENT_MISSES i) ++ leBytes 4 v.score ++ leBytes 4 v.phase ++
    (if two then leBytes 4 v.pass ++ leBytes 2 v.advice ++ leBytes 2 (s.getF GV_SPARE_SPARE t) ++ leBytes 8 (s.getF GV_LEVEL_LEVEL t) ++ leBytes 16 0
     else [])
  let s1 := s.form (s.unitRec 0x40 (if two then 2 else 1) 1 t (if v.lease then 0x830D else 0x830C) p)
  if v.verdict == 0 then s1 else s1.healthIrq t

/-- A VERDICT of the lease monitor: SUSPECT with score 1.0, or OK with 0.0. -/
def State.leaseVerdict (s : State) (i : Nat) (suspect : Bool) : State :=
  let v := if suspect then 2 else 0
  s.formVerdict (s.homeTenant i) i
    { verdict := v, req := v, lease := true, flags := 0, model := 0, score := if suspect then 0x3F800000 else 0, phase := 0xFFFFFFFF,
      pass := 0, advice := 0 }

/-- A DISPUTE record (R369). -/
def State.formDispute (s : State) (i blockView jobView : Nat) : State :=
  let p := leBytes 1 i ++ leBytes 1 blockView ++ leBytes 1 jobView ++ leBytes 1 (s.getF LS_ENT_MISSES i) ++ leBytes 4 0 ++
    leBytes 8 (smGet 0 s.leases.stamps i)
  (s.form (s.unitRec 0x41 1 1 (s.homeTenant i) 0x830D p)).healthIrq (s.homeTenant i)

/-! ### The governor (R370, R371) -/

/-- governor_passes of R370: 0 passes, 1 refused for SPARE, 2 refused for TOKENS; a CAP of 0 downgrades every EXPEL. -/
def State.governor (s : State) (t : Nat) : State × Nat :=
  if s.getF GV_SPARE_SPARE t < s.getF GV_CFG_FLOOR t then (s.incF GV_SPARE_SUPPRESSED t, 1)
  else if s.getF GV_CFG_CAP t == 0 || decide (s.getF GV_LEVEL_LEVEL t < 2 ^ 32) then (s.incF GV_SPARE_SUPPRESSED t, 2)
  else
    let s1 := ((s.decF GV_LEVEL_LEVEL t (2 ^ 32)).decF GV_SPARE_SPARE t 1).incF GV_SPARE_PASSED t
    (if s1.flag PR_TEN_GOV_MIRROR t then s1.sendMir (.govCharge t 1 (min 1 (s.getF GV_SPARE_SPARE t))) else s1, 0)

/-- The refill of one tenant's bucket. -/
def State.refill (s : State) (t : Nat) : State :=
  let cap := s.getF GV_CFG_CAP t * 2 ^ 32
  s.setF GV_LEVEL_LEVEL t (min cap (s.getF GV_LEVEL_LEVEL t + cap / (s.getF GV_CFG_WINDOW_S t * 1000)))

/-- GOVERNOR_REFILL, each millisecond; the partner hears the state of every bucket (R379). -/
def execGovernorRefill (s : State) : Res :=
  s.event true ((List.range 64).foldl
    (fun z t =>
      let z1 := z.refill t
      z1.sendMir (.govState t (z1.getF GV_LEVEL_LEVEL t) (z1.getF GV_SPARE_SPARE t))) s)

/-- GV_LEVEL written: never above CAP × 2^32. -/
def State.writeGvLevel (s : State) (t : Nat) (w mask : Word) : State :=
  let s1 := s.store .GV_LEVEL t w mask false
  s1.setF GV_LEVEL_LEVEL t (min (s1.getF GV_LEVEL_LEVEL t) (s1.getF GV_CFG_CAP t * 2 ^ 32))

def execGvLevelWrite (t : Nat) (data : Word) (s : State) : Res := s.hostDoes true (s.writeGvLevel t data allBits)

/-! ### VERDICT launches (R364, R365) -/

/-- A score from 0.0 to 1.0. -/
def scoreOk (code : Nat) : Bool := decide (code ≤ 0x3F800000) || code == 0x80000000

/-- Entry `e` (16 bytes) of a VERDICT launch of tenant `t`, which names `d.model`, phase and pass. -/
def State.treatEntry (s : State) (t : Nat) (d : Desc) (e : List Byte) : State :=
  let at_ := fun (p n : Nat) => leNat ((e.drop p).take n)
  let i := at_ 0 1
  let req := at_ 2 1
  let score := at_ 4 4
  let advice := at_ 8 2
  if req == 7 then s
  else if 4 < req || at_ 1 1 != 0 || at_ 3 1 != 0 || at_ 10 6 != 0 || 1024 < advice || !scoreOk score || !s.homeValid i ||
      s.homeTenant i != t then s.incF HL_TEN_SKIPPED t
  else if s.liveness i == 3 || s.liveness i == 4 then s.incF HL_TEN_WITHHELD t
  else
    let again := req == 3 && s.flag LS_ENT_EXPEL_SENT i
    let (s1, why) := if req == 3 && !again then s.governor t else (s, 0)
    let v := if why == 0 then req else 4
    let s2 := if req == 3 && why == 0 && !again then (s1.setFlag LS_ENT_EXPEL_SENT i true).sendHome i else s1
    let s3 := if s2.flag HL_TEN_ALL t || v != 0 || s2.getF LS_ENT_LAST i != 0 then
        s2.formVerdict t i
          { verdict := v, req := req, lease := false, flags := (if why != 0 then 1 else 0) + (if why == 2 then 2 else 0) + (if again then 4 else 0),
            model := d.model, score := score, phase := d.param % 2 ^ 21, pass := d.param / 2 ^ 32, advice := advice }
      else s2
    s3.setF LS_ENT_LAST i v

/-- The health unit treats the next entry of the VERDICT launch that it runs for tenant `t`. -/
def execVerdictEntry (t : Nat) (s : State) : Res :=
  match (s.launches t).find? (fun x => x.unit == some 4) with
  | none => .next s
  | some x =>
    let d := parseDesc x.desc
    s.event (x.entry < d.m)
      ((s.treatEntry t d (s.scrBytes x.ctx (d.aOfs + 16 * x.entry) 16)).setLaunch t x { x with entry := x.entry + 1 })

/-! ### Leases and liveness (R367, R368) -/

/-- Entry `i` is written with VALID = 1: ALIVE, with MISSES 0, EXPEL_SENT 0, LAST OK and JOB_VIEW ALIVE. -/
def State.leaseAlive (s : State) (i : Nat) : State :=
  let s1 := ((s.setF LS_ENT_MISSES i 0).setFlag LS_ENT_EXPEL_SENT i false).setF LS_ENT_LAST i 0
  (s1.setF LS_ENT_JOB_VIEW i 1).setLiveness i 1

/-- A TRACE packet accepted for entry `i` renews its lease (R214, R367). -/
def State.renew (s : State) (i : Nat) : State :=
  if s.flag LS_CFG_EN 0 && s.homeValid i && !s.standby i then
    let s1 := { s with leases := { s.leases with renewed := smSet false s.leases.renewed i true, stamps := smSet 0 s.leases.stamps i s.shortNow } }
    let s2 := (s1.setF LS_ENT_MISSES i 0).incF LS_ENT_RENEWALS i
    if s2.liveness i == 2 then (s2.setLiveness i 1).leaseVerdict i false else s2
  else s

/-- No renewal of entry `i` counts for the present period any more. -/
def State.clearRenewed (s : State) (i : Nat) : State :=
  { s with leases := { s.leases with renewed := smSet false s.leases.renewed i false } }

/-- The period of entry `i` ends; an entry without a lease has no renewal to carry on. -/
def State.endLease (s : State) (i : Nat) : State :=
  if !s.homeValid i || s.standby i || smGet false s.leases.renewed i then s.clearRenewed i
  else
    let n := satTo 8 (s.getF LS_ENT_MISSES i + 1)
    let s1 := s.setF LS_ENT_MISSES i n
    if s1.liveness i == 1 && s1.getF LS_CFG_MISS_MAX 0 ≤ n then (s1.setLiveness i 2).leaseVerdict i true else s1

/-- A lease period ends for every entry. -/
def execLeasePeriodEnd (s : State) : Res :=
  s.event (s.flag LS_CFG_EN 0 && s.getF LS_CFG_PERIOD_US 0 ≤ s.leases.ticks)
    ((List.range 256).foldl (fun z i => z.endLease i) { s with leases := { s.leases with ticks := 0 } })

/-- LS_CFG written. With EN = 0 no lease is kept, so that the first period after EN is set again begins with it and has no renewal yet (DEDUCED,
log entry 31). -/
def State.writeLsCfg (s : State) (w mask : Word) : State :=
  let s1 := s.store .LS_CFG 0 w mask false
  if s1.flag LS_CFG_EN 0 then s1 else { s1 with leases := { s1.leases with ticks := 0, renewed := [] } }

/-- A tick of the microsecond clock. -/
def State.leaseMicro (s : State) : State :=
  if s.flag LS_CFG_EN 0 then { s with leases := { s.leases with ticks := s.leases.ticks + 1 } } else s

/-- The job's view of entry `i`: 1 ALIVE, 2 DEAD (R368). -/
def State.view (s : State) (i v : Nat) : State :=
  let st := s.liveness i
  if v == 0 || v == 3 || st == 0 then s
  else
    let s1 := s.setF LS_ENT_JOB_VIEW i v
    if st == 1 && v == 2 then (s1.setLiveness i 3).formDispute i 1 2
    else if st == 2 && v == 1 then (s1.setLiveness i 3).formDispute i 2 1
    else if st == 2 then s1.setLiveness i 4
    else if s1.getReg .LS_ENT i == s.getReg .LS_ENT i then s1 else s1.sendHome i

/-- The host's decision on entry `i`. -/
def State.decide_ (s : State) (i v : Nat) : State :=
  let st := s.liveness i
  if v == 1 && (st == 3 || st == 4) then ((s.setF LS_ENT_MISSES i 0).setF LS_ENT_JOB_VIEW i 1).setLiveness i 1
  else if v == 2 && st == 3 then (s.setF LS_ENT_JOB_VIEW i 2).setLiveness i 4
  else s

/-- LS_ENT written: the view, then the decision, which acts only on an entry that is DISPUTED or DEAD when the write arrives (R19). -/
def State.writeLsEnt (s : State) (i : Nat) (w mask : Word) : State :=
  let s1 := s.view i (LS_ENT_VIEW.of (w &&& mask))
  if 3 ≤ s.liveness i then s1.decide_ i (LS_ENT_DECIDE.of (w &&& mask)) else s1

def execLsView (i : Nat) (data : Word) (s : State) : Res := s.hostDoes (LS_ENT_VIEW.of data != 0) (s.writeLsEnt i data allBits)
def execLsDecide (i : Nat) (data : Word) (s : State) : Res := s.hostDoes (LS_ENT_DECIDE.of data != 0) (s.writeLsEnt i data allBits)

/-- A tenant reset revives its disputed and dead entries (R368). -/
def State.reviveHomes (s : State) (t : Nat) : State :=
  (List.range 256).foldl
    (fun z i => if z.homeValid i && z.homeTenant i == t && 3 ≤ z.liveness i then
        ((z.setF LS_ENT_MISSES i 0).setF LS_ENT_JOB_VIEW i 1).setLiveness i 1 else z) s

end Sys2Proof.Machine
end

