-- ==== Sys2Proof/Machine/Loader.lean ====
section
/-! DEFINITION. Grants of contexts and gates (R97, R98), the loader (R100 to R102) and the host's side of the mailboxes (R120, R121). -/

namespace Sys2Proof.Machine

/-! ### Grants -/

/-- A context leaves its tenant (R98, R103): OFF, image invalid, its mask bit clear, no wait and no dependence. -/
def State.turnOff (s : State) (t c : Nat) : State :=
  let s1 := (s.setCtx c { s.ctx c with dep := none, wait := .none, latch := none }).setSkip c none
  let s2 := (s1.setF CX_STATUS_STATE c 0).setFlag CX_STATUS_IMAGE_VALID c false
  let s3 := ((s2.setFlag CX_STATUS_DEP c false).setF CX_STATUS_TENANT c 0).setF CX_STATUS_PRIOR c 0
  let i := 4 * t + c / 64
  s3.setReg .TN_CTX_MASK i (putBits (s3.getReg .TN_CTX_MASK i) (c % 64) (c % 64) 0)

/-- Context `c` granted to tenant `t`: IDLE (R98). -/
def State.grant (s : State) (t c : Nat) : State :=
  let s1 := (s.setF CX_STATUS_STATE c 1).setF CX_STATUS_TENANT c t
  let i := 4 * t + c / 64
  s1.setReg .TN_CTX_MASK i (putBits (s1.getReg .TN_CTX_MASK i) (c % 64) (c % 64) 1)

/-- A context in IDLE, HALTED or TRAPPED. -/
def State.resting (s : State) (c : Nat) : Bool := s.cxState c == 1 || s.cxState c == 5 || s.cxState c == 6

/-- One bit of a TN_CTX_MASK write. -/
def State.maskBit (s : State) (t c : Nat) (set : Bool) : State :=
  let held := bitOf (s.getReg .TN_CTX_MASK (4 * t + c / 64)) (c % 64)
  if set && !held && s.cxState c == 0 then s.grant t c
  else if !set && held && s.resting c then s.turnOff t c
  else s

/-- The first `n` bits of a TN_CTX_MASK write that are addressed. -/
def State.maskBits (s : State) (t i : Nat) (w mask : Word) : Nat → State
  | 0 => s
  | n + 1 =>
    let s1 := s.maskBits t i w mask n
    if bitOf mask n then s1.maskBit t (64 * i + n) (bitOf w n) else s1

/-- TN_CTX_MASKi of tenant `t` written (R98). -/
def State.writeCtxMask (s : State) (t i : Nat) (w mask : Word) : State := s.maskBits t i w mask 64

def execCtxMaskWrite (t i : Nat) (data : Word) (s : State) : Res :=
  s.hostDoes (decide (t < 64) && decide (i < 4)) (s.writeCtxMask t i data allBits)

/-- STATE of tenant `t`: 0 FREE, 1 ACTIVE, 2 PREEMPTING, 3 PREEMPTED, 4 TORN, 5 RESTORING, 6 RESETTING, 7 HELD. -/
def State.tnState (s : State) (t : Nat) : Nat := s.getF TN_STATUS_STATE t

/-- The gate range of `t` meets that of another tenant. -/
def State.gatesMeet (s : State) (t base count : Nat) : Bool :=
  (List.range 64).any (fun u => u != t && s.getF TN_GATES_COUNT u != 0 &&
    decide (base < s.getF TN_GATES_BASE u + s.getF TN_GATES_COUNT u) && decide (s.getF TN_GATES_BASE u < base + count))

/-- TN_GATES written (R97): discarded whole unless the tenant is FREE, the range fits and overlaps no other. -/
def State.writeGates (s : State) (t : Nat) (w mask : Word) : State :=
  let s1 := s.store .TN_GATES t w mask false
  let base := s1.getF TN_GATES_BASE t
  let count := s1.getF TN_GATES_COUNT t
  if s.tnState t != 0 || decide (4096 < base + count) || (count != 0 && s.gatesMeet t base count) then s else s1

def execTnGatesWrite (t : Nat) (data : Word) (s : State) : Res := s.hostDoes (decide (t < 64)) (s.writeGates t data allBits)

/-! ### Layout (R91) -/

/-- The scratch range of a context in units: base and length. -/
def State.scrRange (s : State) (c : Nat) : Nat × Nat := (s.getF CX_CFG_SCR_BASE c, s.getF CX_CFG_SCR_LEN c)

/-- The instruction range of a context in units. -/
def State.imemRange (s : State) (c : Nat) : Nat × Nat := (s.getF CX_CFG_IMEM_BASE c, s.getF CX_CFG_IMEM_LEN c)

/-- Two ranges overlap. -/
def overlap (a b : Nat × Nat) : Bool := decide (a.1 < b.1 + b.2) && decide (b.1 < a.1 + a.2)

/-- Two ranges of one core may stand together: they do not overlap, or they are identical and of one tenant. -/
def rangesOk (sameTenant : Bool) (a b : Nat × Nat) : Bool := !overlap a b || (sameTenant && a == b)

/-- The ranges of context `c` lie in its core's memories and stand with those of the other granted contexts of the core (R91). -/
def State.layoutOk (s : State) (c : Nat) : Bool :=
  let a := s.scrRange c
  let b := s.imemRange c
  decide (a.1 + a.2 ≤ 64) && decide (b.1 + b.2 ≤ 32) &&
    ((List.range 4).map (4 * coreOf c + ·)).all (fun d => d == c || s.cxState d == 0 ||
      (rangesOk (s.tenantOf c == s.tenantOf d) a (s.scrRange d) && rangesOk (s.tenantOf c == s.tenantOf d) b (s.imemRange d)))

/-! ### The loader -/

/-- The contexts that a descriptor names. -/
def LoadDesc.ctxs (d : LoadDesc) : List Nat :=
  ((List.range 4).filter (fun h => d.mask / 2 ^ h % 2 == 1)).map (4 * d.core + ·)

/-- The check of step 1 of R101. -/
def State.loadable (s : State) (d : LoadDesc) : Bool :=
  d.mask != 0 && d.ctxs.all (fun c => s.resting c && s.ownerOf c == some d.tenant)

/-- The loader's descriptor replaced; BUSY follows. -/
def State.setLoad (s : State) (d : Option LoadDesc) : State := ({ s with load := d }).setFlag LD_STAT_BUSY 0 d.isSome

/-- DONE set, with a reason when it is not 0; the LOADER vector. -/
def State.loadDone (s : State) (reason : Nat) : State :=
  ((if reason = 0 then s else s.setF LD_STAT_REASON 0 reason).setFlag LD_STAT_DONE 0 true).raise vecLoader

/-- The descriptor ends. `last` is what DS_STAT.LAST says of it: 0 for a refused one, 1 COMPLETE, 2 ABANDONED. -/
def State.endLoad (s : State) (d : LoadDesc) (reason last : Nat) : State :=
  (((s.setLoad none).setFlag LD_STAT_FAULT 0 false).endStream d.tenant 8 last).loadDone reason

/-- Step 1 of R101, from GO or from a RESUME in the header read. -/
def State.startLoad (s : State) (d : LoadDesc) : State :=
  if s.loadable d then
    (((s.setLoad (some { d with body := false })).setFlag LD_STAT_FAULT 0 false).setF LD_STAT_POS 0 0).startStream d.tenant 8
  else if s.load.isSome then s.endLoad d 1 0
  else s.loadDone 1

/-- GO (R101, R102). -/
def State.goLoad (s : State) : State :=
  if s.load.isSome then s.loadDone 7
  else s.startLoad { src := s.getF LD_SRC_ADDR 0, tenant := s.getF LD_CFG_TENANT 0, core := s.getF LD_CFG_CORE 0,
                     mask := s.getF LD_CFG_CTX_MASK 0, start := s.flag LD_CFG_START 0 }

/-- `n` bytes of a tenant's translated space from `va` on, or the cause and address of the first fault. -/
def State.xlBytes (s : State) (t va : Nat) : Nat → Except (Nat × Nat) (List Byte)
  | 0 => .ok []
  | n + 1 =>
    match s.xlRead t (va % 2 ^ 48) 1 false with
    | .error e => .error (e, va % 2 ^ 48)
    | .ok bs => match s.xlBytes t (va + 1) n with
      | .error e => .error e
      | .ok rest => .ok (bs ++ rest)

/-- A little-endian field of a header. -/
def fieldAt (bs : List Byte) (at_ n : Nat) : Nat := leNat ((bs.drop at_).take n)

/-- Up to `n` bytes of a tenant's translated space from `va` on, and the cause and address of the fault before which they end. -/
def State.xlTake (s : State) (t va : Nat) : Nat → List Byte × Option (Nat × Nat)
  | 0 => ([], none)
  | n + 1 =>
    match s.xlRead t (va % 2 ^ 48) 1 false with
    | .error e => ([], some (e, va % 2 ^ 48))
    | .ok bs =>
      let (rest, e) := s.xlTake t (va + 1) n
      (bs ++ rest, e)

/-- The loader has read the first `n` bytes behind the header, and no more. -/
def State.readTo (s : State) (d : LoadDesc) (n : Nat) : LoadDesc :=
  { d with got := (d.got ++ (s.xlTake d.tenant (d.src + 64 + d.got.length) (n - d.got.length)).1).take n }

/-- The load stalls (R102, R310); what lies before POS has been read. -/
def State.stallLoad (s : State) (d : LoadDesc) (cause va pos : Nat) : State :=
  let s0 := s.setLoad (some (if d.body then s.readTo d (pos / 64 * 64 - 64) else d))
  ((s0.setFlag LD_STAT_FAULT 0 true).setF LD_STAT_POS 0 pos).stallStream d.tenant 8 cause va pos

/-- The refusal of step 3 of R101 for a header, or 0. -/
def State.loadRefusal (s : State) (d : LoadDesc) (hdr : List Byte) : Nat :=
  let cs := d.ctxs
  let text := fieldAt hdr 12 4
  let data := max (fieldAt hdr 16 4) (fieldAt hdr 24 4)
  if !cs.all (fun c => s.imemRange c == s.imemRange (cs.headD 0)) || !cs.all s.layoutOk then 5
  else if !cs.all (fun c => decide (text ≤ s.imemLen c) && decide (data ≤ s.scrLen c)) then 4
  else if !s.loadable d then 1
  else 0

/-- Steps 2 to 4 of R101: the header has been read. -/
def State.readHeader (s : State) (d : LoadDesc) : State :=
  match s.xlBytes d.tenant d.src 64 with
  | .error (cause, va) => s.stallLoad d cause va 0
  | .ok hdr =>
    let reason := s.loadRefusal d hdr
    if reason = 0 then
      let s1 := ((s.setLoad (some { d with body := true, hdr := hdr, got := [] })).setF LD_STAT_POS 0 64).setF DS_STAT_POS (ds d.tenant 8) 64
      d.ctxs.foldl (fun s c => s.setF CX_STATUS_STATE c 2) s1
    else s.endLoad d reason 0

def execLoadHeaderRead (s : State) : Res :=
  match s.load with
  | some d => s.event (!d.body && !s.flag LD_STAT_FAULT 0) (s.readHeader d)
  | none => .next s

/-- Step 5 of R101: the text at the start of the instruction range, the data at the start of each scratch range, zeros after it. -/
def State.placeImage (s : State) (d : LoadDesc) (text data : List Byte) : State :=
  let k := s.core d.core
  let s1 := s.setCore d.core
    { k with imem := memWrite k.imem (s.getF CX_CFG_IMEM_BASE (d.ctxs.headD 0) * 4096) text }
  d.ctxs.foldl (fun s c => s.scrWrite c 0 (padTo (s.scrLen c) data)) s1

/-- A failed or abandoned load leaves its contexts IDLE without image; as at every end of a load, their dependence ends and their timers are
IDLE (R148, R153). Their registers, predicates and PC stay, which R101 clears in step 7 alone (DESIGN CHOICE, log entry 52), and so does a store
error that is not yet reported (DESIGN CHOICE, log entry 13). -/
def State.dropImages (s : State) (d : LoadDesc) : State :=
  d.ctxs.foldl
    (fun s c =>
      let s1 := s.setCtx c { s.ctx c with dep := none, dvoid := false, timers := [] }
      ((s1.setF CX_STATUS_STATE c 1).setFlag CX_STATUS_IMAGE_VALID c false).setFlag CX_STATUS_DEP c false) s

/-- A context after a load (R101, R123): everything clear, PC at ENTRY. A store error that was not yet reported goes with the rest (DESIGN CHOICE, log
entry 13). -/
def State.loadCtx (s : State) (c image entry : Nat) (start : Bool) : State :=
  let s1 := s.setCtx c { pc := BitVec.ofNat 64 entry }
  let s2 := ((s1.setFlag CX_STATUS_IMAGE_VALID c true).setF CX_STATUS_IMAGE_ID c image).setFlag CX_STATUS_DEP c false
  s2.setF CX_STATUS_STATE c (if start then 3 else 1)

/-- The check of step 6 of R101 that an image fails, or 0. -/
def imageFails (hdr text data : List Byte) : Nat :=
  if fieldAt hdr 0 4 != 0x4548494C || fieldAt hdr 4 2 != 1 then 2
  else if crc32c (hdr.take 28 ++ text ++ data) != fieldAt hdr 28 4 then 3
  else if fieldAt hdr 20 4 % 4 != 0 || fieldAt hdr 12 4 ≤ fieldAt hdr 20 4 then 8
  else 0

/-- Steps 5 to 7 of R101: the image has been read, its header in step 2 and what lies before POS before a fault. -/
def State.finishLoad (s : State) (d : LoadDesc) : State :=
  let hdr := d.hdr
  let n := fieldAt hdr 12 4
  let m := fieldAt hdr 16 4
  match s.xlTake d.tenant (d.src + 64 + d.got.length) (n + m - d.got.length) with
  | (more, some (cause, va)) =>
    s.stallLoad { d with got := d.got ++ more } cause va ((64 + d.got.length + more.length) / 64 * 64)
  | (more, none) =>
    let body := (d.got ++ more).take (n + m)
    let text := body.take n
    let data := body.drop n
    let s1 := (s.placeImage d text data).setF LD_STAT_POS 0 (64 + n + m)
    let s2 := s1.setF DS_STAT_POS (ds d.tenant 8) (64 + n + m)
    let reason := imageFails hdr text data
    if reason != 0 then (s2.dropImages d).endLoad d reason 1
    else (d.ctxs.foldl (fun s c => s.loadCtx c (fieldAt hdr 8 4) (fieldAt hdr 20 4) d.start) s2).endLoad d 0 1

def execLoadComplete (s : State) : Res :=
  match s.load with
  | some d => s.event (d.body && !s.flag LD_STAT_FAULT 0) (s.finishLoad d)
  | none => .next s

def execLoadFault (cause va pos : Nat) (s : State) : Res :=
  match s.load with
  | some d => s.event (!s.flag LD_STAT_FAULT 0) (s.stallLoad d cause va pos)
  | none => .next s

/-- RESUME of a faulted load (R102): from step 1 after a fault in the header read, else from POS. -/
def State.resumeLoad (s : State) : State :=
  match s.load with
  | some d =>
    if !s.flag LD_STAT_FAULT 0 then s
    else if d.body then
      let pos := s.getF LD_STAT_POS 0 / 64 * 64
      let s0 := s.setLoad (some { d with got := d.got.take (pos - 64) })
      let s1 := ((s0.setFlag LD_STAT_FAULT 0 false).setF LD_STAT_POS 0 pos).setF DS_STAT_STATE (ds d.tenant 8) 1
      s1.setF DS_STAT_POS (ds d.tenant 8) pos
    else s.startLoad d
  | none => s

/-- ABANDON of a faulted load (R102). -/
def State.abandonLoad (s : State) : State :=
  match s.load with
  | some d =>
    if !s.flag LD_STAT_FAULT 0 then s
    else (if d.body then s.dropImages d else s).endLoad d 6 2
  | none => s

/-- LD_CMD written; more than one command is discarded whole (R102). -/
def State.writeLdCmd (s : State) (w mask : Word) : State :=
  let go := LD_CMD_GO.cmd w mask
  let resume := LD_CMD_RESUME.cmd w mask
  let abandon := LD_CMD_ABANDON.cmd w mask
  if go.toNat + resume.toNat + abandon.toNat != 1 then s
  else if go then s.goLoad
  else if resume then s.resumeLoad
  else s.abandonLoad

def execLoaderGo (data : Word) (s : State) : Res := s.hostDoes (LD_CMD_GO.on data) (s.writeLdCmd data allBits)
def execLoaderResume (data : Word) (s : State) : Res := s.hostDoes (LD_CMD_RESUME.on data) (s.writeLdCmd data allBits)
def execLoaderAbandon (data : Word) (s : State) : Res := s.hostDoes (LD_CMD_ABANDON.on data) (s.writeLdCmd data allBits)

/-! ### Mailboxes (R120, R121) -/

/-- MB_ACK written: it consumes the shown result when its SEQ matches, and a parked result whose window is crystallised is shown. -/
def State.writeMbAck (s : State) (m : Nat) (w mask : Word) : State :=
  if MB_ACK_ACK.cmd w mask && s.flag MB_HDR_READY m && MB_ACK_SEQ.of (w &&& mask) == s.getF MB_HDR_SEQ m then
    (s.setFlag MB_HDR_READY m false).releasePark m
  else s

def execMbAck (m : Nat) (data : Word) (s : State) : Res := s.hostDoes (decide (m < 256)) (s.writeMbAck m data allBits)

/-- The words of MB_DATA0–5 latched from the shown result. -/
def State.latchMailbox (s : State) (m : Nat) : State :=
  (List.range 6).foldl
    (fun z i => z.setReg .MB_DATA (6 * m + i) (BitVec.ofNat 64 (leNat (((s.mailbox m).shown.drop (8 * i)).take 8)))) s

/-- MB_HDR_READ: a read of MB_HDR, or of one half of it; either half latches (R121, R426). -/
def execMbHdrRead (m : Nat) (lanes : Lanes) (s : State) : Res :=
  s.hostReadsPart (decide (m < 256)) lanes (s.getReg .MB_HDR m) (s.latchMailbox m)

end Sys2Proof.Machine
end

