-- ==== Sys2Proof/Machine/SyncCtr.lean ====
section
/-! DEFINITION. Sync counters (R229 to R251): adds, waits, watches, checks and barriers, partitions, and the instructions SCADD, SCWAIT and
SCRD (R149 to R151). -/

namespace Sys2Proof.Machine

/-! ### Reach (R231, R232, R243) -/

/-- Counter `n` lies in the partition of tenant `t`. -/
def State.inPart (s : State) (t n : Nat) : Bool :=
  decide (s.getF SC_PART_BASE t ≤ n) && decide (n < s.getF SC_PART_BASE t + s.getF SC_PART_LEN t)

/-- The tenant in whose partition a counter lies. -/
def State.partOwner (s : State) (n : Nat) : Option Nat := (List.range 64).find? (fun t => s.inPart t n)

/-- A valid read grant gives tenant `t` counter `n`. -/
def State.readGrant (s : State) (t n : Nat) : Bool :=
  (List.range 128).any (fun g => s.flag SC_RGRANT_VALID g && s.getF SC_RGRANT_GRANTEE g == t &&
    decide (s.getF SC_RGRANT_BASE g ≤ n) && decide (n < s.getF SC_RGRANT_BASE g + s.getF SC_RGRANT_LEN g))

/-- The read reach of a tenant. -/
def State.readReach (s : State) (t n : Nat) : Bool :=
  decide (n < 16384) && (t == s.sysTenant || s.inPart t n || s.readGrant t n)

/-- The counters of a tenant's partition. -/
def State.counters (s : State) (t : Nat) : List Nat :=
  (List.range (s.getF SC_PART_LEN t)).map (s.getF SC_PART_BASE t + ·)

/-! ### Watches (R245) -/

/-- A watch ends: 2 REACHED, 3 POISON. -/
def State.endWatch (s : State) (w st : Nat) : State :=
  ((s.setF SC_WCFG_STATE w st).setArrBit .SC_WPEND w true).raise vecSyncWatch

/-- An ARMED watch tests its copied counter and target. -/
def State.testWatch (s : State) (w : Nat) : State :=
  let x := smGet (0, 0) s.watches w
  if s.getF SC_WCFG_STATE w != 1 then s
  else if s.flag SC_COUNT_POISONED x.1 then s.endWatch w 3
  else if x.2 ≤ s.getF SC_COUNT_VALUE x.1 then s.endWatch w 2
  else s

/-- The watches on counter `n` after a change of it. -/
def State.testWatches (s : State) (n : Nat) : State :=
  (smKeys (fun _ x => x.1 == n) s.watches).foldl (fun z w => z.testWatch w) s

/-- SC_WCFG written: ARM, then DISARM (R20), which acts only on a slot that is ARMED when the write arrives (R19). -/
def State.writeWatch (s : State) (i : Nat) (w mask : Word) : State :=
  let s1 := s.store .SC_WCFG i w mask false
  let s2 := if SC_WCFG_ARM.cmd w mask then
      let pair := (s1.getF SC_WCFG_COUNTER i, s1.getF SC_WTGT_TARGET i)
      ({ s1 with watches := smSet (0, 0) s1.watches i pair }.setF SC_WCFG_STATE i 1).testWatch i
    else s1
  if SC_WCFG_DISARM.cmd w mask && s.getF SC_WCFG_STATE i == 1 && s2.getF SC_WCFG_STATE i == 1 then s2.setF SC_WCFG_STATE i 0 else s2

def execWatchArm (w : Nat) (data : Word) (s : State) : Res :=
  s.hostDoes (decide (w < 512) && SC_WCFG_ARM.on data) (s.writeWatch w data allBits)
def execWatchDisarm (w : Nat) (data : Word) (s : State) : Res :=
  s.hostDoes (decide (w < 512) && SC_WCFG_DISARM.on data) (s.writeWatch w data allBits)

/-! ### Waits (R244) -/

/-- The result of a wait that is complete: the status word and p[PD]. -/
def State.waitResult (s : State) (n target : Nat) : Option (Word × Bool) :=
  let v := s.getF SC_COUNT_VALUE n
  if s.flag SC_COUNT_POISONED n then some (BitVec.ofNat 64 (2 ^ 62 + v), false)
  else if target ≤ v then some (BitVec.ofNat 64 v, true)
  else none

/-- The pending SCWAIT of context `c` completes when its counter satisfies it or is POISONED. -/
def State.wakeSync (s : State) (c : Nat) : State :=
  let x := s.ctx c
  match x.wait with
  | .scwait n target rd pd =>
    match s.waitResult n target with
    | some (v, ok) =>
      if s.cxState c == 4 then
        (s.setCtx c { (x.setG (BitVec.ofNat 5 rd) v).setP pd ok with wait := .none }).setF CX_STATUS_STATE c 3
      else s
    | none => s
  | _ => s

def execScwaitComplete (c : Nat) (s : State) : Res := s.event true (s.wakeSync c)

/-- Every context whose SCWAIT names counter `n` is looked at (R244: a pending wait is evaluated whenever its counter changes). -/
def State.wakeWaiters (s : State) (n : Nat) : State :=
  (smKeys (fun _ x => match x.wait with | .scwait m _ _ _ => m == n | _ => false) s.ctxs).foldl (fun z c => z.wakeSync c) s

/-- Counter `n` has changed: the waits and watches that it satisfies complete (R238, R244, R245). -/
def State.counterMoved (s : State) (n : Nat) : State := (s.wakeWaiters n).testWatches n

/-! ### Adds (R234, R235) -/

/-- What became of an add. -/
inductive AddRes where
  | full | part | poisoned
  deriving DecidableEq, Repr

/-- An add of `a` to counter `n` (R235); it completes the waits and watches that it satisfies (R238). -/
def State.addSync (s : State) (n a : Nat) : State × AddRes :=
  let top := 2 ^ 48 - 1
  if s.flag SC_COUNT_POISONED n then (s.incF SC_ERR_DISCARD_POISON 0, .poisoned)
  else if a = 0 then (s, .full)
  else
    let v := s.getF SC_COUNT_VALUE n + a
    if v < top then ((s.setF SC_COUNT_VALUE n v).counterMoved n, .full)
    else
      let s1 := (s.setF SC_COUNT_VALUE n top).setFlag SC_COUNT_SAT n true
      if top < v then ((s1.setF SC_AUX_LOST n (satTo 16 (s1.getF SC_AUX_LOST n + 1))).counterMoved n, .part)
      else (s1.counterMoved n, .full)

/-- A local add or advance of EXP of counter `n` is sent to the partner when its tenant has SC_MIRROR (R379, R380). -/
def State.mirrorAdd (s : State) (n a e : Nat) : State :=
  match s.partOwner n with
  | some t => if s.flag PR_TEN_SC_MIRROR t then s.sendMir (.scAdd n a e) else s
  | none => s

/-- A local add: applied, and sent to the partner unless it met a POISONED counter. -/
def State.addLocal (s : State) (n a : Nat) : State × AddRes :=
  match s.addSync n a with
  | (s1, .poisoned) => (s1, .poisoned)
  | (s1, r) => (s1.mirrorAdd n a 0, r)

/-- An add of the ledger of tenant `t` (R234, R270). -/
def State.ledgerAdd (s : State) (t n a : Nat) : State :=
  if s.inPart t n then (s.addLocal n a).1 else s.incF SC_ERR_DISCARD_PART 0

/-- An advance of EXP by the ledger of tenant `t` (R239, R270). -/
def State.ledgerExpect (s : State) (t n a : Nat) : State :=
  if s.inPart t n then (s.addF SC_EXP_EXP n a).mirrorAdd n 0 a else s.incF SC_ERR_DISCARD_PART 0

/-- SC_HOSTADD written. -/
def State.writeHostAdd (s : State) (w mask : Word) : State :=
  (s.addLocal (SC_HOSTADD_COUNTER.of (w &&& mask)) (SC_HOSTADD_AMOUNT.of (w &&& mask))).1

def execScHostadd (data : Word) (s : State) : Res := s.hostDoes true (s.writeHostAdd data allBits)

/-! ### Instructions (R149 to R151) -/

/-- An access names a counter out of the context's reach (R236): the tenant's MISUSE; the trap follows. -/
def State.outOfReach (s : State) (c n : Nat) : Exec :=
  let t := s.tenantOf c
  .trap 0x0007 n ((s.setFlag SC_TSTAT_MISUSE t true).incF SC_TSTAT_MISUSE_COUNT t)

/-- SCADD. -/
def execScadd (c : Nat) (f : FmtT) (s : State) : Res :=
  s.issueT c 0x25 f (f.rd != 0) (fun s1 =>
    let x := s1.ctx c
    let n := (x.gr f.ra).toNat
    let a : Int := if f.ctl.getLsbD 7 then (f.ctl.toNat % 128 : Nat) else (x.gr f.rb).toInt
    if !s1.inPart (s1.tenantOf c) n then s1.outOfReach c n
    else if a < 0 then .trap 0x0007 n (s1.setFlag SC_COUNT_MISUSE n true)
    else
      let (s2, r) := s1.addLocal n a.toNat
      s2.status c f (r == .full))

/-- SCWAIT: completes at once, or the context waits. -/
def execScwait (c : Nat) (f : FmtT) (s : State) : Res :=
  s.issueT c 0x26 f (f.ctl != 0) (fun s1 =>
    let x := s1.ctx c
    let n := (x.gr f.ra).toNat
    let target := (x.gr f.rb).toNat % 2 ^ 48
    if !s1.readReach (s1.tenantOf c) n then s1.outOfReach c n
    else match s1.waitResult n target with
      | some (v, ok) => s1.result c f v ok
      | none =>
        let pc := s1.nextPc c
        let s2 := s1.setCtx c { x with wait := .scwait n target f.rd.toNat f.pd.toNat, pc := pc }
        .done ((s2.waitFlow c).setF CX_STATUS_STATE c 4) pc)

/-- SCRD. -/
def execScrd (c : Nat) (f : FmtT) (s : State) : Res :=
  s.issueT c 0x27 f (f.rb != 0 || f.ctl != 0) (fun s1 =>
    let n := ((s1.ctx c).gr f.ra).toNat
    if !s1.readReach (s1.tenantOf c) n then s1.outOfReach c n
    else s1.result c f (s1.getReg .SC_COUNT n) (!s1.flag SC_COUNT_POISONED n))

/-! ### Checks and barriers (R240, R241) -/

/-- The counter takes part in checks. -/
def State.checks (s : State) (n : Nat) : Bool := !s.flag SC_COUNT_POISONED n && s.flag SC_EXP_BARRIER n

/-- VALUE less EXP. -/
def State.drift (s : State) (n : Nat) : Int := (s.getF SC_COUNT_VALUE n : Int) - s.getF SC_EXP_EXP n

/-- DRIFT after a realignment by `d`. -/
def driftAfter (old : Nat) (d : Int) : Nat :=
  let v := (BitVec.ofNat 32 old).toInt + d
  (BitVec.ofInt 32 (if v < -(2 ^ 31) then -(2 ^ 31) else if 2 ^ 31 - 1 < v then 2 ^ 31 - 1 else v)).toNat

/-- One counter of tenant `t` under a check. -/
def State.checkCounter (s : State) (t : Nat) (realign : Bool) (n : Nat) : State :=
  if !s.checks n then s
  else
    let d := s.drift n
    let s1 := if 0 < d then s.setFlag SC_COUNT_OVER n true else if d < 0 then s.setFlag SC_COUNT_SHORT n true else s
    if realign && d != 0 then
      let s2 := (s1.setF SC_AUX_DRIFT n (driftAfter (s1.getF SC_AUX_DRIFT n) d)).incF SC_AUX_REALIGNS n
      (s2.setF SC_EXP_EXP n (s2.getF SC_COUNT_VALUE n)).incF SC_TSTAT_REALIGN_COUNT t
    else s1

/-- A check of a tenant's counters, in ascending number. -/
def State.checkPart (s : State) (t : Nat) (realign : Bool) : State := (s.counters t).foldl (fun z n => z.checkCounter t realign n) s

/-- The counters of a tenant that a barrier finds with a drift. -/
def State.drifting (s : State) (t : Nat) : List Nat := (s.counters t).filter (fun n => s.checks n && s.drift n != 0)

/-- SC_CMD written. -/
def State.writeScCmd (s : State) (w mask : Word) : State :=
  if SC_CMD_CHECK.cmd w mask then s.checkPart (SC_CMD_TENANT.of (w &&& mask)) false else s

def execScCheck (data : Word) (s : State) : Res := s.hostDoes (SC_CMD_CHECK.on data) (s.writeScCmd data allBits)

/-- SC_FLAGCLR written (R242). -/
def State.writeFlagClr (s : State) (w mask : Word) : State :=
  let n := SC_FLAGCLR_COUNTER.of (w &&& mask)
  let s1 := if SC_FLAGCLR_OVER.cmd w mask then s.setFlag SC_COUNT_OVER n false else s
  let s2 := if SC_FLAGCLR_SHORT.cmd w mask then s1.setFlag SC_COUNT_SHORT n false else s1
  let s3 := if SC_FLAGCLR_MISUSE.cmd w mask then s2.setFlag SC_COUNT_MISUSE n false else s2
  if SC_FLAGCLR_LOST.cmd w mask then s3.setF SC_AUX_LOST n 0 else s3

def execScFlagclr (data : Word) (s : State) : Res := s.hostDoes true (s.writeFlagClr data allBits)

/-! ### Partitions, clearing and poisoning (R232, R233, R238) -/

/-- Two partitions overlap. -/
def State.partsMeet (s : State) (t base len : Nat) : Bool :=
  (List.range 64).any (fun u => u != t && overlap (base, len) (s.getF SC_PART_BASE u, s.getF SC_PART_LEN u) &&
    s.getF SC_PART_LEN u != 0 && len != 0)

/-- SC_PART written (R232). -/
def State.writePart (s : State) (t : Nat) (w mask : Word) : State :=
  let s1 := s.store .SC_PART t w mask false
  let base := s1.getF SC_PART_BASE t
  let len := s1.getF SC_PART_LEN t
  if s.tnState t != 0 || decide (16384 < base + len) || s.partsMeet t base len then s.incF SC_ERR_PART_REFUSED 0 else s1

def execScPartWrite (t : Nat) (data : Word) (s : State) : Res := s.hostDoes (decide (t < 64)) (s.writePart t data allBits)

/-- The three entries of a counter zero. -/
def State.clearCounter (s : State) (n : Nat) : State := ((s.setReg .SC_COUNT n 0).setReg .SC_EXP n 0).setReg .SC_AUX n 0

/-- The flags byte of a counter as R248 lays it out. -/
def State.counterFlags (s : State) (n : Nat) : Nat :=
  s.getF SC_COUNT_OVER n + 2 * s.getF SC_COUNT_SHORT n + 4 * s.getF SC_COUNT_MISUSE n + 8 * s.getF SC_COUNT_SAT n + 16 * s.getF SC_EXP_BARRIER n

/-- A counter loaded with saved state: DRIFT, REALIGNS and POISONED become zero (R249, R390); a wait of another tenant is evaluated against
it (R244). -/
def State.loadCounter (s : State) (n value exp flags lost : Nat) : State :=
  let bit := fun (k : Nat) => flags / 2 ^ k % 2
  let s1 := (((((s.clearCounter n).setF SC_COUNT_VALUE n value).setF SC_COUNT_OVER n (bit 0)).setF SC_COUNT_SHORT n (bit 1)).setF
    SC_COUNT_MISUSE n (bit 2)).setF SC_COUNT_SAT n (bit 3)
  (((s1.setF SC_EXP_EXP n exp).setF SC_EXP_BARRIER n (bit 4)).setF SC_AUX_LOST n lost).counterMoved n

/-- A tenant's counters cleared when it is activated (R233). -/
def State.clearPart (s : State) (t : Nat) : State :=
  let s1 := (s.counters t).foldl (fun z n => z.clearCounter n) s
  (s1.setFlag SC_TSTAT_POISONED t false).setFlag SC_TSTAT_MIG_TRUNC t false

/-- A counter becomes POISONED: its waits and watches complete with POISON. -/
def State.poison (s : State) (n : Nat) : State := (s.setFlag SC_COUNT_POISONED n true).counterMoved n

/-- A tenant's counters poisoned when it is reset (R116, R238). -/
def State.poisonPart (s : State) (t : Nat) : State :=
  ((s.counters t).foldl (fun z n => z.poison n) s).setFlag SC_TSTAT_POISONED t true

/-- SC_RGRANT written: discarded whole when the range would pass the end of the array. -/
def State.writeRgrant (s : State) (g : Nat) (w mask : Word) : State :=
  let s1 := s.store .SC_RGRANT g w mask false
  if 16384 < s1.getF SC_RGRANT_BASE g + s1.getF SC_RGRANT_LEN g then s else s1

end Sys2Proof.Machine
end

