-- ==== Sys2Proof/Machine/TimeUnit.lean ====
section
/-! DEFINITION. The time engine: start, increments, commits, quality and hold-over, the time bus, 1PPS, path generations (R43 to R74,
R82, R83, R88, R89, R431). -/

namespace Sys2Proof.Machine

/-! ### TIME_STATUS, refusals, mirror messages -/

/-- Quality as TB_CTRL.QUALITY reports it: 0 FREE (and OFF), 1 ACQUIRING, 2 LOCKED, 3 HOLDOVER. -/
def State.quality (s : State) : Nat := s.getF TB_CTRL_QUALITY 0

/-- The quality state set; TB_STATUS.HOLD follows it. -/
def State.setQuality (s : State) (q : Nat) : State := (s.setF TB_CTRL_QUALITY 0 q).setFlag TB_STATUS_HOLD 0 (q == 3)

/-- TB_CTRL.MODE is CP. -/
def State.cpMode (s : State) : Bool := s.flag TB_CTRL_MODE 0

/-- The primary upstream port, or 0xFFFF. -/
def State.primaryPort (s : State) : Nat :=
  if s.flag TB_UPSTREAM_PRI_VALID 0 then s.getF TB_UPSTREAM_PRI_PORT 0 else 0xFFFF

/-- PATH_GEN of a port, 0 for none. -/
def State.pathGen (s : State) (port : Nat) : Nat := if port = 0xFFFF then 0 else s.getF TB_PORT_TIME_PATH_GEN port

/-- A signed number of 2^-16 ns that saturates at ±(2^63 − 1), as 64 bits (R88). -/
def stepUnits (amount : Int) : Nat :=
  let u := amount / 2 ^ 24
  (BitVec.ofInt 64 (if u < -(2 ^ 63 - 1) then -(2 ^ 63 - 1) else if 2 ^ 63 - 1 < u then 2 ^ 63 - 1 else u)).toNat

/-- TIME_STATUS (R88), formed at the instant at which the change takes effect. -/
def State.timeStatus (s : State) (event previous port : Nat) (amount : Int) : State :=
  let quality := s.quality + if s.cpMode then 128 else 0
  let p := leBytes 1 event ++ leBytes 1 quality ++ leBytes 2 s.epoch ++ leBytes 2 previous ++ leBytes 2 port ++
    leBytes 8 (s.getF TB_INCR_INCR 0) ++ fullBytes s.fabNow ++ leBytes 2 (s.pathGen port) ++ leBytes 2 0 ++
    leBytes 8 (stepUnits amount) ++ leBytes 8 s.rawNow
  s.form (s.unitRec 0x30 2 1 s.sysTenant 0x8300 p)

/-- The TIME message to the partner: the newest entry, the quality and the full stamp of now (R379). -/
def State.sendTime (s : State) : State :=
  match s.newest with
  | some e => s.sendMir (.time (fullOf e.ofs) e.incr e.epoch s.quality (fullOf s.fabNow))
  | none => s

/-- A refused correction (R60, R89, R407): TB_REJ and the TIME vector. -/
def State.rejectTime (s : State) (reason : Nat) : State :=
  (((s.setFlag TB_REJ_REJ 0 true).incF TB_REJ_REJ_COUNT 0).setF TB_REJ_REASON 0 reason).raise vecTime

/-! ### Ticks, the start of time, history (R43 to R51) -/

/-- The accumulator of SN mode advanced by one tick (R47). -/
def TimeEngine.accumulate (x : TimeEngine) (incr : Nat) : TimeEngine :=
  let t := x.ns * 2 ^ 40 + x.frac + incr
  let c := decide (second40 ≤ t)
  let u := if c then t - second40 else t
  { x with sec := if c then x.sec + 1 else x.sec, ns := u / 2 ^ 40, frac := u % 2 ^ 40 }

/-- One tick of the time engine: the raw count, the accumulator, the length of the 1PPS pulse. A walk of the scrubber goes on (R294). -/
def State.tickOf (s : State) : State :=
  let x := s.time
  let x1 := if s.running && !s.cpMode then x.accumulate ((s.newest.map (·.incr)).getD 0) else x
  let s1 := { s with time := { x1 with raw := x.raw + 1, ppsLeft := x.ppsLeft - 1, lastGate := none } }
  if s1.qm.walking then s1.scrubTo s1.scrubPos else s1

def execTick (s : State) : Res := s.event true s.tickOf

/-- The boundary at which time starts after RUN (R46). -/
def State.startDue (s : State) : Nat := (s.time.runAt / 256 + 1) * 256

/-- A new history entry takes effect now (R50). -/
def State.enterHistory (s : State) (ofs incr epoch : Nat) : State :=
  let raw := s.rawNow
  let old := match s.time.hist with
    | [] => []
    | e :: es => { e with succ := some raw } :: es
  let hist := { ofs := ofs, raw := raw, incr := incr, epoch := epoch } :: old
  let s1 := { s with time := { s.time with hist := hist } }
  ((s1.setF TB_STATUS_HIST_USED 0 hist.length).setF TB_INCR_INCR 0 incr).setF TB_STATUS_EPOCH 0 epoch

/-- Time starts (R46): the first entry, quality FREE, TIME_STATUS START. -/
def State.startTime (s : State) : State :=
  let s1 := { s with time := { s.time with sec := 0, ns := 0, frac := 0 } }
  let s2 := (s1.enterHistory 0 (s.getF TB_INCR_INCR 0) 0).setFlag TB_STATUS_RUNNING 0 true
  ((s2.setQuality 0).timeStatus 1 0 s.primaryPort 0).sendTime

def execTimeStart (s : State) : Res :=
  s.event (s.flag TB_CTRL_RUN 0 && !s.running && s.rawNow == s.startDue) s.startTime

/-- An increment passes SLEW (R59). -/
def State.slewOk (s : State) (incr : Nat) : Bool :=
  let nom := s.getF TB_LIMITS_INCR_NOM 0
  let limit := nom * s.getF TB_LIMITS_SLEW_PPM 0 / 1000000
  decide (0 < incr) && decide (incr ≤ nom + limit) && decide (nom ≤ incr + limit)

/-- The entry of a history is still kept at raw count `at_` (R51). -/
def HistEntry.keptAt (at_ : Nat) (e : HistEntry) : Bool := match e.succ with
  | some x => decide (at_ < x + 2 ^ 28)
  | none => true

/-- The history holds one more entry at `at_` beside the `more` that are pending (R51). -/
def State.historyFits (s : State) (at_ more : Nat) : Bool :=
  decide ((s.time.hist.filter (·.keptAt at_)).length + more + 1 ≤ 256)

/-- The entry that will be in force at a later raw count, increments that are pending taken in; before time has started, the entry
with which it will start. -/
def State.entryAhead (s : State) (at_ : Nat) : HistEntry :=
  let e0 := match s.newest with
    | some e => e
    | none => { ofs := 0, raw := s.startDue, incr := s.getF TB_INCR_INCR 0, epoch := 0 }
  (s.time.pendIncr.filter (fun p => decide (p.1 ≤ at_))).foldl
    (fun e p => { ofs := e.at p.1 0, raw := p.1, incr := p.2, epoch := e.epoch }) e0

/-- The boundary at which an SN increment change takes effect (R48). -/
def State.incrDue (s : State) : Nat := (s.rawNow + 8 + 255) / 256 * 256

/-- TB_INCR written (R58). Of two accepted writes due at one boundary the later replaces the earlier (log 79, DESIGN CHOICE). -/
def State.writeIncr (s : State) (incr : Nat) : State :=
  if !s.running then s.setF TB_INCR_INCR 0 incr
  else if s.cpMode then s.rejectTime 1
  else if s.quality == 3 then s.rejectTime 7
  else if (match s.time.commit with | some k => k.step | none => false) then s.rejectTime 9
  else if !s.slewOk incr then s.rejectTime 4
  else
    let others := s.time.pendIncr.filter (fun p => p.1 != s.incrDue)
    if !s.historyFits s.incrDue others.length then s.rejectTime 8
    else { s with time := { s.time with pendIncr := others ++ [(s.incrDue, incr)] } }

/-- A host or context write of TB_INCR. -/
def State.writeTbIncr (s : State) (w mask : Word) : State :=
  if bitsOf mask 47 0 == 2 ^ 48 - 1 then s.writeIncr (TB_INCR_INCR.of w) else s

def execTbIncrWrite (data : Word) (s : State) : Res := s.hostDoes true (s.writeTbIncr data allBits)

/-- An accepted SN increment takes effect (R48, R50); it forms no TIME_STATUS. -/
def State.applyIncr (s : State) (incr : Nat) : State :=
  let s1 := { s with time := { s.time with pendIncr := s.time.pendIncr.filter (fun p => p.1 != s.rawNow) } }
  (s1.enterHistory s.fabNow incr s.epoch).sendTime

def execIncrChangeEffect (s : State) : Res :=
  match s.time.pendIncr.find? (fun p => p.1 == s.rawNow) with
  | some p => s.event true (s.applyIncr p.2)
  | none => .next s

/-- The oldest entry leaves the history 2^28 ticks after its successor took effect (R51). -/
def State.expireEntry (s : State) : State :=
  let hist := s.time.hist.dropLast
  { s with time := { s.time with hist := hist } }.setF TB_STATUS_HIST_USED 0 hist.length

def execHistoryEntryExpire (s : State) : Res :=
  match s.time.hist.getLast? with
  | some e => s.event (!e.keptAt s.rawNow) s.expireEntry
  | none => .next s

/-! ### Commits (R60 to R64) -/

/-- The staged offset in 2^-40 ns. -/
def State.stagedOfs (s : State) : Nat :=
  s.getF TB_PRJ_OFS_SEC_SECONDS 0 * second40 + s.getF TB_PRJ_OFS_NSF_NS 0 * 2 ^ 40 + s.getF TB_PRJ_OFS_NSF_FRAC34 0 * 2 ^ 6

/-- The staged AT. -/
def State.stagedAt (s : State) : Nat := s.getF TB_PRJ_AT_HI_AT_HI 0 * 2 ^ 64 + s.getF TB_PRJ_AT_LO_AT_LO 0

/-- The first check of R60 that a commit fails, or 0. -/
def State.commitFails (s : State) (step : Bool) (stepEpoch : Nat) : Nat :=
  let at_ := s.stagedAt
  let amount : Int := (s.stagedOfs : Int) - (s.entryAhead at_).at at_ 0
  let d := (stepEpoch + 65536 - s.epoch) % 65536
  if !s.flag TB_CTRL_RUN 0 then 11
  else if s.time.commit.isSome then 9
  else if s.quality == 3 then 7
  else if !step && !s.cpMode then 1
  else if at_ % 256 != 0 then 2
  else if at_ < s.rawNow + 512 then 3
  else if step && decide (1000000000 ≤ s.getF TB_PRJ_OFS_NSF_NS 0) then 12
  else if !s.slewOk (s.getF TB_PRJ_INCR_INCR 0) then 4
  else if step && !(decide (1 ≤ d) && decide (d ≤ 32767)) then 6
  else if step && decide (amount.natAbs < s.getF TB_POLICY_STEP_THRESH 0 * 2 ^ 40) then 5
  else if !s.historyFits at_ s.time.pendIncr.length then 8
  else 0

/-- A pending commit set or removed; TB_STATUS.PENDING and PENDING_STEP follow. -/
def State.setCommit (s : State) (k : Option Commit) : State :=
  ({ s with time := { s.time with commit := k } }.setFlag TB_STATUS_PENDING 0 k.isSome).setFlag TB_STATUS_PENDING_STEP 0
    (match k with | some x => x.step | none => false)

/-- COMMIT (R60). -/
def State.commitStaged (s : State) (step : Bool) (stepEpoch : Nat) : State :=
  let reason := s.commitFails step stepEpoch
  if reason != 0 then s.rejectTime reason
  else s.setCommit (some { step := step, at_ := s.stagedAt, ofs := s.stagedOfs, incr := s.getF TB_PRJ_INCR_INCR 0,
                           epoch := stepEpoch })

/-- CANCEL before AT (R63). -/
def State.cancelCommit (s : State) : State :=
  match s.time.commit with
  | some k => if s.rawNow < k.at_ then s.setCommit none else s
  | none => s

/-- TB_PRJ_CMD written; COMMIT with CANCEL is discarded whole (R63). -/
def State.writePrjCmd (s : State) (w mask : Word) : State :=
  let commit := TB_PRJ_CMD_COMMIT.cmd w mask
  let cancel := TB_PRJ_CMD_CANCEL.cmd w mask
  if commit && cancel then s
  else if commit then s.commitStaged (TB_PRJ_CMD_STEP.cmd w mask) (TB_PRJ_CMD_STEP_EPOCH.of (w &&& mask))
  else if cancel then s.cancelCommit
  else s

def execProjectionCommit (data : Word) (s : State) : Res :=
  s.hostDoes (TB_PRJ_CMD_COMMIT.on data) (s.writePrjCmd data allBits)
def execProjectionCancel (data : Word) (s : State) : Res :=
  s.hostDoes (TB_PRJ_CMD_CANCEL.on data) (s.writePrjCmd data allBits)

/-- A continuous commit takes effect (R61). -/
def State.applyProjection (s : State) (k : Commit) : State :=
  let s1 := (s.setCommit none).enterHistory s.fabNow k.incr s.epoch
  (s1.timeStatus 3 s.epoch s.primaryPort 0).sendTime

def execProjectionEffect (s : State) : Res :=
  match s.time.commit with
  | some k => s.event (!k.step && s.running && s.rawNow == k.at_) (s.applyProjection k)
  | none => .next s

/-! ### Quality and hold-over (R68, R431) -/

/-- The hold timer starts or restarts at HOLD_MIN. -/
def State.startHold (s : State) : State :=
  { s with time := { s.time with holdRun := true } }.setF TB_STATUS_HOLD_LEFT 0 (s.getF TB_POLICY_HOLD_MIN 0)

/-- HOLD_ENTER, or PATH_GEN changes on the primary upstream port (R68). -/
def State.holdEnter (s : State) : State :=
  if s.quality == 3 then s.startHold
  else if s.quality == 1 || s.quality == 2 then
    let s1 := if s.time.commit.isSome then (s.setCommit none).rejectTime 7 else s
    ((s1.startHold.setQuality 3).timeStatus 5 s.epoch s.primaryPort 0).sendTime
  else s

/-- HOLD_EXIT (R68). -/
def State.holdExit (s : State) : State :=
  if s.quality != 3 then s
  else if s.time.holdRun then s.rejectTime 10
  else ((s.setQuality 1).timeStatus 6 s.epoch s.primaryPort 0).sendTime

/-- A QUALITY write (R431), of a state in which time has started. -/
def State.qualityEvent (s : State) (q : Nat) : State :=
  if !s.running then s
  else if s.quality == 3 then s.rejectTime 7
  else ((s.setQuality q).timeStatus 4 s.epoch s.primaryPort 0).sendTime

/-- The events of R68 that one write of TB_CTRL makes, in the order of the table's rows (R20). HOLD_EXIT has a row in HOLDOVER alone: in
every other state in which the write arrives it has no effect (R19). -/
def State.qualityEvents (s : State) (quality : Option Nat) (enter exit : Bool) : State :=
  let q := fun (s : State) => match quality with | some v => s.qualityEvent v | none => s
  let e := fun (s : State) => if enter then s.holdEnter else s
  let x := fun (s : State) => if exit then s.holdExit else s
  if s.quality == 3 then q (x (e s)) else e (q s)

/-- RUN set (R46): MODE is armed, and time starts at the next 256-tick boundary. -/
def State.setRun (s : State) : State :=
  if s.flag TB_CTRL_RUN 0 then s
  else { s with time := { s.time with runAt := s.rawNow } }.setFlag TB_CTRL_RUN 0 true

/-- TB_CTRL written: MODE while RUN is 0, PPS_EN, RUN, then the events of R68. QUALITY is no stored field. -/
def State.writeTbCtrl (s : State) (w mask : Word) : State :=
  let run := s.flag TB_CTRL_RUN 0
  let s1 := if bitOf mask 62 && !run then s.setF TB_CTRL_MODE 0 (TB_CTRL_MODE.of w) else s
  let s2 := if bitOf mask 61 then
      let t := s1.setF TB_CTRL_PPS_EN 0 (TB_CTRL_PPS_EN.of w)
      if TB_CTRL_PPS_EN.on w then t else { t with time := { t.time with ppsHigh := false, ppsLeft := 0 } }
    else s1
  let s3 := if TB_CTRL_RUN.cmd w mask then s2.setRun else s2
  let v := TB_CTRL_QUALITY.of w
  let quality := if bitOf mask 0 && decide (v ≤ 2) && v != s.quality then some v else none
  s3.qualityEvents quality (TB_CTRL_HOLD_ENTER.cmd w mask) (TB_CTRL_HOLD_EXIT.cmd w mask)

def execTbRun (data : Word) (s : State) : Res := s.hostDoes (TB_CTRL_RUN.on data) (s.writeTbCtrl data allBits)
def execHoldEnter (data : Word) (s : State) : Res := s.hostDoes (TB_CTRL_HOLD_ENTER.on data) (s.writeTbCtrl data allBits)
def execHoldExit (data : Word) (s : State) : Res := s.hostDoes (TB_CTRL_HOLD_EXIT.on data) (s.writeTbCtrl data allBits)

/-- A write of TB_CTRL that is a QUALITY write (R431). -/
def execQualityWrite (data : Word) (s : State) : Res :=
  s.hostDoes (decide (TB_CTRL_QUALITY.of data ≤ 2) && TB_CTRL_QUALITY.of data != s.quality) (s.writeTbCtrl data allBits)

/-- The hold timer expires. -/
def execHoldTimerExpire (s : State) : Res :=
  s.event (s.time.holdRun && s.getF TB_STATUS_HOLD_LEFT 0 == 0) { s with time := { s.time with holdRun := false } }

/-! ### Path generations (R82, R83) -/

/-- PATH_GEN of a port advances. A change on the secondary upstream before time has started forms UPSTREAM_GEN as well, with stamp and EFFECT 0
(DESIGN CHOICE, log entry 104). -/
def State.repatch (s : State) (port cls : Nat) : State :=
  let s0 := (s.incF TB_PORT_TIME_PATH_GEN port).tap port 56 1
  let s1 := (s0.setF TB_PORT_TIME_PATH_CLASS port cls).setFlag TB_PORT_TIME_DLY_VALID port false
  let s2 := if s.flag TB_UPSTREAM_PRI_VALID 0 && s.getF TB_UPSTREAM_PRI_PORT 0 == port then s1.holdEnter else s1
  if s.flag TB_UPSTREAM_SEC_VALID 0 && s.getF TB_UPSTREAM_SEC_PORT 0 == port then s2.timeStatus 7 s2.epoch port 0 else s2

def execPathGenChange (port cls : Nat) (s : State) : Res := s.event true (s.repatch port cls)

/-- Lane slot `a` belongs to an enabled port and is not its first. A slot of no enabled port is not such a one: its TB_PORT_TIME entry is treated
as that of a first slot (DESIGN CHOICE, log entry 103). -/
def State.laterSlot (s : State) (a : Nat) : Bool := s.taps.ports.any (fun e => decide (e.1 < a) && decide (a < e.1 + e.2))

/-- TB_PORT_TIME written (R82). An entry that is not that of a port's first lane slot keeps what is written to it. -/
def State.writePortTime (s : State) (slot : Nat) (w mask : Word) : State :=
  let s1 := if bitOf mask 43 then s.setF TB_PORT_TIME_PTP_EN slot (TB_PORT_TIME_PTP_EN.of w) else s
  if !bitOf mask 0 then s1
  else if s.laterSlot slot then s1.setF TB_PORT_TIME_LINK_DLY slot (TB_PORT_TIME_LINK_DLY.of w)
  else if bitOf mask 48 && TB_PORT_TIME_PATH_GEN.of w == s.getF TB_PORT_TIME_PATH_GEN slot then
    ((s1.setF TB_PORT_TIME_LINK_DLY slot (TB_PORT_TIME_LINK_DLY.of w)).setFlag TB_PORT_TIME_DLY_VALID slot true).tap slot 57 1
  else s1.rejectTime 13

def execLinkDlyWrite (slot : Nat) (lanes : Lanes) (data : Word) (s : State) : Res :=
  s.hostDoes true (s.writePortTime slot data (Lanes.mask lanes))

/-! ### 1PPS (R74, R401) -/

/-- The entry in force at a raw count at or after now, everything that is pending taken in. -/
def State.entryDue (s : State) (r : Nat) : HistEntry :=
  match s.time.commit with
  | some k =>
    if k.at_ ≤ r then
      let e := s.entryAhead k.at_
      { ofs := if k.step then k.ofs else e.at k.at_ 0, raw := k.at_, incr := k.incr, epoch := if k.step then k.epoch else e.epoch }
    else s.entryAhead r
  | none => s.entryAhead r

/-- The entry in force at a raw count, in the past or ahead. -/
def State.entryAny (s : State) (r : Nat) : Option HistEntry :=
  if r < s.rawNow then entryFor s.time.hist r else some (s.entryDue r)

/-- Fabric time passes a whole second in the tick that lies ADVANCE ticks ahead, with no step there: the entry before has come to the same
time (R74). A step that lands on a whole second exactly has not passed it, and gives no pulse (DESIGN CHOICE, log entry 79). -/
def State.ppsDue (s : State) : Bool :=
  let r := s.rawNow + s.getF BD_PPS_ADVANCE 0
  let now := (s.entryDue r).at r 0
  match s.entryAny (r - 1) with
  | some b => decide (0 < r) && b.at r 0 == now && decide (b.at (r - 1) 0 / second40 < now / second40)
  | none => false

def execPpsPulse (s : State) : Res :=
  s.event (s.flag TB_CTRL_PPS_EN 0 && s.running && s.ppsDue)
    { s with time := { s.time with ppsHigh := true, ppsLeft := 156250 } }

def execPpsPulseEnd (s : State) : Res :=
  s.event (s.time.ppsHigh && s.time.ppsLeft == 0) { s with time := { s.time with ppsHigh := false } }

/-! ### The time bus (R71 to R73) -/

/-- The time word of a period (R71). The rule gives the polynomial of CHECK alone: the model starts it from 0 and adds nothing at the end
(DESIGN CHOICE, log entry 71). -/
def timeWordBits (raw fab incr epoch quality : Nat) : BitVec 256 :=
  let disc := if quality == 2 || quality == 3 then 1 else 0
  let body := raw % 2 ^ 80 * 2 ^ 170 + secOf fab * 2 ^ 122 + nsOf fab * 2 ^ 92 + fab % 2 ^ 40 / 2 ^ 16 * 2 ^ 68 +
    incr % 2 ^ 48 * 2 ^ 20 + epoch % 2 ^ 16 * 2 ^ 4 + quality % 8 * 2 + disc
  BitVec.ofNat 256 (crc6 body 250 0 * 2 ^ 250 + body)

/-- The time word for the period that begins at raw count `p`, with the changes due there. -/
def State.wordFor (s : State) (p : Nat) : BitVec 256 :=
  timeWordBits p ((s.entryDue p).at p 0) (s.entryDue p).incr (s.entryDue p).epoch s.quality

/-- The word of a period in which time has not started: no rule says what its time fields then hold, so they are free values. -/
def State.idleWord (s : State) (p : Nat) : BitVec 256 × State :=
  let (a, s1) := s.draw
  let (b, s2) := s1.draw
  let (c, s3) := s2.draw
  (timeWordBits p (a.toNat * second40 + (b.toNat * 2 ^ 64 + c.toNat) % second40) (s.getF TB_INCR_INCR 0) 0 s.quality, s3)

/-- The word that the bus delivers before the period that begins at `p`, and the state that has formed it. -/
def State.nextWord (s : State) (p : Nat) : BitVec 256 × State :=
  if s.running || (s.flag TB_CTRL_RUN 0 && p == s.startDue) then (s.wordFor p, s) else s.idleWord p

/-- What a tile's word says: raw count, fabric time in 2^-40 ns, increment, epoch. -/
def wordRaw (w : BitVec 256) : Nat := w.toNat / 2 ^ 170 % 2 ^ 80
def wordFab (w : BitVec 256) : Nat :=
  w.toNat / 2 ^ 122 % 2 ^ 48 * second40 + w.toNat / 2 ^ 92 % 2 ^ 30 * 2 ^ 40 + w.toNat / 2 ^ 68 % 2 ^ 24 * 2 ^ 16
def wordIncr (w : BitVec 256) : Nat := w.toNat / 2 ^ 20 % 2 ^ 48
def wordEpoch (w : BitVec 256) : Nat := w.toNat / 2 ^ 4 % 2 ^ 16

/-- A good word reaches a tile. The word that it held stays with it for the rest of the present period. -/
def Tile.take (x : Tile) (w : BitVec 256) : Tile :=
  { word := w, prev := if wordRaw x.word == wordRaw w then x.prev else x.word, missed := 0, disc := w.getLsbD 0 }

/-- The word that covers a raw count: the newest whose period has begun. -/
def Tile.wordAt (x : Tile) (raw : Nat) : BitVec 256 := if wordRaw x.word ≤ raw then x.word else x.prev

/-- Tile `i`. -/
def State.tile (s : State) (i : Nat) : Tile := smGet {} s.time.tiles i

/-- Tile `i` replaced. -/
def State.setTile (s : State) (i : Nat) (x : Tile) : State :=
  { s with time := { s.time with tiles := smSet {} s.time.tiles i x } }

/-- A period passes without a good word for tile `i` (R73). -/
def State.missWord (s : State) (i : Nat) : State :=
  let x := s.tile i
  s.setTile i { x with missed := min 4 (x.missed + 1), disc := x.disc && decide (x.missed + 1 < 4) }

/-- The word reaches the 32 tiles; one that fails its check counts in BUS_ERR (R73). -/
def State.deliverWord (s : State) (w : BitVec 256) (bad : List Nat) : Nat → State
  | 0 => s
  | n + 1 =>
    let s1 := s.deliverWord w bad n
    if bad.contains n then (s1.missWord n).incF TB_STATUS_BUS_ERR 0
    else s1.setTile n ((s1.tile n).take w)

def execTimeWord (bad : List Nat) (s : State) : Res :=
  let (w, s1) := s.nextWord ((s.rawNow / 256 + 1) * 256)
  s.event (decide (248 ≤ s.rawNow % 256)) ((s1.deliverWord w bad 32).emit (.timeWord w))

def execTimeWordLoss (tile : Nat) (s : State) : Res := .next (s.missWord tile)

/-- Fabric time as an antenna computes it from its tile's word (R72). -/
def antennaFab (w : BitVec 256) (raw f16 : Nat) : Nat :=
  wordFab w + (raw - wordRaw w) * wordIncr w + f16 * wordIncr w / 65536

/-- The tile of a lane slot: 16 slots a tile. -/
def tileOf (slot : Nat) : Nat := slot / 16

/-! ### Snapshots (R89) -/

/-- A read of TB_SNAP_SHORT latches the other snapshot registers from the same tick; the answer is the short stamp. -/
def State.snapLatch (s : State) : State × Word :=
  let fab := if s.running then s.fabNow else 0
  let s1 := s.setF TB_SNAP_RAW_RAW_LO 0 s.rawNow
  let s2 := (s1.setF TB_SNAP_HI_RAW_HI 0 (s.rawNow / 2 ^ 64)).setF TB_SNAP_HI_SECONDS 0 (secOf fab)
  let s3 := ((s2.setF TB_SNAP_LO_EPOCH 0 s.epoch).setF TB_SNAP_LO_NS 0 (nsOf fab)).setF TB_SNAP_LO_FRAC 0 (fracOf fab)
  (s3, BitVec.ofNat 64 (shortOf fab))

/-- SNAP_READ: a read of TB_SNAP_SHORT, or of one half of it; either half latches (R426). -/
def execSnapRead (lanes : Lanes) (s : State) : Res := s.hostReadsPart true lanes s.snapLatch.2 s.snapLatch.1

end Sys2Proof.Machine
end

