-- ==== Sys2Proof/Machine/Ptp.lean ====
section
/-! DEFINITION. PTP frames: the receive ring and the control transmit slots (R75 to R81). -/

namespace Sys2Proof.Machine

/-! ### Words of a register array -/

/-- Consecutive entries of a register array written from bytes, eight a word. -/
def State.putWords (s : State) (r : Reg) (i : Nat) : Nat → List Byte → State
  | 0, _ => s
  | n + 1, bs => (s.setReg r i (BitVec.ofNat 64 (leNat (bs.take 8)))).putWords r (i + 1) n (bs.drop 8)

/-- The bytes of `n` consecutive entries of a register array. -/
def State.getWords (s : State) (r : Reg) (i : Nat) : Nat → List Byte
  | 0 => []
  | n + 1 => leBytes 8 (s.getReg r i).toNat ++ s.getWords r (i + 1) n

/-! ### The receive ring (R76 to R78) -/

/-- A lane stamp (raw count and 2^-16 of a tick) less `adj` / 2^-16 ns, a tick being 0.64 ns (R43): the correction of R55, which names
the instant at the lane reference plane. A stamp that falls below raw count 0 is taken at 0 (DESIGN CHOICE, log entry 44). -/
def laneStamp (raw f16 : Nat) (adj : Int) : Nat × Nat :=
  let t := ((((raw * 65536 + f16) * 16 : Nat) : Int) - adj * 25).toNat / 16
  (t / 65536, t % 65536)

/-- RX_ADJ of a port, a signed number (R89). -/
def State.rxAdj (s : State) (port : Nat) : Int := (BitVec.ofNat 24 (s.getF TB_LANE_ADJ_RX_ADJ port)).toInt

/-- A lane stamp of ingress at a port, corrected (R55). -/
def State.ingressStamp (s : State) (port raw f16 : Nat) : Nat × Nat := laneStamp raw f16 (s.rxAdj port)

/-- A lane stamp of egress at a port, corrected: the frame crosses the lane TX_ADJ after its start entered the MAC (R55, R81). -/
def State.egressStamp (s : State) (port raw f16 : Nat) : Nat × Nat :=
  laneStamp raw f16 (-(s.getF TB_LANE_ADJ_TX_ADJ port : Nat))

/-- Fabric time of a stamp that has been corrected: converted under R52. -/
def State.fabOf (s : State) (st : Nat × Nat) : Nat := s.fabAt st.1 st.2

/-- Fabric time of an ingress stamp: corrected by the port's RX_ADJ (R55), then converted under R52. -/
def State.ingressFab (s : State) (port raw f16 : Nat) : Nat := s.fabOf (s.ingressStamp port raw f16)

/-- A port stamp taken while its tile has DISC = 0 counts in event 53 (R73, R172). -/
def State.countNoDisc (s : State) (port : Nat) : State := if (s.tile (tileOf port)).disc then s else s.tap port 53 1

/-- A PTP frame: EtherType 0x88F7. -/
def isPtp (frame : List Byte) : Bool := beNat ((frame.drop 12).take 2) == 0x88F7

/-- An entry of the receive ring (R77). The bytes of FRAME beyond the frame's LEN are zeros (DESIGN CHOICE, log entry 105). -/
def State.rxEntry (s : State) (port raw f16 : Nat) (frame : List Byte) : List Byte :=
  let fab := if s.running then s.ingressFab port raw f16 else 0
  let head := (if 96 < frame.length then 2 ^ 63 else 0) + satTo 8 frame.length * 2 ^ 48 + s.pathGen port * 2 ^ 32 +
    s.getF TB_PORT_TIME_PATH_CLASS port * 2 ^ 28 + port % 512
  leBytes 8 head ++ leBytes 8 (shortOf fab) ++ fullBytes fab ++ leBytes 2 (s.epochAt (s.ingressStamp port raw f16).1) ++ leBytes 1 s.quality ++ leBytes 1 0 ++
    padTo 96 frame

/-- A PTP frame that a PTP_EN port received while ENABLE is 1 (R76, R77). -/
def State.receivePtp (s : State) (port raw f16 : Nat) (frame : List Byte) : State :=
  let tail := s.getF TB_RX_PTR_TAIL 0
  if ((frame.drop 18).headD 0).toNat != s.getF TB_PTP_CFG_DOMAIN 0 then s.incF TB_RX_PTR_FOREIGN 0
  else if (tail + 256 - s.getF TB_RX_PTR_HEAD 0) % 256 == 128 then s.incF TB_RX_PTR_DROP 0
  else (s.putWords .RX_RING (tail % 128 * 16) 16 (s.rxEntry port raw f16 frame)).incF TB_RX_PTR_TAIL 0

/-- PTP_RX: on other ports, and while ENABLE is 0, PTP frames are ordinary traffic. Every such frame is stamped by its port, and counts in event
53 while DISC is 0, a foreign or dropped one and one before time has started too (DESIGN CHOICE, log entry 106). -/
def execPtpRx (port raw frac : Nat) (frame : List Byte) (s : State) : Res :=
  s.event (s.flag TB_PTP_CFG_ENABLE 0 && s.flag TB_PORT_TIME_PTP_EN port && isPtp frame) ((((s.receivePtp port raw frac frame).countBlock 15 1).tap port 14 1).countNoDisc port)

/-- TB_RX_PTR.HEAD written (R78). -/
def State.writeRxHead (s : State) (w mask : Word) : State :=
  let head := s.getF TB_RX_PTR_HEAD 0
  let new := TB_RX_PTR_HEAD.of w
  if bitOf mask 0 && decide ((new + 256 - head) % 256 ≤ (s.getF TB_RX_PTR_TAIL 0 + 256 - head) % 256) then
    s.setF TB_RX_PTR_HEAD 0 new
  else s

def execRxRingHeadWrite (data : Word) (s : State) : Res := s.hostDoes true (s.writeRxHead data allBits)

/-! ### Transmit slots (R79 to R81) -/

/-- Transmit slot `i`'s post. -/
def State.txSlot (s : State) (i : Nat) : TxPost := smGet {} s.time.tx i

/-- Transmit slot `i`'s post replaced. -/
def State.setTx (s : State) (i : Nat) (x : TxPost) : State := { s with time := { s.time with tx := smSet {} s.time.tx i x } }

/-- GO (R79): DONE and WD are cleared; with LAUNCH 0 the frame may depart at once. A slot that is still posted is posted anew: a launch that waits for
it and the mark of a step are gone (DESIGN CHOICE, log entry 109). -/
def State.postTx (s : State) (i : Nat) : State :=
  let now := s.getF TX_CTL_LAUNCH i == 0
  ((s.setFlag TX_CTL_DONE i false).setFlag TX_CTL_WD i false).setTx i
    { posted := true, launched := now, port := if now then s.getF TX_CTL_PORT i else 0 }

/-- WITHDRAW of a posted slot whose frame has not departed (R80). -/
def State.withdrawTx (s : State) (i : Nat) : State :=
  if (s.txSlot i).posted then ((s.setFlag TX_CTL_WD i true).setFlag TX_CTL_DONE i true).setTx i {} else s

/-- TB_TX_POST written; GO acts before WITHDRAW. -/
def State.writeTxPost (s : State) (w mask : Word) : State :=
  let i := TB_TX_POST_SLOT.of w
  let s1 := if TB_TX_POST_GO.cmd w mask then s.postTx i else s
  if TB_TX_POST_WITHDRAW.cmd w mask then s1.withdrawTx i else s1

def execTxPost (data : Word) (s : State) : Res := s.hostDoes (TB_TX_POST_GO.on data) (s.writeTxPost data allBits)
def execTxWithdraw (data : Word) (s : State) : Res := s.hostDoes (TB_TX_POST_WITHDRAW.on data) (s.writeTxPost data allBits)

/-- A field of `new` written at a frame offset (0 for none), and whether it lay outside LEN. -/
def insertField (frame : List Byte) (len ofs : Nat) (new : List Byte) : List Byte × Bool :=
  if ofs = 0 then (frame, false)
  else if len < ofs + new.length then (frame, true)
  else (overwrite frame ofs new, false)

/-- The frame of slot `i` with the fields that the antenna writes for departure time `td` (R81), whether one lay outside LEN, and whether one
has been written. Before time has started no departure time is formed (R46), and pathGeneration alone is written. -/
def State.txFrame (s : State) (i port td : Nat) : List Byte × Bool × Bool :=
  let len := s.getF TX_CTL_LEN i
  let f0 := (s.getWords .TX_FRAME (12 * i) 12).take len
  let oo := if s.running then s.getF TX_OFS_OFS_ORIGIN i else 0
  let (f1, e1) := insertField f0 len oo (beBytes 6 (secOf td) ++ beBytes 4 (nsOf td))
  let mode := s.getF TX_OFS_CORR_MODE i
  let oc := if mode == 0 || !s.running then 0 else s.getF TX_OFS_OFS_CORR i
  let prev := beNat ((f1.drop oc).take 8)
  let corr := if mode == 1 then prev + fracOf td
    else prev + shortOf td + 2 ^ 64 - (s.getReg .TX_CORR_REF i).toNat
  let (f2, e2) := insertField f1 len oc (beBytes 8 corr)
  let (f3, e3) := insertField f2 len (s.getF TX_OFS_OFS_GEN i) (beBytes 2 (s.pathGen port))
  (f3, e1 || e2 || e3, (oo != 0 && !e1) || (oc != 0 && !e2) || (s.getF TX_OFS_OFS_GEN i != 0 && !e3))

/-- The frame of slot `i` departs at raw count `raw` and fraction `f16` (R72, R81); before time has started it leaves without a stamp
(R46). Event 31 counts a frame into which a field has been written once, however many it takes (DESIGN CHOICE, log entry 108). -/
def State.departTx (s : State) (i raw f16 : Nat) : State :=
  let x := s.txSlot i
  let w := (s.tile (tileOf x.port)).wordAt raw
  let td := antennaFab w raw f16 + s.getF TB_LANE_ADJ_TX_ADJ x.port * 2 ^ 24
  let (frame, err, inserts) := s.txFrame i x.port td
  let s1 := ((s.setFlag TX_CTL_DONE i true).setFlag TX_CTL_EPX i x.stepped).setFlag TX_CTL_INS_ERR i err
  let s2 := if s.running then
      ((s1.setF TX_CTL_TX_EPOCH i (wordEpoch w)).setReg .TX_STAMP i (BitVec.ofNat 64 (shortOf td))).countNoDisc x.port
    else s1
  let s3 := if err then s2.incF TB_TX_STAT_INS_ERR 0 else s2
  let s4 := if inserts then s3.tap x.port 31 1 else s3
  ((s4.incF TB_TX_STAT_SENT 0).setTx i {}).emit (.ctlFrame x.port (frame ++ leBytes 4 (crc32 frame)))

end Sys2Proof.Machine
end

