-- ==== Sys2Proof/Machine/Gates.lean ====
section
/-! DEFINITION. Sluice gates (R85 to R87) and the gate and timer forms of ATARM and ATCAN (R152, R154). -/

namespace Sys2Proof.Machine

/-- Gate `g`'s copied target and configuration. -/
def State.gate (s : State) (g : Nat) : Gate := smGet {} s.time.gates g

/-- Gate `g` replaced. -/
def State.setGate (s : State) (g : Nat) (x : Gate) : State :=
  { s with time := { s.time with gates := smSet {} s.time.gates g x } }

/-- STATE of gate `g`: 0 IDLE, 1 ARMED, 2 FIRED, 3 LATE, 4 MISSED, 5 CANCELLED, 6 EPOCH. -/
def State.gateState (s : State) (g : Nat) : Nat := s.getF SG_STAT_STATE g

/-- LAUNCH_TICKS of a gate's port (R86). -/
def State.lead (s : State) (x : Gate) : Nat := s.getF TB_LANE_ADJ_LAUNCH_TICKS x.port

/-- How far a fabric time lies past a target, in 2^-16 ns. -/
def targetGap (signedMode : Bool) (lo hi fab : Nat) : Int :=
  if signedMode then signed64 (shortOf fab + 2 ^ 64 - lo % 2 ^ 64)
  else
    let ns := lo / 2 ^ 16 % 2 ^ 32
    let low := if 1000000000 ≤ ns then 1000000000 * 65536 else ns * 65536 + lo % 65536
    ((fab / 2 ^ 24 : Nat) : Int) - ((hi % 2 ^ 48 * 1000000000 * 65536 + low : Nat) : Int)

/-- The comparator of a gate holds at the present tick (R86), or it waits for its turn to act LATE. -/
def State.gateDue (s : State) (g : Nat) : Bool :=
  let x := s.gate g
  s.gateState g == 1 && (x.late.isSome || s.holdsNow (s.lead x) x.signed x.lo x.hi x.epoch)

/-- Ticks for which the comparator of a gate has held without a break before tick `r`, at which it holds under the first entry of `hist`; an older
entry was in force before that entry's raw count. -/
def heldFor (lead : Nat) (x : Gate) : List HistEntry → Nat → Nat
  | [], _ => 0
  | e :: es, r =>
    let fab := e.at (r + lead) 0
    let n := (fab - (fab / 2 ^ 24 - (targetGap x.signed x.lo x.hi fab).toNat) * 2 ^ 24) / e.incr
    let before := match es with
      | p :: _ => decide (p.raw < e.raw) && compares x.signed x.lo x.hi x.epoch (p.at (e.raw - 1 + lead) 0) p.epoch
      | [] => false
    if n < r - e.raw then n else if before then r - e.raw + 1 + heldFor lead x es (e.raw - 1) else r - e.raw

/-- Ticks since the firing tick of a gate that is due (R87). -/
def State.slipOf (s : State) (x : Gate) : Nat := match x.late with
  | some r => s.rawNow - r
  | none => heldFor (s.lead x) x s.time.hist s.rawNow

/-- Nanoseconds between target and launch beyond the bound of R84 (2.0 ns), for a gate that acts now. The launch is taken at the tick at which
the gate acts, LAUNCH_TICKS later: no synchroniser or pipeline adds to it (DESIGN CHOICE, log entry 42). -/
def State.lateOf (s : State) (x : Gate) : Nat :=
  satTo 32 (((targetGap x.signed x.lo x.hi (s.ahead (s.rawNow + s.lead x))).toNat - 2 * 65536) / 65536)

/-- An egress queue of the switch. -/
def State.setEgress (s : State) (port queue : Nat) (e : Egress) : State :=
  { s with time := { s.time with egress := smSet .closed s.time.egress (port * 8 + queue) e } }

/-- The queue as the gates left it; while the block is in reset a scheduled queue behaves as an unscheduled one (R86). -/
def State.egressOf (s : State) (port queue : Nat) : Egress :=
  if s.inReset then .opened else smGet .closed s.time.egress (port * 8 + queue)

/-- An open queue's close time after a further opening: the later of the two (R86). -/
def openUntil (old : Egress) (until_ : Option Nat) : Egress := match old, until_ with
  | .opened, _ => .opened
  | _, none => .opened
  | .until t, some u => .until (max t u)
  | .closed, some u => .until u

/-- What gate `g` does when it fires (R86); `scheduled` and `waiting` say what the switch pipeline holds: the queue is marked
scheduled, and it holds a frame. The close time of an opening is a fabric time: a later step leaves it as it is (DESIGN CHOICE, log
entry 41). -/
def State.act (s : State) (g : Nat) (scheduled waiting : Bool) : State :=
  let x := s.gate g
  if x.action == 0 then
    let p := s.txSlot x.slot
    if p.posted && s.getF TX_CTL_LAUNCH x.slot == 1 then
      s.setTx x.slot { p with launched := true, port := x.port, byGate := some g }
    else s.setFlag SG_STAT_NOFRAME g true
  else
    let s0 := (s.setFlag SG_STAT_NOFRAME g (!scheduled || !waiting)).emit (.egress x.action x.port x.queue)
    let s1 := if scheduled && (x.action == 2 || (x.action == 1 && waiting)) then s0.tap x.port 32 1 else s0
    if !scheduled || x.action == 1 then s1
    else if x.action == 2 then
      s1.setEgress x.port x.queue (openUntil (s.egressOf x.port x.queue)
        (if x.duration = 0 then none else some (s.fabNow + x.duration * 64 * 2 ^ 40)))
    else s1.setEgress x.port x.queue .closed

/-- A gate that ends LATE is counted in events 58 and 59 and in SG_COUNT.LATE; SG_COUNT.FIRED does not count it (DESIGN CHOICE, log
entry 42). -/
def State.countLate (s : State) (g : Nat) : State := ((s.incF SG_COUNT_LATE 0).tap (s.gate g).port 58 1).tap (s.gate g).port 59 1

/-- Gate `g` acts LATE at the present tick, `slip` ticks after its turn among the gates of one tick (R87). -/
def State.actLate (s : State) (g slip : Nat) (scheduled waiting : Bool) : State :=
  let x := s.gate g
  let s1 := ((s.setF SG_STAT_STATE g 3).setF SG_STAT_SLIP g slip).setF SG_STAT_LATE g (s.lateOf x)
  let s2 := s1.countLate g
  ({ s2 with time := { s2.time with lastGate := some g } }.setGate g { x with late := none }).act g scheduled waiting

/-- A gate of a lower number is due at the present tick, and goes first (R87). -/
def State.lowerDue (s : State) (g : Nat) : Bool := s.time.gates.any (fun e => decide (e.1 < g) && s.gateDue e.1)

/-- An armed gate whose target has passed: it acts LATE in this tick (what the pipeline holds then is a free value), or, when a gate
has fired in this tick already or a lower gate is due in it, in its turn (R87). -/
def State.fallLate (s : State) (g : Nat) : State :=
  if s.time.lastGate.isSome || s.lowerDue g then s.setGate g { s.gate g with late := some s.rawNow }
  else
    let (free, s1) := s.draw
    s1.actLate g 0 (free.getLsbD 0) (free.getLsbD 1)

/-- A gate armed (R87). A target that has passed ends LATE at once, or MISSED with NO_LATE. -/
def State.armGate (s : State) (g : Nat) (x : Gate) : State :=
  let x1 := { x with copied := true, epoch := s.epoch }
  let s1 := ((s.setGate g x1).setReg .SG_STAT g 0).setF SG_STAT_STATE g 1
  if s.passed (s.lead x1) x1.signed x1.lo x1.hi x1.epoch then
    if x1.noLate then (s1.setF SG_STAT_STATE g 4).countLate g else s1.fallLate g
  else s1

/-- A configuration word in SG_CFG layout with its target, for an owner. -/
def State.gateOf (s : State) (lo hi cfg : Word) (mode owner : Nat) (noLate : Bool) : Gate :=
  { lo := lo.toNat, hi := hi.toNat, signed := s.cmpSigned mode owner, noLate := noLate, action := SG_CFG_ACTION.of cfg,
    owner := owner, queue := SG_CFG_QUEUE.of cfg, port := SG_CFG_PORT.of cfg, slot := SG_CFG_SLOT.of cfg,
    guard_ := SG_CFG_GUARD.of cfg, duration := SG_CFG_DURATION.of cfg }

/-- The gate that SG_TGT_LO, SG_TGT_HI and SG_CFG stage. -/
def State.stagedGate (s : State) : Gate :=
  let cfg := s.getReg .SG_CFG 0
  s.gateOf (s.getReg .SG_TGT_LO 0) (s.getReg .SG_TGT_HI 0) cfg (SG_CFG_MODE.of cfg) (SG_CFG_TENANT.of cfg)
    (SG_CFG_NO_LATE.on cfg)

/-- A cancel that reaches the comparator before the firing tick (R87); the answer says whether it took effect. -/
def State.cancelGate (s : State) (g : Nat) : State × Bool :=
  if s.gateState g == 1 && !s.gateDue g then (s.setF SG_STAT_STATE g 5, true) else (s, false)

/-- The armed gates of an owner cancelled when it is reset (R85). -/
def State.cancelGatesOf (s : State) (t : Nat) : State :=
  (smKeys (fun g x => x.owner == t && s.gateState g == 1) s.time.gates).foldl (fun s g => s.setF SG_STAT_STATE g 5)
    s

/-- SG_CMD written: ARM, then CANCEL (R20); a CANCEL acts only on a gate that is ARMED when the write arrives (R19). -/
def State.writeSgCmd (s : State) (w mask : Word) : State :=
  let g := SG_CMD_GATE.of w
  let s1 := if SG_CMD_ARM.cmd w mask then s.armGate g s.stagedGate else s
  if SG_CMD_CANCEL.cmd w mask && (s.cancelGate g).2 then (s1.cancelGate g).1 else s1

def execSgArm (data : Word) (s : State) : Res := s.hostDoes (SG_CMD_ARM.on data) (s.writeSgCmd data allBits)
def execSgCancel (data : Word) (s : State) : Res := s.hostDoes (SG_CMD_CANCEL.on data) (s.writeSgCmd data allBits)

/-- Gate `g` fires, `slip` ticks after its firing tick; LATE shows how far that takes the launch beyond the bound of R84. -/
def State.fireGate (s : State) (g slip : Nat) (scheduled waiting : Bool) : State :=
  if (s.gate g).late.isSome then s.actLate g slip scheduled waiting
  else
    let s0 := ((s.setF SG_STAT_STATE g 2).setF SG_STAT_SLIP g slip).setF SG_STAT_LATE g (s.lateOf (s.gate g))
    let s1 := (s0.incF SG_COUNT_FIRED 0).tap (s.gate g).port 58 1
    { s1 with time := { s1.time with lastGate := some g } }.act g scheduled waiting

/-- The instant (`raw`, `f16`) lies within GUARD ns before the target of gate `g` (R87). -/
def Gate.guards (x : Gate) (fab : Nat) : Bool :=
  let gap := targetGap x.signed x.lo x.hi fab
  decide (gap < 0) && decide (-(x.guard_ * 65536 : Nat) ≤ gap)

/-- A gate other than `own` that is armed, or has acted (FIRED or LATE) before its target, keeps port `port` from starting a frame at that instant. -/
def State.guarded (s : State) (port : Nat) (own : Option Nat) (raw f16 : Nat) : Bool :=
  s.running && s.time.gates.any (fun e =>
    e.2.port == port && own != some e.1 && (s.gateState e.1 == 1 || s.gateState e.1 == 2 || s.gateState e.1 == 3) && e.2.guards (s.fabAt raw f16))

/-- TX_DEPART: the start of a posted frame that nothing holds back enters its egress MAC. The frame that a gate launches starts before
its target, so that gate's own guard does not hold it. -/
def execTxDepart (slot raw frac : Nat) (s : State) : Res :=
  let x := s.txSlot slot
  s.event (x.posted && x.launched && !s.guarded x.port x.byGate raw frac) (s.departTx slot raw frac)

/-- GATE_FIRE: one gate a tick, the lowest of those that are due (R87). -/
def execGateFire (gate : Nat) (scheduled waiting : Bool) (s : State) : Res :=
  s.event (s.gateDue gate && s.time.lastGate.isNone && !s.lowerDue gate)
    (s.fireGate gate (s.slipOf (s.gate gate)) scheduled waiting)

/-- GATE_DELAYED_LAUNCH: the launch waits for the end of a frame, and LATE records the delay (R87), the whole of it and not what of it lies beyond
2.0 ns (DESIGN CHOICE, log entry 42). -/
def execGateDelayedLaunch (gate delayNs : Nat) (s : State) : Res :=
  s.event (s.gateState gate == 2 || s.gateState gate == 3)
    (s.setF SG_STAT_LATE gate (satTo 32 (s.getF SG_STAT_LATE gate + delayNs)))

/-- EGRESS_OPEN_EXPIRE: the queue closes at its close time (R86). -/
def execEgressOpenExpire (port queue : Nat) (s : State) : Res :=
  match s.egressOf port queue with
  | .until t => s.event (decide (t ≤ s.fabNow)) (s.setEgress port queue .closed)
  | _ => .next s

/-! ### ATARM and ATCAN -/

/-- Gate `g` lies in the range of tenant `t` (R85, R97). -/
def State.ownsGate (s : State) (t g : Nat) : Bool :=
  decide (s.getF TN_GATES_BASE t ≤ g) && decide (g < s.getF TN_GATES_BASE t + s.getF TN_GATES_COUNT t)

/-- Another owner has armed gate `g` (R85). -/
def State.foreignArm (s : State) (t g : Nat) : Bool := s.gateState g == 1 && (s.gate g).owner != t

/-- ATARM (R152). KIND 1: a reserved ACTION traps with OPERAND before the alignment and the rights are judged (R167). When the descriptor
and the gate both break ACCESS, INFO is the descriptor's address (DESIGN CHOICE, log entry 97). -/
def execAtarm (c : Nat) (f : FmtT) (s : State) : Res :=
  let ctl := f.ctl.toNat
  let mode := ctl / 32 % 4
  s.issueT c 0x28 f (f.rd != 0 || ctl / 4 % 4 != 0 || mode == 3 || (ctl < 128 && ctl / 16 % 2 == 1)) (fun s1 =>
    let x := s1.ctx c
    let t := s1.tenantOf c
    if ctl < 128 then
      if !s1.running then s1.status c f false
      else
        let y := s1.armTimer (s1.cmpSigned mode t) (x.gr f.ra).toNat (x.gr f.rb).toNat
        (s1.setCtx c (x.setTimer (ctl % 4) y)).status c f true
    else
      let a := (x.gr f.ra).toNat
      let g := (x.gr f.rb).toNat % 4096
      let word := fun k => BitVec.ofNat 64 (leNat (s1.scrBytes c (a + 8 * k) 8))
      let cfg : Word := word 2
      if s1.inScratch c a 24 && decide (4 ≤ SG_CFG_ACTION.of cfg) then .trap 0x000A (encT 0x28 f) s1
      else if a % 8 != 0 then .trap 0x0003 a s1
      else if !s1.inScratch c a 24 then .trap 0x0004 a s1
      else if !s1.ownsGate t g then .trap 0x0004 g s1
      else if !s1.running then s1.status c f false
      else if s1.foreignArm t g then s1.status c f false
      else (s1.armGate g (s1.gateOf (word 0) (word 1) cfg mode t (ctl / 16 % 2 == 1))).status c f true)

/-- ATCAN (R154, R165). -/
def execAtcan (c : Nat) (f : FmtT) (s : State) : Res :=
  let ctl := f.ctl.toNat
  s.issueT c 0x29 f (f.rd != 0 || f.ra != 0 || ctl / 4 % 32 != 0) (fun s1 =>
    let x := s1.ctx c
    let t := s1.tenantOf c
    if ctl < 128 then
      let y := x.timer (ctl % 4)
      if y.state == 1 && !s1.holdsNow 0 y.signed y.lo y.hi y.epoch then
        (s1.setCtx c (x.setTimerState (ctl % 4) 0)).status c f true
      else s1.status c f false
    else
      let g := (x.gr f.rb).toNat % 4096
      if !s1.ownsGate t g then .trap 0x0004 g s1
      else if s1.foreignArm t g then s1.status c f false
      else
        let (s2, ok) := s1.cancelGate g
        s2.status c f ok)

end Sys2Proof.Machine
end

