-- ==== Sys2Proof/Machine/Taps.lean ====
section
/-! DEFINITION. Antennas and their records, the central counter RAM, harvests and the rake (R171 to R196), and the grant of ports (R96,
R117). -/

namespace Sys2Proof.Machine

/-! ### Ports (R96, R117, R171) -/

/-- The port that lane slot `a` belongs to, by first lane slot. -/
def State.portOf (s : State) (a : Nat) : Option Nat :=
  (s.taps.ports.find? (fun e => decide (e.1 ≤ a) && decide (a < e.1 + e.2))).map (·.1)

/-- The tenant to which a port is granted (R96): the lowest that is not FREE and names its first lane slot. -/
def State.portOwner (s : State) (p : Nat) : Option Nat :=
  if s.firstSlot p then
    (List.range 64).find? (fun t => s.tnState t != 0 && bitOf (s.getReg .TN_PORT_MASK (8 * t + p / 64)) (p % 64))
  else none

/-- The tenant of an antenna's records (R26). -/
def State.antTenant (s : State) (a : Nat) : Nat :=
  match s.portOf a with
  | some p => (s.portOwner p).getD s.sysTenant
  | none => s.sysTenant

/-- Tenant `t` may read counter `i` (R117). -/
def State.countable (s : State) (t i : Nat) : Bool :=
  decide (i < 36864) && (t == s.sysTenant ||
    (decide (i < 32768) && (match s.portOf (i / 64) with | some p => s.portOwner p == some t | none => false)))

/-- What the first antenna of port `p` gathers. -/
def State.portStat (s : State) (p : Nat) : PortStat := smGet {} s.taps.stats p

/-- That replaced. -/
def State.setStat (s : State) (p : Nat) (x : PortStat) : State :=
  { s with taps := { s.taps with stats := smSet {} s.taps.stats p x } }

/-- The index of the summary interval in which a tile stands (R190). -/
def State.summaryIdx (s : State) (p : Nat) : Nat :=
  antennaFab ((s.tile (tileOf p)).wordAt s.rawNow) s.rawNow 0 / (2 ^ s.getF AN_PCFG_INTV p * 1000 * 2 ^ 40)

/-- PORT_RECONFIGURE: the port at `first` takes `width` lanes, 0 to disable it; ports whose lanes it takes are gone. The tagged packets
under way go on and return their stamps as before (R192). -/
def State.reconfigure (s : State) (first width : Nat) : State :=
  let others := s.taps.ports.filter (fun e => !(e.1 == first) && !(decide (first < e.1 + e.2) && decide (e.1 < first + width)))
  let gone := (s.taps.ports.filter (fun e => !others.contains e)).map (·.1)
  let s1 := { s with taps := { s.taps with
    ports := smSet 0 others first width, stats := gone.foldl (fun m p => smSet {} m p { flights := (s.portStat p).flights }) s.taps.stats } }
  if width = 0 then s1 else s1.setStat first { flights := (s.portStat first).flights, sumIdx := s1.summaryIdx first }

/-- AN_PCFG written. Setting SLOT_EN or SAMP_EN within an interval makes its summary or sample PARTIAL (R190, R194), and a write of INTV
makes the next boundary of the new interval the one to come; the summary there keeps the slots counted since the last old boundary and is not
PARTIAL for the write (DESIGN CHOICE, log entry 78). -/
def State.writePcfg (s : State) (p : Nat) (w mask : Word) : State :=
  let s1 := s.store .AN_PCFG p w mask false
  if !s.firstSlot p then s1
  else
    let x := s1.portStat p
    s1.setStat p { x with
      sumPartial := x.sumPartial || (s1.flag AN_PCFG_SLOT_EN p && !s.flag AN_PCFG_SLOT_EN p)
      samplePartial := x.samplePartial || (s1.flag AN_PCFG_SAMP_EN p && !s.flag AN_PCFG_SAMP_EN p)
      sumIdx := if s1.getF AN_PCFG_INTV p == s.getF AN_PCFG_INTV p then x.sumIdx else s1.summaryIdx p }

/-- The port tiles apply the change, which are no part of the block: in block reset too. -/
def execPortReconfigure (first width : Nat) (s : State) : Res :=
  .next (if first < 512 && first + width ≤ 512 then s.reconfigure first width else s)

/-! ### Events and flushes (R172, R173) -/

/-- The waste part of an egress slot, by the first row of R188 that matches: 0 REPLAY, 1 DUP, 2 DROP, 3 ABORT, 4 PAD. -/
def EgressSlot.waste (x : EgressSlot) : Option Nat :=
  if x.replay then some 0
  else if x.dup then some 1
  else if x.drop then some 2
  else if x.abort then some 3
  else if x.fill then some 4
  else none

/-- The class of an egress slot (R188): 0 DELIVERED, 1 WASTED, 2 FRONT_STARVED, 3 BACK_STARVED, the events from 60 on. -/
def EgressSlot.cls (x : EgressSlot) : Nat :=
  if (EgressSlot.waste x).isSome then 1
  else if x.packet || x.control then 0
  else if x.blocked then 3
  else 2

/-- Event and amount of what an antenna has seen: an egress slot is one event of its class. -/
def AntEvent.ev : AntEvent → Nat
  | .count ev _ => ev
  | .slot x => 60 + EgressSlot.cls x
def AntEvent.amount : AntEvent → Nat
  | .count _ n => n
  | .slot _ => 1

/-- An event at a port enters the summary and the sample of its interval (R190, R194). -/
def PortStat.note (x : PortStat) : AntEvent → PortStat
  | .slot e =>
    let x1 := { x with slots := smSet 0 x.slots (EgressSlot.cls e) (smGet 0 x.slots (EgressSlot.cls e) + 1) }
    let x2 := match EgressSlot.waste e with
      | some w => { x1 with parts := smSet 0 x1.parts w (smGet 0 x1.parts w + 1) }
      | none => x1
    if EgressSlot.cls e == 3 then { x2 with stallOut := x2.stallOut + 1 } else x2
  | .count ev n =>
    if ev == 44 then { x with stallIn := x.stallIn + n }
    else if ev == 33 then { x with gate := x.gate + n }
    else x

/-- ANTENNA_EVENT. The classes of the egress slots are counted by slots alone. -/
def execAntennaEvent (a : Nat) (e : AntEvent) (s : State) : Res :=
  let s1 := s.tap a (AntEvent.ev e) (AntEvent.amount e)
  s.event (decide (a < 512) && e.ok) (if s.firstSlot a then s1.setStat a ((s1.portStat a).note e) else s1)

/-- CHIP_EVENT: chip counter `n` advances (R175). -/
def execChipEvent (n : Nat) (s : State) : Res := s.event (decide (n < 3584)) (s.addCounter (33280 + n) 1)

/-- Tile `k`. -/
def State.tapTile (s : State) (k : Nat) : TapTile := smGet {} s.taps.tiles k

/-- Tile `k` replaced. -/
def State.setTapTile (s : State) (k : Nat) (x : TapTile) : State :=
  { s with taps := { s.taps with tiles := smSet {} s.taps.tiles k x } }

/-- An entry pushed into a tile's flush queue; it waits while the queue holds 128 entries (R24, R25). -/
def TapTile.push (x : TapTile) (e : FlushEnt) : TapTile :=
  if decide (x.queue.length < 128) && x.wait.isEmpty then { x with queue := x.queue ++ [e] } else { x with wait := x.wait ++ [e] }

/-- The queue without its first entry, `rest`: what waits moves up. -/
def TapTile.pop (x : TapTile) (rest : List FlushEnt) : TapTile :=
  { x with queue := rest ++ x.wait.take (128 - rest.length), wait := x.wait.drop (128 - rest.length) }

/-- The queue can take an entry. -/
def TapTile.room (x : TapTile) : Bool := decide (x.queue.length < 128) && x.wait.isEmpty

/-- The accumulator of antenna counter `i`. -/
def State.acc (s : State) (i : Nat) : Nat := smGet 0 s.taps.acc i

/-- The accumulator set. -/
def State.setAcc (s : State) (i v : Nat) : State := { s with taps := { s.taps with acc := smSet 0 s.taps.acc i v } }

/-- ANTENNA_FLUSH: the next accumulator of the antenna's walk enters the flush queue, unless the queue holds 128 entries (R24, R25). -/
def State.flushAntenna (s : State) (a : Nat) : State :=
  let k := tileOf a
  let x := s.tapTile k
  let ev := smGet 0 s.taps.walk a
  let i := 64 * a + ev
  if !x.room then s
  else
    let s1 := (s.setTapTile k { x with queue := x.queue ++ [.flush i (s.acc i) x.tag] }).setAcc i 0
    { s1 with taps := { s1.taps with walk := smSet 0 s1.taps.walk a ((ev + 1) % 64) } }

def execAntennaFlush (a : Nat) (s : State) : Res := s.event (decide (a < 512)) (s.flushAntenna a)

/-- A flush of tile `k` reaches the central RAM (R182). -/
def State.applyFlush (s : State) (k i v : Nat) (tag : Bool) : State :=
  let s1 := s.addCounter i v
  match s1.taps.run with
  | some r =>
    if (s1.tapTile k).building == some tag then
      let n := (smGet 0 r.build i).toNat + v
      let r1 := { r with build := smSet 0 r.build i (BitVec.ofNat 64 n), ovf := if n < 2 ^ 64 then r.ovf else smSet false r.ovf i true }
      { s1 with taps := { s1.taps with run := some r1 } }
    else s1
  | none => s1

/-- The central values of the counters `[i, i + n)` copied into the build bank (R182). -/
def State.copyBuild (s : State) (i n : Nat) (r : HvRun) : HvRun :=
  (List.range n).foldl (fun r j =>
    { r with build := smSet 0 r.build (i + j) (s.getReg .CTR_LIVE (i + j)), ovf := smSet false r.ovf (i + j) (s.arrBit .CTR_OVF (i + j)) }) r

/-- The next latched value of a building tile applied; after the last one the tile is complete. -/
def State.applyLatched (s : State) (k : Nat) : State :=
  let x := s.tapTile k
  match x.latched, x.building with
  | (i, v) :: rest, some tag =>
    let s1 := (s.applyFlush k i v tag).setTapTile k { x with latched := rest }
    if rest.isEmpty then
      let s2 := s1.setTapTile k { x with latched := [], building := none }
      match s2.taps.run with
      | some r => { s2 with taps := { s2.taps with run := some { r with complete := r.complete ++ [k] } } }
      | none => s2
    else s1
  | _, _ => s

/-- FLUSH_APPLY: the central RAM takes the tile's next entry; the values latched by a harvest follow its marker at once. A phase flush at the
head goes to the checker (R260). -/
def State.applyEntry (s : State) (k : Nat) : State :=
  let x := s.tapTile k
  if x.building.isSome then s.applyLatched k
  else match x.queue with
    | [] => s
    | .flush i v tag :: rest => (s.setTapTile k (x.pop rest)).applyFlush k i v tag
    | .preset i v :: rest => (s.setTapTile k (x.pop rest)).setReg .CTR_LIVE i v
    | .phase _ :: _ => s
    | .marker tag :: rest =>
      let s1 := s.setTapTile k { x.pop rest with building := some tag }
      match s1.taps.run with
      | some r => { s1 with taps := { s1.taps with run := some (s1.copyBuild (1024 * k) 1024 r) } }
      | none => s1

def execFlushApply (tile : Nat) (s : State) : Res := s.event (decide (tile < 32)) (s.applyEntry tile)

/-! ### Live reads and presets (R176, R178) -/

/-- What the entries of a flush queue make of counter `i`; the values that a harvest has latched (`local_` in all for it) follow the
marker. -/
def pendingValue (i local_ : Nat) : List FlushEnt → Nat → Nat
  | [], v => v
  | .flush j n _ :: es, v => pendingValue i local_ es (if j == i then v + n else v)
  | .preset j n :: es, v => pendingValue i local_ es (if j == i then n.toNat else v)
  | .phase _ :: es, v => pendingValue i local_ es v
  | .marker _ :: es, v => pendingValue i local_ es (v + local_)

/-- Some entry of a flush queue carries counter `i`, whose value is `v` before them, past 2^64 − 1. -/
def pendingWrap (i local_ : Nat) : List FlushEnt → Nat → Bool
  | [], _ => false
  | .flush j n _ :: es, v => if j == i then decide (2 ^ 64 ≤ v % 2 ^ 64 + n) || pendingWrap i local_ es (v + n) else pendingWrap i local_ es v
  | .preset j n :: es, v => pendingWrap i local_ es (if j == i then n.toNat else v)
  | .phase _ :: es, v => pendingWrap i local_ es v
  | .marker _ :: es, v => decide (2 ^ 64 ≤ v % 2 ^ 64 + local_) || pendingWrap i local_ es (v + local_)

/-- The latched values of counter `i` that a tile still pushes. -/
def latchedSum (i : Nat) (es : List (Nat × Nat)) : Nat := ((es.filter (fun e => e.1 == i)).map (·.2)).sum

/-- The live value of a counter: central plus local (R176); a block or chip counter is read directly. -/
def State.liveValue (s : State) (i : Nat) : Word :=
  if i < 32768 then
    let x := s.tapTile (i / 1024)
    let central := (s.getReg .CTR_LIVE i).toNat
    let n := latchedSum i x.latched
    BitVec.ofNat 64 (pendingValue i n (x.queue ++ x.wait) (if x.building.isSome then central + n else central) + s.acc i)
  else s.getReg .CTR_LIVE i

/-- The OVF flag of a counter as a read token meets it, behind every flush already sent (R143, R176). -/
def State.liveOvf (s : State) (i : Nat) : Bool :=
  let x := s.tapTile (i / 1024)
  let central := (s.getReg .CTR_LIVE i).toNat
  let n := latchedSum i x.latched
  s.arrBit .CTR_OVF i || (decide (i < 32768) &&
    if x.building.isSome then decide (2 ^ 64 ≤ central + n) || pendingWrap i n (x.queue ++ x.wait) (central + n)
    else pendingWrap i n (x.queue ++ x.wait) central)

def execLiveRead (i : Nat) (s : State) : Res :=
  s.hostReads (decide (i < 36864)) { s with hostResp := some (s.liveValue i) }

/-- A preset from the cycle in which it arrives (R178): the events before it, local or in flight, are discarded, and a harvest that has
already latched is not touched. Flushes in flight reach the central value before the preset takes its place, and may set OVF as they do
(DESIGN CHOICE, log entry 76). A reserved block counter reads zero whatever is written to it (R175). -/
def State.preset (s : State) (i : Nat) (v : Word) : State :=
  if i < 32768 then
    let k := i / 1024
    let x := s.tapTile k
    (s.setTapTile k (x.push (.preset i v))).setAcc i 0
  else if decide (32784 ≤ i) && decide (i < 33280) then s
  else s.setReg .CTR_LIVE i v

def execCounterPreset (i : Nat) (data : Word) (s : State) : Res := s.hostDoes (decide (i < 36864)) (s.preset i data)

/-- RDCTR (R143): BANK 0 the live array with OVF, BANK 1 the harvest shadow with its OVF. -/
def execRdctr (c : Nat) (f : FmtT) (s : State) : Res :=
  s.issueT c 0x21 f (f.rb != 0 || 2 ≤ f.ctl.toNat) (fun s1 =>
    let i := ((s1.ctx c).gr f.ra).toNat
    if !s1.countable (s1.tenantOf c) i then .trap 0x0004 i s1
    else if f.ctl = 0 then s1.result c f (s1.liveValue i) (s1.liveOvf i)
    else s1.result c f (s1.getReg .HV_SHADOW i) (s1.arrBit .HV_OVF i))

/-! ### Harvest requests (R180) -/

/-- The calendar replaced; PENDING follows. -/
def State.setCal (s : State) (c : List HvReq) : State :=
  ({ s with taps := { s.taps with cal := c } }).setF HV_STAT2_PENDING 0 c.length

/-- The entry in force and the tick from which it counts: the present one, or before time has started the tick at which it starts, at 0 with
TB_INCR; while RUN is 0, one that lies 2^80 ticks ahead stands for it (DESIGN CHOICE, log entry 41). -/
def State.inForce (s : State) : HistEntry × Nat := match s.newest with
  | some e => (e, s.rawNow)
  | none =>
    let r := if s.flag TB_CTRL_RUN 0 then s.startDue else s.rawNow + 2 ^ 80
    ({ ofs := 0, raw := r, incr := s.getF TB_INCR_INCR 0, epoch := 0 }, r)

/-- Ticks from now until a target is reached under the entry in force. -/
def State.ticksTo (s : State) (signedMode : Bool) (lo hi : Nat) : Nat :=
  let (e, r) := s.inForce
  let fab := e.at r 0
  let gap := targetGap signedMode lo hi fab
  (r - s.rawNow) + if 0 ≤ gap then 0 else cdiv ((fab / 2 ^ 24 + (-gap).toNat) * 2 ^ 24 - fab) (max 1 e.incr)

/-- The tick for which a calendar entry is set. -/
def State.dueTick (s : State) (r : HvReq) : Nat :=
  if r.timed && !r.late then s.rawNow + s.ticksTo r.signed r.lo r.hi else r.tick

/-- Two ticks lie within 1,600 ticks of each other. -/
def near (a b : Nat) : Bool := decide (a ≤ b + 1600) && decide (b ≤ a + 1600)

/-- A request enters the calendar: merged with a pending harvest, given a free entry, or refused. -/
def State.enterCalendar (s : State) (r : HvReq) (at_ : Nat) : State × Option Nat :=
  match s.taps.cal.find? (fun e => near (s.dueTick e) at_) with
  | some e =>
    (s.setCal (s.taps.cal.map (fun x => if x.num == e.num then { x with rake := x.rake || r.rake } else x)), some e.num)
  | none =>
    if 8 ≤ s.taps.cal.length then (s.incF HV_STAT2_REFUSED 0, none)
    else
      let n := s.taps.nextNum
      let s1 := { s with taps := { s.taps with nextNum := if n = 2 ^ 32 - 1 then 1 else n + 1 } }
      (s1.setCal (s1.taps.cal ++ [{ r with num := n }]), some n)

/-- A request for a harvest (R180): merged with one within 1,600 ticks, given the next number and a calendar entry, or refused. Where it lies so
near to several, the running one goes first, and then the one accepted first (DESIGN CHOICE, log entry 76). The answer is the harvest's
number. -/
def State.requestHarvest (s : State) (r : HvReq) : State × Option Nat :=
  let at_ := s.dueTick r
  match s.taps.run with
  | some h =>
    if near h.tick at_ then
      ({ s with taps := { s.taps with run := some { h with rake := h.rake || r.rake } } }, some h.num)
    else s.enterCalendar r at_
  | none => s.enterCalendar r at_

/-- An immediate request: the first tick at least 64 ticks away. -/
def State.immediateReq (s : State) : HvReq := { num := 0, timed := false, tick := s.rawNow + 64 }

/-- A timed request in a comparator mode; a target that has passed is LATE and due now (R69). -/
def State.timedReq (s : State) (signedMode : Bool) (lo hi : Nat) : HvReq :=
  { num := 0, timed := true, tick := s.rawNow, signed := signedMode, lo := lo, hi := hi, epoch := s.epoch,
    late := s.passed 0 signedMode lo hi s.epoch }

/-- HV_CMD written with GO. The reserved MODE 3 alone is discarded (R10): the request then takes the default, MODE 0. -/
def State.writeHvCmd (s : State) (w mask : Word) : State :=
  if !HV_CMD_GO.cmd w mask then s
  else
    let r := if HV_CMD_TIMED.cmd w mask then
        s.timedReq (s.cmpSigned (HV_CMD_MODE.of w % 3) s.sysTenant) (s.getReg .HV_TGT_LO 0).toNat (s.getReg .HV_TGT_HI 0).toNat
      else s.immediateReq
    match s.requestHarvest r with
    | (s1, some n) => s1.setF HV_STAT_ACCEPTED 0 n
    | (s1, none) => s1

def execHarvestRequest (data : Word) (s : State) : Res := s.hostDoes (HV_CMD_GO.on data) (s.writeHvCmd data allBits)

/-- HARVEST (R156): accepted from every tenant with PROG_EN, else from the system tenant alone. A refused request leaves rd as it is. -/
def execHarvest (c : Nat) (f : FmtT) (s : State) : Res :=
  let ctl := f.ctl.toNat
  s.issueT c 0x2A f (ctl % 32 != 0 || ctl / 32 % 4 == 3) (fun s1 =>
    let x := s1.ctx c
    let t := s1.tenantOf c
    if !s1.flag HV_CFG_PROG_EN 0 && t != s1.sysTenant then s1.status c f false
    else
      let r := if 128 ≤ ctl then s1.timedReq (s1.cmpSigned (ctl / 32 % 4) t) (x.gr f.ra).toNat (x.gr f.rb).toNat else s1.immediateReq
      match s1.requestHarvest r with
      | (s2, some n) => s2.result c f (BitVec.ofNat 64 n) true
      | (s2, none) => s2.status c f false)

/-! ### Harvests (R181 to R185) -/

/-- A calendar entry's tick has come. -/
def State.harvestDue (s : State) (r : HvReq) : Bool :=
  if r.timed && !r.late then s.holdsNow 0 r.signed r.lo r.hi r.epoch else decide (r.tick ≤ s.rawNow)

/-- The harvest tick: the strobe goes out, and the block and chip counters are latched. -/
def State.startHarvest (s : State) (r : HvReq) : State :=
  let tick := if r.timed then s.rawNow else r.tick
  let h : HvRun := { num := r.num, tick := tick, short := shortOf (s.fabAt tick 0), epoch := s.epochAt tick, late := r.late, rake := r.rake }
  let s1 := s.setCal (s.taps.cal.filter (fun x => x.num != r.num))
  ({ s1 with taps := { s1.taps with run := some (s1.copyBuild 32768 4096 h) } }).emit (.harvestStrobe r.num)

def execHarvestTick (number : Nat) (s : State) : Res :=
  match s.taps.cal.find? (fun r => r.num == number) with
  | some r => s.event (s.taps.run.isNone && s.harvestDue r) (s.startHarvest r)
  | none => .next s

/-- The latch cycle of tile `k`: accumulators copied and zeroed, H inverted, a marker pushed. -/
def State.latchTile (s : State) (k : Nat) (r : HvRun) : State :=
  let x := s.tapTile k
  let vals := (List.range 1024).map (fun j => (1024 * k + j, s.acc (1024 * k + j)))
  let s1 := s.setTapTile k { x.push (.marker x.tag) with latched := vals, tag := !x.tag }
  { s1 with taps := { s1.taps with
      acc := s1.taps.acc.filter (fun e => !(e.1 / 1024 == k)), run := some { r with latched := r.latched ++ [k] } } }

def execHarvestLatch (tile : Nat) (s : State) : Res :=
  match s.taps.run with
  | some r => s.event (decide (tile < 32) && !r.latched.contains tile) (s.latchTile tile r)
  | none => .next s

/-- The data of counters `[i, i + n)` of the shadow. -/
def State.shadowBytes (s : State) (i n : Nat) : List Byte :=
  (List.range n).flatMap (fun j => leBytes 8 (s.getReg .HV_SHADOW (i + j)).toNat)

/-- Bit `j` is the shadow OVF of counter `i + j`. -/
def State.shadowOvf (s : State) (i n : Nat) : Nat :=
  ((List.range n).map (fun j => if s.arrBit .HV_OVF (i + j) then 2 ^ j else 0)).sum

/-- A HARVEST_BLOCK record formed (R185). -/
def State.harvestBlock (s : State) (r : HvRun) (tenant format count number first w : Nat) (data : List Byte) : State :=
  let p := leBytes 1 format ++ leBytes 1 count ++ leBytes 1 r.late.toNat ++ leBytes 1 0 ++ leBytes 4 number ++ leBytes 4 first ++
    leBytes 4 w ++ data
  s.form { typ := 0x71, slots := 8, cls := 3, tenant := tenant, source := 0x8307, seq := 0, stamp := r.short, payload := p, epoch := r.epoch }

/-- Counters `[i, i + n)` dumped for a tenant. -/
def State.dumpCounters (s : State) (r : HvRun) (tenant i n : Nat) : State :=
  s.harvestBlock r tenant 0 n r.num i (s.shadowOvf i n) (s.shadowBytes i n)

/-- The records of the first `n` antennas. -/
def State.dumpAntennas (s : State) (r : HvRun) : Nat → State
  | 0 => s
  | n + 1 =>
    let s1 := s.dumpAntennas r n
    let t := s1.antTenant n
    ((s1.dumpCounters r t (64 * n) 28).dumpCounters r t (64 * n + 28) 28).dumpCounters r t (64 * n + 56) 8

/-- The first `n` of the 147 records of block and chip counters. -/
def State.dumpOthers (s : State) (r : HvRun) : Nat → State
  | 0 => s
  | n + 1 => (s.dumpOthers r n).dumpCounters r s.sysTenant (32768 + 28 * n) (min 28 (4096 - 28 * n))

/-- The harvest image starts, or is skipped while its predecessor is being written (R184). -/
def State.startImage (s : State) (r : HvRun) : State :=
  if s.flag HV_STAT2_DMA_BUSY 0 then s.incF HV_STAT2_DMA_SKIP 0
  else
    let h := leBytes 4 0x48565354 ++ leBytes 4 r.num ++ leBytes 8 r.short ++ leBytes 2 r.epoch ++ leBytes 2 s.blockId ++ leBytes 44 0
    let im : HvImage := { tenant := s.sysTenant, addr := s.getF HV_DMA_ADDR 0, header := h, values := r.build, ovf := r.ovf }
    ({ s with taps := { s.taps with image := some im } }.setFlag HV_STAT2_DMA_BUSY 0 true).startStream s.sysTenant 10

/-- The bytes of a harvest image behind its header. -/
def HvImage.body (m : HvImage) : List Byte :=
  (List.range 36864).flatMap (fun i => leBytes 8 (smGet 0 m.values i).toNat) ++
    (List.range 576).flatMap (fun w => leBytes 8 ((List.range 64).map (fun b => if smGet false m.ovf (64 * w + b) then 2 ^ b else 0)).sum)

/-- HARVEST_IMAGE_COMPLETE: the image written, its header last; POS counts the 299,520 bytes behind the header first. -/
def State.finishImage (s : State) (m : HvImage) : State :=
  match s.streamWrite m.tenant (m.addr + 64) true 4680 m.body with
  | (s1, some (cause, va)) => s1.stallStream m.tenant 10 cause va (va - (m.addr + 64))
  | (s1, none) => match s1.streamWrite m.tenant m.addr true 1 m.header with
    | (s2, some (cause, va)) => s2.stallStream m.tenant 10 cause va 299520
    | (s2, none) =>
      ({ s2 with taps := { s2.taps with image := none } }.setFlag HV_STAT2_DMA_BUSY 0 false).completeStream m.tenant 10 299584

def execHarvestImageComplete (s : State) : Res :=
  match s.taps.image with
  | some m => s.event (s.dsState m.tenant 10 == 1) (s.finishImage m)
  | none => .next s

/-! ### The rake (R186, R187, R196) -/

/-- Bytes filled with zeros to a multiple of 64. -/
def padTo64 (bs : List Byte) : List Byte := padTo (cdiv bs.length 64 * 64) bs

/-- Counter number `j` of RK_LIST. -/
def State.rakeIndex (s : State) (j : Nat) : Nat :=
  bitsOf (s.getReg .RK_LIST (j / 4)) (16 * (j % 4) + 15) (16 * (j % 4))

/-- A rake entry (R187). -/
def State.rakeEntry (s : State) (r : HvRun) (seq : Nat) : List Byte :=
  let n := s.getF RK_CFG_COUNT 0
  let idx := (List.range n).map s.rakeIndex
  let any := idx.any (fun i => s.arrBit .HV_OVF i)
  let head := leBytes 4 0x4D424C33 ++ leBytes 4 seq ++ leBytes 8 (r.short / 2 ^ 16) ++ leBytes 2 n ++ leBytes 2 any.toNat ++
    leBytes 2 s.blockId ++ leBytes 10 0
  padTo64 (head ++ idx.flatMap (fun i =>
    leBytes 2 i ++ leBytes 1 (s.arrBit .HV_OVF i).toNat ++ leBytes 5 0 ++ leBytes 8 (s.getReg .HV_SHADOW i).toNat))

/-- Length of the ring in bytes. -/
def State.rakeLen (s : State) : Nat := s.getF RK_RING_LEN 0 * 65536

/-- Free bytes of the ring; 64 are always left free. -/
def State.rakeFree (s : State) : Nat :=
  let l := s.rakeLen
  if l = 0 then 0 else l - (s.getF RK_PTR_TAIL 0 + l - s.getF RK_PTR_HEAD 0) % l - 64

/-- A rake skipped. -/
def State.skipRake (s : State) : State := s.incF RK_STAT_SKIP 0

/-- The records of a rake entry, 224 bytes each, from chunk `k` on. -/
def State.exportRake (s : State) (r : HvRun) (seq : Nat) (entry : List Byte) : Nat → State
  | 0 => s
  | k + 1 =>
    let s1 := s.exportRake r seq entry k
    let chunk := (entry.drop (224 * k)).take 224
    s1.harvestBlock r s.sysTenant 1 chunk.length seq (224 * k) entry.length chunk

/-- The rake's harvest is complete (R186). An entry whose predecessor is still being written is skipped, export and all; with COUNT 0, its
reserved reset value, the entry is its header alone; and one with neither RING nor EXPORT counts in SEQ and in block counter 12 all the same
(DESIGN CHOICE, log entry 76). -/
def State.rakeHarvest (s : State) (r : HvRun) : State :=
  let seq := (s.getF RK_STAT_SEQ 0 + 1) % 2 ^ 32
  let entry := s.rakeEntry r seq
  let ring := s.flag RK_CFG_RING 0
  if ring && (decide (s.rakeFree < entry.length) || s.taps.rake.isSome) then s.skipRake
  else
    let s1 := if s.flag RK_CFG_EXPORT 0 then s.exportRake r seq entry (cdiv entry.length 224) else s
    if ring then
      { s1 with taps := { s1.taps with rake := some { tenant := s1.sysTenant, seq := seq, entry := entry } } }.startStream s1.sysTenant 9
    else (s1.setF RK_STAT_SEQ 0 seq).countBlock 12 1

/-- The units of an entry written round the ring. -/
def State.writeRing (s : State) (t : Nat) : Nat → List Byte → Nat → State × Option (Nat × Nat × Nat)
  | 0, _, _ => (s, none)
  | n + 1, bs, k =>
    if bs.isEmpty then (s, none)
    else
      let va := s.getF RK_RING_BASE 0 * 65536 + (s.getF RK_PTR_TAIL 0 + 64 * k) % (max 1 s.rakeLen)
      match s.xlWrite t va (bs.take 64) true with
      | .error e => (s, some (e, va, 64 * k))
      | .ok s1 => s1.writeRing t n (bs.drop 64) (k + 1)

/-- RAKE_ENTRY_COMPLETE. -/
def State.finishRake (s : State) (j : RakeJob) : State :=
  match s.writeRing j.tenant (j.entry.length / 64) j.entry 0 with
  | (s1, some (cause, va, pos)) => s1.stallStream j.tenant 9 cause va pos
  | (s1, none) =>
    let s2 := s1.setF RK_PTR_TAIL 0 ((s1.getF RK_PTR_TAIL 0 + j.entry.length) % (max 1 s1.rakeLen))
    let s3 := { s2 with taps := { s2.taps with rake := none } }.setF RK_STAT_SEQ 0 j.seq
    (s3.countBlock 12 1).completeStream j.tenant 9 j.entry.length

def execRakeEntryComplete (s : State) : Res :=
  match s.taps.rake with
  | some j => s.event (s.dsState j.tenant 9 == 1) (s.finishRake j)
  | none => .next s

/-- RK_PTR.HEAD written (R196). -/
def State.writeRakeHead (s : State) (w mask : Word) : State :=
  let h := RK_PTR_HEAD.of w
  let l := s.rakeLen
  let head := s.getF RK_PTR_HEAD 0
  if bitOf mask 0 && h % 64 == 0 && decide (h < l) && decide ((h + l - head) % l ≤ (s.getF RK_PTR_TAIL 0 + l - head) % l) then
    s.setF RK_PTR_HEAD 0 h
  else s

def execRakeHeadWrite (data : Word) (s : State) : Res := s.hostDoes true (s.writeRakeHead data allBits)

/-- Fabric time passes a whole multiple of `unit` (2^-40 ns) in this tick, with no step in it: the entry before has come to the same time. A step
over multiples passes none (DESIGN CHOICE, log entry 76). -/
def State.passes (s : State) (unit : Nat) : Option Nat :=
  match entryFor s.time.hist (s.rawNow - 1) with
  | some b =>
    if s.running && decide (0 < s.rawNow) && b.at s.rawNow 0 == s.fabNow && decide (b.at (s.rawNow - 1) 0 / unit < s.fabNow / unit) then
      some (s.fabNow / unit) else none
  | none => none

/-- RAKE_PERIOD: a request in signed-difference mode for the multiple of PERIOD µs that fabric time passes. -/
def execRakePeriod (s : State) : Res :=
  let unit := s.getF RK_CFG_PERIOD 0 * 1000 * 2 ^ 40
  match s.passes unit with
  | some m =>
    let r : HvReq := { num := 0, timed := true, tick := s.rawNow, signed := true, lo := shortOf (m * unit), epoch := s.epoch, rake := true }
    s.event (s.flag RK_CFG_EN 0) (match s.requestHarvest r with
      | (s1, some _) => s1
      | (s1, none) => s1.skipRake)
  | none => .next s

/-! ### The exchange (R183) -/

/-- The shadow bank and shadow OVF array take the build bank's values. -/
def State.exchange (s : State) (r : HvRun) : State :=
  (List.range 36864).foldl (fun z i => (z.setReg .HV_SHADOW i (smGet 0 r.build i)).setArrBit .HV_OVF i (smGet false r.ovf i)) s

/-- HARVEST_EXCHANGE: every tile is complete; the shadow changes, and the dumps start. -/
def State.finishHarvest (s : State) (r : HvRun) : State :=
  let s1 := (s.exchange r).countBlock 11 1
  let s2 := (s1.setF HV_STAT_NUM 0 r.num).setF HV_TICK_SHORT 0 r.short
  let s3 := { s2.setFlag HV_STAT2_LATE 0 r.late with taps := { s2.taps with run := none, shadowEpoch := r.epoch } }
  let s4 := if s3.flag HV_CFG_DUMP 0 then (s3.dumpAntennas r 512).dumpOthers r 147 else s3
  let s5 := if s4.flag HV_CFG_DMA_EN 0 then s4.startImage r else s4
  if r.rake then s5.rakeHarvest r else s5

def execHarvestExchange (s : State) : Res :=
  match s.taps.run with
  | some r => s.event (decide (r.complete.length = 32)) (s.finishHarvest r)
  | none => .next s

/-! ### Tagging (R191 to R193) -/

/-- AN_TAG written: EN, K and the generator state, 0 being reserved. -/
def State.writeAnTag (s : State) (a : Nat) (w mask : Word) : State := s.store .AN_TAG a w mask false

def execAnTagWrite (a : Nat) (data : Word) (s : State) : Res := s.hostDoes (decide (a < 512)) (s.writeAnTag a data allBits)

/-- One step of the generator. -/
def xorshift (v : Nat) : Nat :=
  let a := v ^^^ (v * 2 ^ 13 % 2 ^ 32)
  let b := a ^^^ (a / 2 ^ 17)
  b ^^^ (b * 2 ^ 5 % 2 ^ 32)

/-- PACKET_INGRESS: the generator advances, and the packet may be tagged with its stage-0 stamp. -/
def State.ingress (s : State) (p raw frac : Nat) : State :=
  let g := xorshift (s.getF AN_TAG_SEED p)
  let s1 := s.setF AN_TAG_SEED p g
  if g / 2 ^ (32 - s.getF AN_TAG_K p) != 0 then s1
  else
    let x := s1.portStat p
    let s2 := (s1.setStat p { x with flights := x.flights ++ [(raw, frac)] }).tap p 48 1
    s2.countNoDisc p

def execPacketIngress (port raw frac : Nat) (s : State) : Res :=
  s.event (s.firstSlot port && s.flag AN_TAG_EN port) (s.ingress port raw frac)

/-! ### Antenna records (R23, R25, R190, R192 to R194) -/

/-- Slots of a record on its way. -/
def AntRec.slots : AntRec → Nat
  | .flight _ _ => 2
  | .sample _ _ p => slotsOf p.length
  | .summary _ _ _ _ => 2

/-- Its antenna. -/
def AntRec.ant : AntRec → Nat
  | .flight a _ => a
  | .sample a _ _ => a
  | .summary a _ _ _ => a

/-- The LOSS of a funnel tally handed on for forming (R217, R328). -/
def State.gapLoss (s : State) (source : Nat) (g : Gap) : State :=
  let y : Tally :=
    { source := source, tenant := g.tenant, cause := g.cause, gen := g.gen, cls := 2, formed := false, count := g.count, slots := g.slots,
      seqValid := g.seqValid, firstSeq := g.first, lastSeq := g.last, digest := 0, firstAt := g.at_, firstUs := s.us }
  { s with win := { s.win with closed := s.win.closed ++ [y] },
           funnel := { s.funnel with lastLoss := smSet none s.funnel.lastLoss source (some s.rawNow) } }.settleLosses

/-- A tally of the funnel (R217): its LOSS is formed at once, unless the source's previous LOSS was formed less than 1 µs (1,562.5 ticks)
ago; then it waits for the next tick of the microsecond clock. A loss that joins a waiting tally leaves the tenant and the generation of its first
loss, also when R28 has changed the tenant of the source in between (DESIGN CHOICE, log entry 107). -/
def State.addGap (s : State) (source : Nat) (g : Gap) : State :=
  let key := 16 * source + g.cause
  match smGet none s.funnel.gaps key with
  | some o =>
    let o1 := { o with count := o.count + g.count, slots := o.slots + g.slots, last := g.last }
    { s with funnel := { s.funnel with gaps := smSet none s.funnel.gaps key (some o1) } }
  | none =>
    match smGet none s.funnel.lastLoss source with
    | some r =>
      if 2 * (s.rawNow - r) < 3125 then { s with funnel := { s.funnel with gaps := smSet none s.funnel.gaps key (some g) } }
      else s.gapLoss source g
    | none => s.gapLoss source g

/-- An antenna record dropped (R23, R25): event 50 of its antenna, and a LOSS with cause ANT_MERGE. -/
def State.dropAntRec (s : State) (r : AntRec) : State :=
  let t := s.antTenant r.ant
  (s.tap r.ant 50 1).addGap (0x8000 + r.ant)
    { cause := 10, tenant := t, count := 1, slots := r.slots, seqValid := false, first := 0, last := 0, gen := s.openGen t, at_ := s.shortNow }

/-- The record queue of tile `k`. -/
def State.recQueue (s : State) (k : Nat) : List AntRec := smGet [] s.taps.recs k

/-- That replaced. -/
def State.setRecQueue (s : State) (k : Nat) (q : List AntRec) : State :=
  { s with taps := { s.taps with recs := smSet [] s.taps.recs k q } }

/-- An antenna offers a record to its tile's queue of 64 slots; `ev` counts the records formed of its kind. -/
def State.sendAntRec (s : State) (ev : Nat) (r : AntRec) : State :=
  let k := tileOf r.ant
  let q := s.recQueue k
  let s1 := s.tap r.ant ev 1
  if (q.map AntRec.slots).sum + r.slots ≤ 64 then s1.setRecQueue k (q ++ [r]) else s1.dropAntRec r

/-- The egress antenna's lane stamps of a tagged packet, stages 6 and 7, counted while its tile has DISC = 0 (R73, R172). -/
def State.countEgressStamps (s : State) (info : FlightInfo) : State :=
  match info.egress with
  | some q => [6, 7].foldl (fun z i => if (info.stages.getD i none).isSome then z.countNoDisc q else z) s
  | none => s

/-- TAGGED_PACKET_END: the tagging antenna forms the FLIGHT record. -/
def State.endFlight (s : State) (p : Nat) (info : FlightInfo) : State :=
  let x := s.portStat p
  let s0 := match info.stages.headD none with
    | some st => s.setStat p { x with flights := x.flights.erase st }
    | none => s
  let s1 := s0.countEgressStamps info
  let s2 := if info.outcome == 3 then s1.tap p 54 1 else if info.outcome == 2 then s1.tap p 55 1 else s1
  s2.sendAntRec 49 (.flight p info)

def execTaggedPacketEnd (port : Nat) (info : FlightInfo) (s : State) : Res :=
  match info.stages.headD none with
  | some st => s.event ((s.portStat port).flights.contains st) (s.endFlight port info)
  | none => .next s

/-- QUEUE_SAMPLE (R194). -/
def State.sampleQueue (s : State) (p lo peak : Nat) (peaks : List Nat) : State :=
  let s1 := (((s.tap p 40 1).tap p 41 peak).tap p 42 lo).tap p 43 (if lo = 0 then 1 else 0)
  let x := s1.portStat p
  s1.setStat p { x with
    samples := x.samples + 1
    qmin := some (match x.qmin with | some m => min m lo | none => lo)
    qpeak := max x.qpeak peak
    peaks := (List.range 8).foldl (fun m i => smSet 0 m i (max (smGet 0 m i) (peaks.getD i 0))) x.peaks }

def execQueueSample (port lo peak : Nat) (peaks : List Nat) (s : State) : Res :=
  s.event (s.firstSlot port) (s.sampleQueue port lo peak peaks)

/-- The payload of PORT_SAMPLE. -/
def State.samplePayload (s : State) (p : Nat) : List Byte :=
  let x := s.portStat p
  let detail := s.flag AN_PCFG_DETAIL p
  let head := leBytes 2 p ++ leBytes 1 (s.getF AN_PCFG_SI p) ++ leBytes 1 (detail.toNat + 2 * x.samplePartial.toNat) ++
    leBytes 4 (satTo 32 (x.qmin.getD 0)) ++ leBytes 4 (satTo 32 x.qpeak) ++ leBytes 4 (satTo 32 x.stallOut)
  if detail then head ++ leBytes 4 (satTo 32 x.stallIn) ++ leBytes 4 0 ++ (List.range 8).flatMap (fun i => leBytes 3 (satTo 24 (smGet 0 x.peaks i)))
  else head

/-- PORT_SAMPLE_INTERVAL: after 2^SI samples the interval ends. -/
def State.endSample (s : State) (p : Nat) : State :=
  let s1 := if s.flag AN_PCFG_SAMP_EN p then s.sendAntRec 51 (.sample p s.rawNow (s.samplePayload p)) else s
  s1.setStat p { s1.portStat p with
    samples := 0, qmin := none, qpeak := 0, peaks := [], stallOut := 0, stallIn := 0, samplePartial := false }

def execPortSampleInterval (port : Nat) (s : State) : Res :=
  s.event (s.firstSlot port && decide (2 ^ s.getF AN_PCFG_SI port ≤ (s.portStat port).samples)) (s.endSample port)

/-- The payload of SLOT_SUMMARY. -/
def State.summaryPayload (s : State) (p : Nat) : List Byte :=
  let x := s.portStat p
  let n := fun i => smGet 0 x.slots i
  leBytes 2 p ++ leBytes 1 (smGet 0 s.taps.ports p) ++ leBytes 1 x.sumPartial.toNat ++ leBytes 4 (n 0 + n 1 + n 2 + n 3) ++
    leBytes 4 (n 0) ++ leBytes 4 (n 1) ++ leBytes 4 (n 2) ++ leBytes 4 (n 3) ++
    (List.range 5).flatMap (fun i => leBytes 4 (smGet 0 x.parts i)) ++ leBytes 4 x.gate

/-- SLOT_SUMMARY_INTERVAL: the tile's time has passed an interval boundary (R190). A step over boundaries, forward or back, ends the interval under
way in one summary, stamped with the lower boundary of the interval that it has come to (DESIGN CHOICE, log entry 78). -/
def State.endSummary (s : State) (p : Nat) : State :=
  let i := s.summaryIdx p
  let w := (s.tile (tileOf p)).wordAt s.rawNow
  let s1 := if s.flag AN_PCFG_SLOT_EN p then
      s.sendAntRec 52 (.summary p (i * (2 ^ s.getF AN_PCFG_INTV p * 1000 * 2 ^ 40)) (wordEpoch w) (s.summaryPayload p))
    else s
  s1.setStat p { s1.portStat p with slots := [], parts := [], gate := 0, sumIdx := i, sumPartial := false }

def execSlotSummaryInterval (port : Nat) (s : State) : Res :=
  s.event (s.firstSlot port && s.running && (s.portStat port).sumIdx != s.summaryIdx port) (s.endSummary port)

/-- A stage stamp of a tagged packet: the lanes' stamps, stages 0, 6 and 7, are corrected (R55); the others are the tile's. -/
def State.stageStamp (s : State) (a : Nat) (info : FlightInfo) (i : Nat) (st : Nat × Nat) : Nat × Nat :=
  if i == 0 then s.ingressStamp a st.1 st.2
  else if 6 ≤ i then (match info.egress with | some q => s.egressStamp q st.1 st.2 | none => st)
  else st

/-- The record that the funnel makes of an antenna record: stamps corrected under R55 and converted under R52, source and tenant. -/
def State.antRecord (s : State) (r : AntRec) : Rec :=
  let mk := fun (typ stamp epoch : Nat) (p : List Byte) =>
    ({ typ := typ, slots := r.slots, cls := 2, tenant := s.antTenant r.ant, source := 0x8000 + r.ant, seq := 0, stamp := stamp, payload := p,
       epoch := epoch } : Rec)
  match r with
  | .summary _ fab epoch p => mk 0x12 (shortOf fab) epoch p
  | .sample _ raw p => mk 0x11 (shortOf (s.fabAt raw 0)) (s.epochAt raw) p
  | .flight a info =>
    let st := fun i => (info.stages.getD i none).map (s.stageStamp a info i)
    let zero := (st 0).getD (0, 0)
    let t0 := s.fabOf zero
    let ofs := fun i => match st i with
      | some e => satTo 32 ((s.fabOf e - t0) / 2 ^ 32)
      | none => 0
    let present := ((List.range 8).map (fun i => if (st i).isSome then 2 ^ i else 0)).sum
    mk 0x10 (shortOf t0) (s.epochAt zero.1)
      (leBytes 2 a ++ leBytes 2 (info.egress.getD 0xFFFF) ++ leBytes 1 present ++ leBytes 1 info.outcome ++ leBytes 2 (satTo 16 info.len) ++
        leBytes 8 0 ++ (List.range 7).flatMap (fun i => leBytes 4 (ofs (i + 1))) ++ leBytes 4 0)

/-- ANTENNA_RECORD_INGEST: the oldest record of a tile reaches the antenna merge. More than 1,000 slots in a microsecond are above
1.0 G slots/s and are dropped (R23). -/
def State.ingest (s : State) (k : Nat) : State :=
  match s.recQueue k with
  | [] => s
  | r :: rest =>
    let s1 := s.setRecQueue k rest
    if 1000 < s1.taps.ingested + r.slots then (s1.countBlock 2 r.slots).dropAntRec r
    else
      let s2 := { s1 with taps := { s1.taps with ingested := s1.taps.ingested + r.slots } }.countBlock 1 r.slots
      s2.form (s2.antRecord r)

def execAntennaRecordIngest (tile : Nat) (s : State) : Res := s.event (decide (tile < 32)) (s.ingest tile)

end Sys2Proof.Machine
end

