-- ==== Sys2Proof/Machine/Ledger.lean ====
section
/-! DEFINITION. The schedule ledger (R252 to R280): phase accumulators of the port tiles, prefetch and entry checks, the phases' states,
deviations and summaries, and the ledger commands. Instants are held in 2^-16 ns. -/

namespace Sys2Proof.Machine

/-- One microsecond in 2^-16 ns. -/
def microsecond16 : Nat := 1000 * 65536

/-- Fabric time now in 2^-16 ns. -/
def State.now16 (s : State) : Nat := s.fabNow / 2 ^ 24

/-- The present instant. -/
def State.nowInst (s : State) : Inst := ⟨s.now16, s.epoch⟩

/-- A target laid out as SG_TGT_LO and SG_TGT_HI in magnitude mode, in 2^-16 ns; NS of a whole second or more lies behind every instant of
its second. -/
def targetUnits (lo hi : Nat) : Nat :=
  let ns := lo / 2 ^ 16 % 2 ^ 32
  hi % 2 ^ 48 * (1000000000 * 65536) + (if 1000000000 ≤ ns then 1000000000 * 65536 else ns * 65536 + lo % 65536)

/-! ### The ledgers -/

/-- The ledger of tenant `t`. -/
def State.ledger (s : State) (t : Nat) : Ledger := smGet {} s.ledgers t

/-- STATE of a ledger: 0 EMPTY, 1 READY, 2 RUNNING, 3 HELD, 4 DONE, 5 FAULTED, 6 STOPPED. -/
def State.lgState (s : State) (t : Nat) : Nat := s.getF LG_STATUS_STATE t

/-- A ledger replaced; OPEN and SLOTS_USED follow. -/
def State.setLedger (s : State) (t : Nat) (x : Ledger) : State :=
  let s1 := { s with ledgers := smSet {} s.ledgers t x }
  (s1.setF LG_STATUS_OPEN t (x.slots.filter (fun p => p.st == .open_)).length).setF LG_GSTAT_SLOTS_USED 0
    ((s1.ledgers.map (fun e => e.2.slots.length)).sum)

/-- The pass base. -/
def State.passBase (s : State) (t : Nat) : Inst :=
  ⟨targetUnits (s.getReg .LG_PBASE_LO t).toNat (s.getReg .LG_PBASE_HI t).toNat, s.getF LG_PBASE_HI_EPOCH t⟩

/-- The pass base set. -/
def State.setPassBase (s : State) (t : Nat) (i : Inst) : State :=
  let sec := 1000000000 * 65536
  ((s.setReg .LG_PBASE_LO t (BitVec.ofNat 64 (i.at_ % sec))).setF LG_PBASE_HI_SECONDS t (i.at_ / sec)).setF LG_PBASE_HI_EPOCH t i.ep

/-- The LEDGER message of tenant `t` (R379); `boundary` says that it reports a step boundary. -/
def State.ledgerMsg (s : State) (t : Nat) (boundary : Bool) : MirMsg :=
  .ledger t (s.lgState t) (s.getF LG_CURSOR_PASS t) (s.getF LG_CURSOR_NEXT t)
    (fullTarget (s.getReg .LG_PBASE_LO t).toNat (s.getReg .LG_PBASE_HI t).toNat) (s.getF LG_PBASE_HI_EPOCH t) boundary

/-- The LEDGER message sent to the partner. -/
def State.sendLedger (s : State) (t : Nat) (boundary : Bool) : State := s.sendMir (s.ledgerMsg t boundary)

/-- A ledger changes state. -/
def State.setLgState (s : State) (t st : Nat) : State := (s.setF LG_STATUS_STATE t st).sendLedger t false

/-- The prefetch stream ends: 1 COMPLETE, 2 ABANDONED. -/
def State.endPrefetch (s : State) (t last : Nat) : State := (s.endStream t 2 last).setFlag LG_STATUS_PF_STALL t false

/-- The ledger counts and judges: it is RUNNING or HELD, or FAULTED with phases that it has opened (R274). -/
def State.lgLive (s : State) (t : Nat) : Bool :=
  s.lgState t == 2 || s.lgState t == 3 || (s.lgState t == 5 && (s.ledger t).slots.any (fun p => p.st != .lookahead))

/-- The current pass is the last (R253). -/
def State.lastPass (s : State) (t : Nat) : Bool :=
  let x := s.ledger t
  x.cyc.isNone || x.stopPass ||
    (s.getF LG_PASSES_LIMIT t != 0 && s.getF LG_CURSOR_PASS t + 1 == s.getF LG_PASSES_LIMIT t)

/-! ### Prefetch and entry checks (R254, R255, R274) -/

/-- A phase entry read from its 64 bytes. -/
def entryOf (bs : List Byte) : LgEnt :=
  { phase := fieldAt bs 0 4 % 2 ^ 21, timed := fieldAt bs 4 1 % 4 == 1
    barrier := fieldAt bs 5 1 % 2 == 1, cyclic := fieldAt bs 5 1 / 2 % 2 == 1, win := fieldAt bs 5 1 / 4 % 2 == 1
    span := fieldAt bs 6 2, pred := fieldAt bs 8 4 % 2 ^ 21, group := fieldAt bs 12 4 % 2 ^ 12
    offset := fieldAt bs 16 8 % 2 ^ 48, winLo := (BitVec.ofNat 32 (fieldAt bs 24 4)).toInt, winHi := fieldAt bs 28 4
    expPkts := fieldAt bs 32 4, sc := fieldAt bs 36 2 % 2 ^ 14, scMode := fieldAt bs 36 2 / 2 ^ 14
    retryExt := fieldAt bs 38 2 % 2 ^ 12, retryMax := fieldAt bs 38 2 / 2 ^ 12
    expBytes := fieldAt bs 40 8 % 2 ^ 48, scInc := fieldAt bs 48 8 % 2 ^ 48 }

/-- A field that R254 makes zero is not, or START is reserved. -/
def entryReserved (bs : List Byte) : Bool :=
  let start := fieldAt bs 4 1 % 4
  decide (2 ≤ start) || fieldAt bs 0 4 / 2 ^ 21 != 0 || fieldAt bs 4 1 / 4 != 0 || fieldAt bs 5 1 / 8 != 0 ||
    fieldAt bs 8 4 / 2 ^ 21 != 0 || fieldAt bs 12 4 / 2 ^ 12 != 0 || fieldAt bs 16 8 / 2 ^ 48 != 0 ||
    fieldAt bs 40 8 / 2 ^ 48 != 0 || fieldAt bs 48 8 / 2 ^ 48 != 0 || fieldAt bs 56 4 != 0 ||
    (start == 1 && (fieldAt bs 6 2 != 0 || fieldAt bs 8 4 != 0))

/-- The first check of R274 that entry `i` fails, or 0. -/
def entryFails (bs : List Byte) (i loopFirst : Nat) (cyc : Option Nat) : Nat :=
  let e := entryOf bs
  if e.phase != i then 1
  else if crc32c (bs.take 60) != fieldAt bs 60 4 then 2
  else if entryReserved bs then 3
  else if !e.timed && (e.span == 0 || decide (i ≤ e.pred + e.span - 1)) then 4
  else if e.cyclic && (decide (i < loopFirst) || (cyc.isSome && cyc != some i)) then 5
  else 0

/-- A ledger FAULTED: 7 ENTRY, 8 ABANDONED. -/
def State.faultLedger (s : State) (t reason : Nat) : State := (s.setF LG_STATUS_REASON t reason).setLgState t 5

/-- The prefetch stream has an entry to read: one of the current pass, and behind E in the last pass alone. -/
def State.prefetchDue (s : State) (t : Nat) : Bool :=
  let x := s.ledger t
  (s.lgState t == 1 || s.lgState t == 2 || s.lgState t == 3) && s.dsState t 2 == 1 && decide (x.pf < s.getF LG_LEN_LEN t) &&
    (match x.cyc with | some e => decide (x.pf ≤ e) || s.lastPass t | none => true)

/-- LEDGER_ENTRY_PREFETCH: the next entry arrives and is checked. -/
def State.prefetch (s : State) (t : Nat) : State :=
  let x := s.ledger t
  let va := s.getF LG_ADDR_ADDR t + 64 * x.pf
  match s.streamRead t va false 1 with
  | .error (cause, at_) => (s.stallStream t 2 cause at_ (64 * x.pf)).setFlag LG_STATUS_PF_STALL t true
  | .ok bs =>
    let reason := entryFails bs x.pf (s.getF LG_LEN_LOOP_FIRST t) x.cyc
    if reason = 0 then
      let e := entryOf bs
      (s.setLedger t { x with ents := x.ents ++ [e], pf := x.pf + 1, cyc := if e.cyclic then some x.pf else x.cyc }).setF DS_STAT_POS
        (ds t 2) (64 * (x.pf + 1))
    else
      let s1 := (s.setF LG_FAULT_CAUSE t reason).setF LG_FAULT_INDEX t x.pf
      let s2 := (s1.endPrefetch t 2).faultLedger t 7
      s2.alarm t 0x8302 0x0801 (leBytes 4 x.pf ++ leBytes 1 reason ++ leBytes 7 0)

def execLedgerEntryPrefetch (t : Nat) (s : State) : Res := s.event (s.prefetchDue t) (s.prefetch t)

/-! ### Deviations and summaries (R266, R272, R273) -/

/-- Slot `p` of a ledger replaced, found by phase number and pass. -/
def Ledger.put (x : Ledger) (p : Phase) : Ledger :=
  { x with slots := x.slots.map (fun q => if q.ent.phase == p.ent.phase && q.pass == p.pass then p else q) }

/-- A slot freed. -/
def Ledger.drop (x : Ledger) (p : Phase) : Ledger :=
  { x with slots := x.slots.filter (fun q => !(q.ent.phase == p.ent.phase && q.pass == p.pass)) }

/-- The slot of a phase number and pass. -/
def Ledger.slot (x : Ledger) (phase pass : Nat) : Option Phase :=
  x.slots.find? (fun q => q.ent.phase == phase && q.pass == pass)

/-- A difference of instants in whole ns, signed, rounded down. -/
def nsBetween (a b : Nat) : Int := ((a : Int) - b) / 65536

/-- A signed 64-bit number as bytes. -/
def signedBytes (n : Nat) (v : Int) : List Byte := leBytes n (BitVec.ofInt 64 v).toNat

/-- A LEDGER_DEVIATION formed now; the tenant's sequencer counts it (R222). -/
def State.deviation (s : State) (t kind : Nat) (payload : List Byte) : State :=
  (s.form (s.unitRec 0x20 2 1 t 0x8302 (leBytes 1 kind ++ payload))).seqDeviation t kind

/-- A deviation of a phase. -/
def State.phaseDev (s : State) (t kind flags phase pass group port pkts expPkts bytes expBytes : Nat) (amount : Int) : State :=
  s.deviation t kind (leBytes 1 0 ++ leBytes 2 flags ++ leBytes 4 phase ++ leBytes 4 pass ++ leBytes 2 group ++ leBytes 2 port ++
    leBytes 4 pkts ++ leBytes 4 expPkts ++ leBytes 8 bytes ++ leBytes 8 expBytes ++ signedBytes 8 amount)

/-- A deviation of slot `p`, which keeps the kind in DEV. -/
def State.slotDev (s : State) (t : Nat) (p : Phase) (kind flags port : Nat) (amount : Int) : State × Phase :=
  let p1 := { p with dev := p.dev ||| 2 ^ kind }
  ((s.setLedger t ((s.ledger t).put p1)).phaseDev t kind flags p.ent.phase p.pass p.ent.group port p.pkts p.ent.expPkts p.bytes
    p.ent.expBytes amount, p1)

/-- A kind has been raised for the phase. -/
def Phase.raised (p : Phase) (kind : Nat) : Bool := p.dev / 2 ^ kind % 2 == 1

/-- FIRST of a summary: signed ns, saturating above the value that says that nothing was counted. -/
def Phase.firstField (p : Phase) : Nat := match p.first with
  | none => 0x80000000
  | some f =>
    let v := nsBetween f.at_ p.start.at_
    (BitVec.ofInt 32 (if v < -(2 ^ 31 - 1) then -(2 ^ 31 - 1) else if 2 ^ 31 - 1 < v then 2 ^ 31 - 1 else v)).toNat

/-- PHASE_SUMMARY: 0 COMPLETE, 1 GIVEN_UP, 2 CANCELLED. -/
def State.summary (s : State) (t : Nat) (p : Phase) (outcome drifts : Nat) (at_ : Inst) : State :=
  if !(s.flag LG_CFG_SUM_ALL t || p.dev != 0 || p.lateOpen || p.predShort) then s
  else
    let mixed := (match p.first with | some f => f.ep != p.start.ep | none => false) || p.opened.ep != p.start.ep
    let payload := leBytes 1 outcome ++ leBytes 1 (p.dev % 64 + 64 * p.lateOpen.toNat + 128 * p.predShort.toNat) ++
      leBytes 1 p.retries ++ leBytes 1 mixed.toNat ++ leBytes 4 p.ent.phase ++ leBytes 4 p.pass ++ leBytes 2 p.ent.group ++
      leBytes 2 (satTo 16 drifts) ++ leBytes 4 p.pkts ++ leBytes 4 p.ent.expPkts ++ leBytes 8 p.bytes ++ leBytes 8 p.start.at_ ++
      leBytes 4 p.firstField ++ leBytes 4 (satTo 32 ((p.opened.at_ - p.start.at_) / 65536))
    s.form { typ := 0x21, slots := 2, cls := 1, tenant := t, source := 0x8302, seq := 0, stamp := at_.at_ % 2 ^ 64,
             payload := payload, epoch := at_.ep }

/-- The deadline of a phase (R261). -/
def Phase.deadline (p : Phase) : Nat := p.start.at_ + (p.ent.winHi + p.retries * p.ent.retryExt * 1000) * 65536

/-- start + WIN_LO. -/
def Phase.early (p : Phase) : Int := (p.start.at_ : Int) + p.ent.winLo * 65536

/-- The counts reach both expectations (R264). -/
def Phase.complete (p : Phase) : Bool := decide (p.ent.expPkts ≤ p.pkts) && decide (p.ent.expBytes ≤ p.bytes)

/-- EARLY, when the first stamp lies before the window (R265). -/
def State.checkEarly (s : State) (t : Nat) (p : Phase) : State × Phase :=
  match p.first with
  | some f =>
    if !p.raised 0 && decide ((f.at_ : Int) < p.early) then
      s.slotDev t p 0 (2 * (if f.ep != p.start.ep then 1 else 0)) 0xFFFF (((f.at_ : Int) - p.early) / 65536)
    else (s, p)
  | none => (s, p)

/-- OVER, once for a phase and pass (R265). -/
def State.checkOver (s : State) (t : Nat) (p : Phase) : State × Phase :=
  if !p.raised 3 && (decide (p.ent.expPkts < p.pkts) || decide (p.ent.expBytes < p.bytes)) then s.slotDev t p 3 0 0xFFFF 0 else (s, p)

/-! ### Barriers (R271) -/

/-- The COUNTER deviations of a barrier, up to DRIFT_MAX. -/
def State.driftDevs (s : State) (t : Nat) (p : Phase) : Nat → List Nat → State
  | _, [] => s
  | 0, ns => s.addF LG_TSTAT_DRIFT_SUPP t ns.length
  | n + 1, c :: cs =>
    let d := s.drift c
    let payload := leBytes 1 1 ++ leBytes 2 0 ++ leBytes 4 p.ent.phase ++ leBytes 4 p.pass ++ leBytes 4 0 ++ leBytes 4 c ++ leBytes 4 0 ++
      leBytes 8 (s.getF SC_COUNT_VALUE c) ++ leBytes 8 (s.getF SC_EXP_EXP c) ++ signedBytes 8 d
    (s.deviation t (if 0 < d then 3 else 2) payload).driftDevs t p n cs

/-- The barrier of a phase: its deviations, then the realignment. The answer is the number of counters with a drift. -/
def State.holdBarrier (s : State) (t : Nat) (p : Phase) : State × Nat :=
  if !p.ent.barrier then (s, 0)
  else
    let ns := s.drifting t
    ((s.driftDevs t p (s.getF LG_CFG_DRIFT_MAX t) ns).checkPart t true, ns.length)

/-! ### The end of a pass (R253, R392) -/

/-- A SERVING block whose partner is ready admits it at a step boundary of ADMIT_TEN. -/
def State.admitFrom (s : State) (i : Inst) : State :=
  let at_ : Inst := ⟨i.at_ + s.getF PR_CTL_ADMIT_LEAD 0 * microsecond16, i.ep⟩
  { s with pair := { s.pair with admitAt := some at_ } }.sendMir (.admission (fullOf (at_.at_ * 2 ^ 24)) at_.ep)

/-- A step boundary: the next pass begins with its base there; a slot of the lookahead that the ended pass did not open is free. -/
def State.stepBoundary (s : State) (t : Nat) (i : Inst) : State :=
  let x := s.ledger t
  let first := s.getF LG_LEN_LOOP_FIRST t
  let s1 := ((s.incF LG_CURSOR_PASS t).setF LG_CURSOR_NEXT t first).setPassBase t i
  let y := { x with
    ents := [], pf := first, closed := [], prevStart := none, from_ := first, allOpen := false, atPass := false, heldAtPass := x.atPass
    slots := x.slots.filter (fun p => p.st != .lookahead) }
  let s2 := s1.setLedger t y
  let s3 := if x.atPass && s2.lgState t == 2 then s2.setF LG_STATUS_STATE t 3 else s2
  let s4 := s3.sendLedger t true
  if s4.pairState == 6 && s4.getF PR_CTL_ADMIT_TEN 0 == t && s4.pair.peerReady && s4.pair.admitAt.isNone then s4.admitFrom i else s4

/-- A phase that closes as a predecessor is kept for the pass. -/
def Ledger.keep (x : Ledger) (p : Phase) (i : Inst) (gaveUp : Bool) : Ledger :=
  let c : LgClosed :=
    { start := p.start, close := i, gaveUp := gaveUp, group := p.ent.group, port := p.lastPort, pkts := p.pkts, bytes := p.bytes
      expPkts := p.ent.expPkts, expBytes := p.ent.expBytes }
  { x with closed := smSet none x.closed p.ent.phase (some c) }

/-- A phase has closed as a predecessor at `i`: it is kept, and E ends the pass unless it is the last. -/
def State.closePhase (s : State) (t : Nat) (p : Phase) (i : Inst) (gaveUp : Bool) : State :=
  if p.pass != s.getF LG_CURSOR_PASS t then s
  else
    let s1 := s.setLedger t ((s.ledger t).keep p i gaveUp)
    if p.ent.cyclic && !s1.lastPass t then s1.stepBoundary t i else s1

/-- The later of two instants. -/
def Inst.later (a b : Inst) : Inst := if a.at_ < b.at_ then b else a

/-- Phase `j` is none that the current pass runs here: it lies below the first one and holds no slot (R261). -/
def State.notRun (s : State) (t j : Nat) : Bool :=
  decide (j < (s.ledger t).from_) && ((s.ledger t).slot j (s.getF LG_CURSOR_PASS t)).isNone

/-- The latest close of `n` predecessors from `j` on, or none while one is open; one that the pass does not run counts as closed at the
pass base. -/
def State.predClose (s : State) (t j : Nat) : Nat → Inst → Option Inst
  | 0, best => some best
  | n + 1, best =>
    match smGet none (s.ledger t).closed j with
    | some c => s.predClose t (j + 1) n (best.later c.close)
    | none => if s.notRun t j then s.predClose t (j + 1) n (best.later (s.passBase t)) else none

/-- The condition instant of a phase (R261). -/
def State.condition (s : State) (t : Nat) (e : LgEnt) : Option Inst :=
  let b := if e.timed then some (s.passBase t) else s.predClose t e.pred e.span ⟨0, 0⟩
  b.map (fun i => ⟨i.at_ + e.offset * 65536, i.ep⟩)

/-- The predecessors of a phase that have closed in the pass, in index order. -/
def State.predsOf (s : State) (t : Nat) (e : LgEnt) : List (Nat × LgClosed) :=
  (List.range e.span).filterMap (fun k => (smGet none (s.ledger t).closed (e.pred + k)).map (fun c => (e.pred + k, c)))

/-- The last in order of those that close latest. -/
def latestOf : List (Nat × LgClosed) → Option (Nat × LgClosed)
  | [] => none
  | x :: xs => match latestOf xs with
    | some y => if y.2.close.at_ < x.2.close.at_ then some x else some y
    | none => some x

/-- The closes of a phase's predecessors judged once (R265, R267): PRED_SHORT, or STRAGGLER for the latest of two or more. -/
def State.judgeJoin (s : State) (t : Nat) (p : Phase) : State :=
  if p.st != .lookahead || p.joined || p.ent.timed || p.pass != s.getF LG_CURSOR_PASS t || (s.condition t p.ent).isNone then s
  else
    let cs := s.predsOf t p.ent
    let gave := cs.any (fun c => c.2.gaveUp)
    let s1 := s.setLedger t ((s.ledger t).put { p with joined := true, predShort := gave })
    if gave || decide (p.ent.span < 2) then s1
    else match latestOf cs with
      | none => s1
      | some z =>
        match latestOf (cs.filter (fun c => c.1 != z.1)) with
        | none => s1
        | some y =>
          if s1.getF LG_TIMING_STRAG_NS t * 65536 ≤ z.2.close.at_ - y.2.close.at_ then
            let counts := match (s1.ledger t).slot z.1 p.pass with
              | some q => (q.pkts, q.bytes)
              | none => (z.2.pkts, z.2.bytes)
            s1.phaseDev t 5 (2 * (if z.2.close.ep != y.2.close.ep then 1 else 0)) z.1 p.pass z.2.group z.2.port counts.1 z.2.expPkts counts.2
              z.2.expBytes (nsBetween z.2.close.at_ y.2.close.at_)
          else s1

/-- Every join of the lookahead whose predecessors have closed is judged. -/
def State.judgeJoins (s : State) (t : Nat) : State := (s.ledger t).slots.foldl (fun z p => z.judgeJoin t p) s

/-- A phase completes at `i` (R264, R265, R270, R279). -/
def State.completePhase (s : State) (t : Nat) (p : Phase) (i : Inst) : State :=
  let p0 := { p with st := .settling, doneRaw := s.rawNow }
  let s1 := s.setLedger t ((s.ledger t).put p0)
  let (s2, p1) := if p0.deadline < i.at_ then
      s1.slotDev t p0 1 (2 * (if i.ep != p0.start.ep then 1 else 0)) 0xFFFF (nsBetween i.at_ p0.deadline)
    else (s1, p0)
  let s3 := if p1.ent.scMode == 2 then s2.ledgerAdd t p1.ent.sc p1.ent.scInc else s2
  let (s4, drifts) := s3.holdBarrier t p1
  let (s5, p2) := (s4.summary t p1 0 drifts i).checkOver t p1
  (s5.closePhase t p2 i false).judgeJoins t

/-! ### Flushes (R259, R260) -/

/-- The tenant whose live ledger holds a JOB. -/
def State.jobOwner (s : State) (job : Nat) : Option Nat :=
  (List.range 64).find? (fun t => s.lgLive t && s.getF LG_CFG_JOB t == job)

/-- A packet with a schedule tag leaves the egress MAC: counted in its accumulator with its stamp at the lane reference plane (R55), in a new one,
or not at all. -/
def State.countDelivery (s : State) (port : Nat) (tag : SchedTag) (bytes raw frac : Nat) : State :=
  let k := tileOf port
  let x := s.tapTile k
  let st := s.egressStamp port raw frac
  let w := (s.tile k).wordAt st.1
  let i : Inst := ⟨antennaFab w st.1 st.2 / 2 ^ 24, wordEpoch w⟩
  if x.accs.any (fun a => a.port == port && a.tag == tag) then
    s.setTapTile k { x with accs := x.accs.map (fun a =>
      if a.port == port && a.tag == tag then { a with pkts := a.pkts + 1, bytes := a.bytes + bytes, last := i } else a) }
  else if (x.accs.filter (fun a => a.port == port)).length < 16 then
    s.setTapTile k { x with accs := x.accs ++ [{ port := port, tag := tag, pkts := 1, bytes := bytes, first := i, last := i }] }
  else match s.jobOwner tag.job with
    | some t => s.incF LG_TSTAT_UNTRACKED t
    | none => s.incF LG_GSTAT_NOJOB 0

def execPacketDelivered (port : Nat) (tag : SchedTag) (bytes raw frac : Nat) (s : State) : Res :=
  s.event (decide (port < 512)) (s.countDelivery port tag bytes raw frac)

/-- PHASE_ACCUM_FLUSH: the accumulator of the tile that has held values longest enters the flush queue, unless the queue is full or the tile
pushes latched harvest values. -/
def execPhaseAccumFlush (tile : Nat) (s : State) : Res :=
  let x := s.tapTile tile
  match x.accs with
  | a :: rest =>
    s.event (decide (tile < 32) && x.latched.isEmpty && x.room)
      (s.setTapTile tile { x.push (.phase a) with accs := rest })
  | [] => .next s

/-- The counts of a phase after a flush; the flush with which they reach both expectations fixes the completion stamp (R264). -/
def Phase.count (p : Phase) (a : PhaseAcc) : Phase :=
  let first := match p.first with
    | some f => if a.first.at_ < f.at_ then a.first else f
    | none => a.first
  let later := match p.last with
    | some l => decide (l.at_ < a.last.at_)
    | none => true
  let p1 := { p with pkts := p.pkts + a.pkts, bytes := p.bytes + a.bytes, first := some first,
                     last := if later then some a.last else p.last, lastPort := if later then a.port else p.lastPort }
  { p1 with doneAt := if p1.complete && p1.doneAt.isNone then p1.last else p1.doneAt }

/-- A flush that counts for slot `p` of tenant `t` (R260, R265, R270). Of the rows of OPEN, Complete stands first (R20): a flush that
completes the phase forms no EARLY. -/
def State.countPhase (s : State) (t : Nat) (p : Phase) (a : PhaseAcc) : State :=
  let p1 := p.count a
  let s1 := s.setLedger t ((s.ledger t).put p1)
  let s2 := if p1.ent.scMode == 3 then s1.ledgerAdd t p1.ent.sc a.pkts else s1
  match p1.st with
  | .lookahead => s2
  | .settling => (s2.checkOver t p1).1
  | .open_ =>
    if p1.complete then s2.completePhase t p1 (p1.doneAt.getD a.last)
    else
      let (s3, p2) := s2.checkEarly t p1
      (s3.checkOver t p2).1

/-- The tag names a phase and a pass that lie below the lookahead of tenant `t`: of this pass, or of one of the seven passes before it. -/
def State.belowLookahead (s : State) (t : Nat) (tag : SchedTag) : Bool :=
  let pass := s.getF LG_CURSOR_PASS t
  let d := (pass + 16 - tag.pass % 16) % 16
  decide (tag.phase < s.getF LG_LEN_LEN t) &&
    ((d == 0 && ((s.ledger t).allOpen || decide (tag.phase < s.getF LG_CURSOR_NEXT t))) || (decide (1 ≤ d) && decide (d < 8) && decide (d ≤ pass)))

/-- A phase flush applied by the first row of R260 that matches. -/
def State.applyPhase (s : State) (a : PhaseAcc) : State :=
  match s.jobOwner a.tag.job with
  | none => s.addF LG_GSTAT_NOJOB 0 a.pkts
  | some t =>
    match (s.ledger t).slots.find? (fun p => p.ent.phase == a.tag.phase && p.pass % 16 == a.tag.pass % 16) with
    | none => if s.belowLookahead t a.tag then s.incF LG_TSTAT_STALE t else s.incF LG_TSTAT_UNTRACKED t
    | some p => if p.ports.contains a.port then s.countPhase t p a else s.incF LG_TSTAT_STRAY t

def execPhaseFlushApply (tile : Nat) (s : State) : Res :=
  let x := s.tapTile tile
  match x.queue with
  | .phase a :: rest => s.event (decide (tile < 32) && x.building.isNone) ((s.setTapTile tile (x.pop rest)).applyPhase a)
  | _ => .next s

/-! ### Evaluation (R256, R261 to R263, R267) -/

/-- Port group `g` names the port at lane slot `p`. -/
def State.inGroup (s : State) (g p : Nat) : Bool := bitOf (s.getReg .LG_PGWORD (8 * g + p / 64)) (p % 64)

/-- The port set that a phase takes. -/
def State.portSet (s : State) (t g : Nat) : List Nat :=
  (List.range 512).filter (fun p => s.inGroup g p && s.portOwner p == some t)

/-- The lookahead filled while entries and slots last. -/
def State.fillLookahead (s : State) (t : Nat) : Nat → State
  | 0 => s
  | n + 1 =>
    let x := s.ledger t
    match x.ents with
    | e :: rest =>
      if x.slots.length < s.getF LG_CFG_SLOTS t &&
          decide ((x.slots.filter (fun p => p.st == .lookahead)).length < s.getF LG_CFG_LOOKAHEAD t) then
        (s.setLedger t { x with ents := rest, slots := x.slots ++
          [{ ent := e, pass := s.getF LG_CURSOR_PASS t, ports := s.portSet t e.group }] }).fillLookahead t n
      else s
    | [] => s

/-- A phase opens (R262, R265). A window that it closes is closed before the EARLY record is accepted, which belongs to the new one (R345). -/
def State.openPhase (s : State) (t : Nat) (p : Phase) (start : Inst) : State :=
  let now := s.nowInst
  let p1 := { p with st := .open_, start := start, opened := now, lateOpen := decide (start.at_ + microsecond16 < now.at_) }
  let x := s.ledger t
  let s1 := (s.setLedger t { (x.put p1) with prevStart := some start, allOpen := x.allOpen || p.ent.phase + 1 == s.getF LG_LEN_LEN t }).setF
    LG_CURSOR_NEXT t (p.ent.phase + 1)
  let s2 := if p1.ent.scMode != 0 then s1.ledgerExpect t p1.ent.sc p1.ent.scInc else s1
  let s3 := if p1.ent.win && s2.getF WN_STAT_STATE t == 1 && (s2.window t).align == 1 then s2.closeAndOpen t 0 else s2
  let (s4, p2) := s3.checkEarly t p1
  if p2.ent.expPkts = 0 && p2.ent.expBytes = 0 then s4.completePhase t p2 now
  else if p2.complete then s4.completePhase t p2 (p2.doneAt.getD now)
  else (s4.checkOver t p2).1

/-- The lowest unopened phase of the pass opens when it may. The answer says whether it did. -/
def State.lgTryOpen (s : State) (t : Nat) : Option State :=
  let x := s.ledger t
  if s.lgState t != 2 || x.allOpen then none
  else match x.slot (s.getF LG_CURSOR_NEXT t) (s.getF LG_CURSOR_PASS t) with
    | none => none
    | some p =>
      if p.st != .lookahead then none
      else match s.condition t p.ent with
        | none => none
        | some c =>
          let start := match x.prevStart with
            | some q => c.later q
            | none => c
          if s.running && decide (start.at_ ≤ s.now16) then some (s.openPhase t p start) else none

/-- Every phase of the present pass has opened and closed. -/
def State.passOver (s : State) (t : Nat) : Bool :=
  (s.ledger t).allOpen && (s.ledger t).slots.all (fun p => p.pass != s.getF LG_CURSOR_PASS t)

/-- The last pass is over (R275); a phase that an earlier pass has left OPEN does not hold it. -/
def State.checkDone (s : State) (t : Nat) : State :=
  if s.lgState t == 2 && s.passOver t && s.lastPass t then (s.endPrefetch t 1).setLgState t 4 else s

/-- The opening of phases in index order, with the lookahead filled and the joins judged before each. -/
def State.openLoop (s : State) (t : Nat) : Nat → State
  | 0 => s
  | n + 1 =>
    let s1 := (s.fillLookahead t (s.ledger t).ents.length).judgeJoins t
    match s1.lgTryOpen t with
    | some s2 => s2.openLoop t n
    | none => s1

/-- LEDGER_EVALUATE: the evaluation of a RUNNING ledger; a HELD one fills its lookahead and opens nothing. -/
def State.evaluate (s : State) (t : Nat) : State :=
  (s.openLoop t ((s.ledger t).ents.length + (s.ledger t).slots.length + 1)).checkDone t

def execLedgerEvaluate (t : Nat) (s : State) : Res :=
  s.event (decide (t < 64) && (s.lgState t == 2 || s.lgState t == 3)) (s.evaluate t)

/-! ### Timed events of a phase (R265), whatever state its ledger is in: one that is DONE may hold a phase of an earlier pass still OPEN -/

/-- The slot that an event names: of those that hold the phase number, the one of the lowest pass for which the event is due. -/
def State.slotDue (s : State) (t phase : Nat) (due : Phase → Bool) : Option Phase :=
  (s.ledger t).slots.find? (fun p => p.ent.phase == phase && due p)

/-- An OPEN phase lies 1,000 ns behind its deadline, and SHORT has not been formed. -/
def State.shortDue (s : State) (p : Phase) : Bool := p.st == .open_ && !p.shortDone && decide (p.deadline + microsecond16 ≤ s.now16)

/-- An OPEN phase lies GIVEUP_US behind its deadline. -/
def State.giveUpDue (s : State) (t : Nat) (p : Phase) : Bool :=
  let n := s.getF LG_TIMING_GIVEUP_US t
  p.st == .open_ && n != 0 && decide (p.deadline + n * microsecond16 ≤ s.now16)

/-- SETTLE_US has passed since a phase's completion; one microsecond is 1,562.5 raw ticks. -/
def State.settleDue (s : State) (t : Nat) (p : Phase) : Bool :=
  p.st == .settling && decide (3125 * s.getF LG_TIMING_SETTLE_US t ≤ 2 * (s.rawNow - p.doneRaw))

/-- PHASE_SHORT_TIMEOUT: SHORT 1,000 ns behind the deadline, once. -/
def execPhaseShortTimeout (t phase : Nat) (s : State) : Res :=
  match s.slotDue t phase s.shortDue with
  | some p =>
    s.event true
      (let p1 := { p with shortDone := true }
       ((s.setLedger t ((s.ledger t).put p1)).slotDev t p1 2 0 0xFFFF 0).1)
  | none => .next s

/-- A phase gives up. -/
def State.giveUp (s : State) (t : Nat) (p : Phase) : State :=
  let now := s.nowInst
  let (s1, drifts) := s.holdBarrier t p
  let s2 := s1.summary t p 1 drifts now
  ((s2.setLedger t ((s2.ledger t).drop p)).closePhase t p now true).judgeJoins t

/-- PHASE_GIVEUP. -/
def execPhaseGiveup (t phase : Nat) (s : State) : Res :=
  match s.slotDue t phase (s.giveUpDue t) with
  | some p => s.event true ((s.giveUp t p).checkDone t)
  | none => .next s

/-- PHASE_SETTLE_EXPIRE: the slot is free. -/
def execPhaseSettleExpire (t phase : Nat) (s : State) : Res :=
  match s.slotDue t phase (s.settleDue t) with
  | some p => s.event true ((s.setLedger t ((s.ledger t).drop p)).checkDone t)
  | none => .next s

/-! ### Link failure (R268, R269) -/

/-- The phases of a ledger that a failure of `port` strikes. -/
def State.struck (s : State) (t port : Nat) : List Phase :=
  if s.lgState t == 2 || s.lgState t == 3 || s.lgState t == 5 then
    (s.ledger t).slots.filter (fun p => p.st == .open_ && p.ports.contains port)
  else []

/-- RETRIED of each phase struck, after the extension of its deadline. -/
def State.retryPhases (s : State) (t port : Nat) : List Phase → State
  | [] => s
  | p :: ps =>
    let more := decide (p.retries < p.ent.retryMax)
    let n := p.retries + more.toNat
    let p1 := { p with retries := n, shortDone := p.shortDone && !(more && decide (0 < p.ent.retryExt)) }
    let s1 := s.setLedger t ((s.ledger t).put p1)
    ((s1.slotDev t p1 4 (!more).toNat port (nsBetween p1.deadline p1.start.at_)).1).retryPhases t port ps

/-- A link failure at tenant `t`'s ledger: the void of the open window, once, then the records. -/
def State.failLink (s : State) (port t : Nat) : State :=
  match s.struck t port with
  | [] => s
  | ps =>
    let s1 := if s.flag LG_CFG_VOID_RETRY t && s.openGen t != 0 then (s.windowRequest t (s.openGen t) true 3).1 else s
    s1.retryPhases t port ps

/-- LINK_FAILURE. -/
def execLinkFailure (port : Nat) (s : State) : Res :=
  s.event true ((List.range 64).foldl (fun z t => z.failLink port t) s)

/-! ### Commands (R275, R276) -/

/-- A command ends: DONE, with the reason of a refusal. -/
def State.lgDone (s : State) (t reason : Nat) : State :=
  (if reason = 0 then s else s.setF LG_STATUS_REASON t reason).setFlag LG_STATUS_DONE t true

/-- The ledgers of the other tenants that are not EMPTY. -/
def State.otherLedgers (s : State) (t : Nat) : List Nat := (List.range 64).filter (fun u => u != t && s.lgState u != 0)

/-- The first check of R276 that a LOAD fails, or 0. -/
def State.loadFails (s : State) (t : Nat) : Nat :=
  let us := s.otherLedgers t
  let len := s.getF LG_LEN_LEN t
  let slots := s.getF LG_CFG_SLOTS t
  let look := s.getF LG_CFG_LOOKAHEAD t
  let st := s.lgState t
  if !(st == 0 || st == 4 || st == 5 || st == 6) then 1
  else if s.getF LG_ADDR_ADDR t % 64 != 0 then 2
  else if len == 0 || decide (2097152 < len) || decide (len ≤ s.getF LG_LEN_LOOP_FIRST t) then 3
  else if 2097152 < (us.map (fun u => s.getF LG_LEN_LEN u)).sum + len then 4
  else if look == 0 || decide (slots ≤ look) || decide (4096 < (us.map (fun u => s.getF LG_CFG_SLOTS u)).sum + slots) then 5
  else if us.any (fun u => s.getF LG_CFG_JOB u == s.getF LG_CFG_JOB t) then 6
  else 0

/-- LOAD. -/
def State.lgLoad (s : State) (t : Nat) : State :=
  let reason := s.loadFails t
  if reason != 0 then s.lgDone t reason
  else
    let s1 := ((s.setLedger t {}).setReg .LG_CURSOR t 0).startStream t 2
    ((s1.setFlag LG_STATUS_PF_STALL t false).setLgState t 1).lgDone t 0

/-- A READY ledger starts with a pass base. -/
def State.startLedger (s : State) (t : Nat) (base : Inst) : State := (s.setPassBase t base).setLgState t 2

/-- RUN, with the fabric time of the command or LG_START as the base of pass 0. -/
def State.lgRun (s : State) (t : Nat) (timed : Bool) : State :=
  if s.lgState t != 1 then s.lgDone t 1
  else
    let base : Inst := if timed then ⟨targetUnits (s.getReg .LG_START_LO t).toNat (s.getReg .LG_START_HI t).toNat, s.epoch⟩ else s.nowInst
    (s.startLedger t base).lgDone t 0

/-- HOLD: at once, at the next step boundary, and with the current pass the last. -/
def State.lgHold (s : State) (t : Nat) (atPass stop : Bool) : State :=
  if s.lgState t != 2 then s.lgDone t 1
  else
    let x := s.ledger t
    let s1 := s.setLedger t { x with atPass := x.atPass || atPass, stopPass := x.stopPass || stop }
    (if atPass || stop then s1 else s1.setLgState t 3).lgDone t 0

/-- RELEASE. -/
def State.lgRelease (s : State) (t : Nat) : State :=
  if s.lgState t != 3 then s.lgDone t 1
  else ((s.setLedger t { s.ledger t with heldAtPass := false }).setLgState t 2).lgDone t 0

/-- The phases of a ledger closed by a STOP, with CANCELLED for the open ones, or by a reset, without records. -/
def State.stopLedger (s : State) (t : Nat) (records : Bool) : State :=
  let now := s.nowInst
  let s1 := if records then
      ((s.ledger t).slots.filter (fun p => p.st == .open_)).foldl (fun z p => z.summary t p 2 0 now) s
    else s
  let s2 := s1.setLedger t {}
  let s3 := if s2.dsState t 2 == 0 then s2 else s2.endPrefetch t 2
  s3.setLgState t 6

/-- STOP. -/
def State.lgStop (s : State) (t : Nat) : State :=
  let st := s.lgState t
  if st == 1 || st == 2 || st == 3 || st == 5 then (s.stopLedger t true).lgDone t 0 else s.lgDone t 1

/-- LG_CMD written. -/
def State.writeLgCmd (s : State) (t : Nat) (w mask : Word) : State :=
  let v := w &&& mask
  let cmd := LG_CMD_CMD.of v
  if cmd == 1 then s.lgLoad t
  else if cmd == 2 then s.lgRun t (LG_CMD_TIMED.on v)
  else if cmd == 3 then s.lgHold t (LG_CMD_AT_PASS.on v) (LG_CMD_STOP_AT_PASS.on v)
  else if cmd == 4 then s.lgRelease t
  else if cmd == 5 then s.lgStop t
  else s

def execLgLoad (t : Nat) (s : State) : Res := s.hostDoes (decide (t < 64)) (s.lgLoad t)
def execLgRun (t : Nat) (s : State) : Res := s.hostDoes (decide (t < 64)) (s.lgRun t false)
def execLgRunTimed (t : Nat) (s : State) : Res := s.hostDoes (decide (t < 64)) (s.lgRun t true)
def execLgHold (t : Nat) (s : State) : Res := s.hostDoes (decide (t < 64)) (s.lgHold t false false)
def execLgHoldAtPass (t : Nat) (s : State) : Res := s.hostDoes (decide (t < 64)) (s.lgHold t true false)
def execLgHoldStopAtPass (t : Nat) (s : State) : Res := s.hostDoes (decide (t < 64)) (s.lgHold t false true)
def execLgRelease (t : Nat) (s : State) : Res := s.hostDoes (decide (t < 64)) (s.lgRelease t)
def execLgStop (t : Nat) (s : State) : Res := s.hostDoes (decide (t < 64)) (s.lgStop t)

/-! ### Registers (R278, R280) -/

/-- LG_ADDR, LG_LEN, LG_CFG and LG_TIMING take writes unless the ledger is READY, RUNNING or HELD. -/
def State.writeLgConfig (s : State) (r : Reg) (t : Nat) (w mask : Word) : State :=
  let st := s.lgState t
  if st == 1 || st == 2 || st == 3 then s else s.store r t w mask false

/-- The start of the highest phase below `next` that has opened in pass `pass` here (R261). -/
def Ledger.startBelow (x : Ledger) (pass next : Nat) : Option Inst :=
  let open_ := (x.slots.filter (fun p => p.pass == pass && p.st != .lookahead)).map (fun p => (p.ent.phase, p.start))
  let closed := x.closed.filterMap (fun e => e.2.map (fun c => (e.1, c.start)))
  (((open_ ++ closed).filter (fun e => decide (e.1 < next))).foldl
    (fun (best : Option (Nat × Inst)) e => match best with
      | some b => some (if b.1 < e.1 then e else b)
      | none => some e) none).map (·.2)

/-- A new cursor of a ledger (R278): the lookahead and the prefetch go on from NEXT, no phase from there on has closed in the pass, and the
phases below it that hold no slot are none that the pass runs here. Within the pass, the start of the next lower phase that it has run counts
on (R261). -/
def State.moveCursor (s : State) (t : Nat) (samePass : Bool) : State :=
  let x := s.ledger t
  let next := s.getF LG_CURSOR_NEXT t
  s.setLedger t { x with
    ents := [], pf := next, from_ := next, allOpen := decide (s.getF LG_LEN_LEN t ≤ next)
    prevStart := if samePass then x.startBelow (s.getF LG_CURSOR_PASS t) next else none
    closed := if samePass then x.closed.filter (fun e => decide (e.1 < next)) else []
    slots := x.slots.filter (fun p => p.st != .lookahead) }

/-- LG_CURSOR and LG_PBASE take writes while the ledger is HELD; a new cursor frees the slots of phases that leave the lookahead, and the
prefetch goes on from NEXT. -/
def State.writeLgHeld (s : State) (r : Reg) (t : Nat) (w mask : Word) : State :=
  if s.lgState t != 3 then s
  else
    let s1 := s.store r t w mask false
    if r != .LG_CURSOR then s1 else s1.moveCursor t (s1.getF LG_CURSOR_PASS t == s.getF LG_CURSOR_PASS t)

end Sys2Proof.Machine
end

