-- ==== Sys2Proof/Machine/Funnel.lean ====
section
/-! DEFINITION. The ingest funnel, credits and the home table (R197 to R207, R216, R217, R367, R374, R375), and the controls that the block
sends to trace units (R219, R221). -/

namespace Sys2Proof.Machine

/-! ### Packets out (R198, R200, R219) -/

/-- The header of a packet to the accelerator of home entry `i`. -/
def State.replyHeader (s : State) (i kind len : Nat) : List Byte :=
  leBytes 6 (s.getF HT_ADDR_ADDR i * 128) ++ leBytes 6 (s.getF TI_ADDR_ADDR 0) ++ leBytes 1 kind ++ leBytes 1 0 ++ leBytes 2 len ++
    leBytes 2 (s.getF HT_CRED_CEPOCH i) ++ leBytes 2 s.blockId ++ leBytes 4 0 ++ leBytes 8 0

/-! ### Engine sources (R203, R217) -/

/-- The expected sequence number of an engine source becomes `seq`. -/
def State.expectSeq (s : State) (source seq : Nat) : State :=
  (s.setF TI_SEQVAL_NEXT source seq).setFlag TI_SEQVAL_VALID source true

/-- A gap of `d` records before the record of SEQ `seq` (R217). The slots of the records that never came are not known: the manual states
no value, so SLOTS is a free value. -/
def State.seqGap (s : State) (source tenant d seq : Nat) : State :=
  let (w, s1) := s.draw
  (s1.countBlock 4 1).addGap source
    { cause := 9, tenant := tenant, count := d, slots := w.toNat % 2 ^ 32, seqValid := true,
      first := s1.getF TI_SEQVAL_NEXT source, last := (seq + 2 ^ 28 - 1) % 2 ^ 28, gen := s1.openGen tenant, at_ := s1.shortNow }

/-- The acknowledgement that an ENGINE_EVENT carries for a control (R221). -/
def State.acknowledge (s : State) (i : Nat) (payload : List Byte) : State :=
  let ev := leNat (payload.take 2)
  let arg := leNat ((payload.drop 4).take 4)
  if 0x8000 ≤ ev && ev ≤ 0x8002 then
    let s1 := s.setF HT_CTL_ACK_SEQ i arg
    if arg / 65536 % 4 != 0 then s1.incF HT_CTL_LATE i else s1
  else s

/-- One sound wire record of home entry `i` (R206, R217, R216). -/
def State.wireRecord (s : State) (i typ slots h : Nat) (payload : List Byte) : State :=
  let source := 128 * i + h / 2 ^ 28 % 128
  let seq := h % 2 ^ 28
  let t := s.homeTenant i
  let d := (seq + 2 ^ 28 - s.getF TI_SEQVAL_NEXT source) % 2 ^ 28
  if s.flag TI_SEQVAL_VALID source && decide (2 ^ 27 ≤ d) then s.incF TI_STAT_STALE 0
  else
    let s1 := if s.flag TI_SEQVAL_VALID source && d != 0 then s.seqGap source t d seq else s
    let s2 := (s1.expectSeq source ((seq + 1) % 2 ^ 28)).countBlock 0 slots
    let s3 := if typ == 1 then s2.acknowledge i payload else s2
    s3.form { typ := typ, slots := slots, cls := 2, tenant := t, source := source, seq := seq, stamp := s3.shortNow, payload := payload,
              epoch := s3.epoch }

/-- The slots that R37 allows for an engine record type. -/
def wireSlotsOk (typ slots : Nat) : Bool :=
  if typ == 1 then decide (slots ≤ 4) else if typ == 2 || typ == 3 then slots == 1 else (typ == 4 || typ == 5) && decide (slots ≤ 2)

/-- The records of a packet from home entry `i`, in order; the first that breaks R205 ends them. `pad` says that a pad slot has come. -/
def State.wireRecords (s : State) (i format : Nat) (pad : Bool) : Nat → List Byte → State
  | 0, _ => s
  | fuel + 1, body =>
    if body.isEmpty then s
    else
      let h := leNat (body.take 8)
      let typ := h / 2 ^ 56
      let slots := h / 2 ^ 53 % 8 + 1
      if typ == 0 then
        if format == 0 && (body.take 32).all (· == 0) then s.wireRecords i format true fuel (body.drop 32)
        else s.incF TI_STAT_MALFORMED 0
      else if pad || !wireSlotsOk typ slots || h / 2 ^ 35 % 2 ^ 18 != 0 || leNat ((body.drop 8).take 8) != 0 || body.length < 32 * slots then
        s.incF TI_STAT_MALFORMED 0
      else
        (s.wireRecord i typ slots h ((body.take (32 * slots)).drop 16)).wireRecords i format false fuel (body.drop (32 * slots))

/-- LEN fits FORMAT (R197). -/
def formatFits (format len : Nat) : Bool :=
  if format == 0 then len == 96
  else if format == 1 then decide (32 ≤ len) && decide (len ≤ 4096) && len % 32 == 0
  else format == 2 && len == 0

/-- The home entry of a topology address (R3, R199). -/
def State.homeOf (s : State) (src : Nat) : Option Nat :=
  (List.range 256).find? (fun i => s.homeValid i && src / 2 ^ 41 % 2 ^ 7 == 0 && s.getF HT_ADDR_ADDR i == src / 128 % 2 ^ 41)

/-- A TRACE packet that the funnel accepts from home entry `i`: charge, lease, records (R202, R203, R214, R216). -/
def State.acceptTrace (s : State) (i : Nat) (p : TracePkt) : State :=
  let n := p.len / 32
  let s1 := if p.cepoch == s.getF HT_CRED_CEPOCH i then s.addF HT_STAT_RECV i n else s
  (s1.renew i).wireRecords i p.format false n p.payload

/-- Credit left of an entry. -/
def State.creditOf (s : State) (i : Nat) : Nat := (s.getF HT_STAT_LIMIT i + 2 ^ 32 - s.getF HT_STAT_RECV i) % 2 ^ 32

/-- A TRACE packet (R199, in the order of its table). -/
def State.tracePacket (s : State) (p : TracePkt) : State :=
  if !s.flag TI_CTRL_ENABLE 0 then s.incF TI_STAT_DISABLED 0
  else if p.dest != s.getF TI_ADDR_ADDR 0 || p.src % 128 != 0 || p.kind != 0x54 || !formatFits p.format p.len || p.payload.length != p.len then
    s.incF TI_STAT_MALFORMED 0
  else match s.homeOf p.src with
    | none => (s.incF TI_STAT_NOHOME 0).setF TI_NOHOME_SRC 0 p.src
    | some i =>
      if p.cepoch == s.getF HT_CRED_CEPOCH i && decide (s.creditOf i < p.len / 32) then s.incF TI_STAT_OVERRUN 0
      else s.acceptTrace i p

def execTracePacket (p : TracePkt) (s : State) : Res := s.event true (s.tracePacket p)

/-- SEQ_GAP_LOSS_TICK: the tallies of the funnel form their LOSS records at a tick of the microsecond clock (R217). -/
def State.gapTick (s : State) : State :=
  s.funnel.gaps.foldl
    (fun z e => match e.2 with
      | some g => ({ z with funnel := { z.funnel with gaps := smSet none z.funnel.gaps e.1 none } }).gapLoss (e.1 / 16) g
      | none => z) s

def execSeqGapLossTick (s : State) : Res := s.event (!s.funnel.gaps.isEmpty) s.gapTick

/-! ### Credit (R202) -/

/-- The grant of one entry out of a budget; the rest of the budget. -/
def State.grantOne (s : State) (i budget : Nat) : State × Nat :=
  if !s.homeValid i || s.standby i || s.shareFull (s.homeTenant i) then (s, budget)
  else
    let room := s.getF HT_CRED_DEPTH i - s.creditOf i
    let g := min (min (s.getF HT_CRED_RATE i) room) budget
    ((s.addF HT_STAT_LIMIT i g).countBlock 3 g, budget - g)

/-- The grants of the entries in order. -/
def State.grantAll (s : State) (budget : Nat) : List Nat → State
  | [] => s
  | i :: rest =>
    let (s1, b) := s.grantOne i budget
    s1.grantAll b rest

/-- A CREDIT packet to entry `i`. -/
def State.sendCredit (s : State) (i : Nat) : State :=
  let body := leBytes 4 (s.getF HT_STAT_LIMIT i) ++ leBytes 4 (s.getF HT_STAT_RECV i) ++ leBytes 24 0
  let s1 := s.emit (.fabric (s.replyHeader i 0x55 32 ++ body))
  { s1 with funnel := { s1.funnel with
      sentLimit := smSet 0 s1.funnel.sentLimit i (s.getF HT_STAT_LIMIT i), sentUs := smSet 0 s1.funnel.sentUs i s.us } }

/-- A CREDIT to entry `i` is due: LIMIT has risen by MIN_STEP, or REFRESH has passed. -/
def State.creditTo (s : State) (i : Nat) : State :=
  if s.homeValid i && !s.standby i &&
      (decide (s.getF TI_CRCFG_MIN_STEP 0 ≤ (s.getF HT_STAT_LIMIT i + 2 ^ 32 - smGet 0 s.funnel.sentLimit i) % 2 ^ 32) ||
       decide (smGet 0 s.funnel.sentUs i + s.getF TI_CRCFG_REFRESH 0 ≤ s.us)) then s.sendCredit i
  else s

/-- CREDIT_GRANT, each microsecond. -/
def State.creditGrant (s : State) : State :=
  let order := (List.range 256).map (fun j => (s.funnel.rr + j) % 256)
  let s1 := s.grantAll (s.getF TI_CRCFG_CAP 0) order
  let s2 := { s1 with funnel := { s1.funnel with rr := (s1.funnel.rr + 1) % 256 } }
  (List.range 256).foldl (fun z i => z.creditTo i) s2

def execCreditGrant (s : State) : Res := s.event (s.flag TI_CTRL_ENABLE 0) s.creditGrant

/-! ### The home table (R203, R204, R368, R375) -/

/-- A new credit epoch of entry `i`. -/
def State.newCreditEpoch (s : State) (i : Nat) : State :=
  let s1 := ((s.incF HT_CRED_CEPOCH i).setF HT_STAT_LIMIT i 0).setF HT_STAT_RECV i 0
  let s2 := (List.range 128).foldl (fun z e => z.setReg .TI_SEQVAL (128 * i + e) 0) s1
  { s2.setF HT_CTL_PENDING i 0 with funnel := { s2.funnel with
      acts := smSet [] s2.funnel.acts i [], sentLimit := smSet 0 s2.funnel.sentLimit i 0 } }

/-- The value of entry `i` would give two valid entries one address (R204). -/
def State.duplicates (s : State) (i : Nat) (v : Word) : Bool :=
  HT_ADDR_VALID.on v && (List.range 256).any (fun j => j != i && s.homeValid j && s.getF HT_ADDR_ADDR j == HT_ADDR_ADDR.of v)

/-- Entry `i` takes a value that is no duplicate: the entry, its credit epoch, its liveness, and with VALID = 0 the end of its lease. -/
def State.applyHome (s : State) (i : Nat) (v : Word) : State :=
  let s1 := (s.setReg .HT_ADDR i v).newCreditEpoch i
  if HT_ADDR_VALID.on v then
    ((((s1.setF LS_ENT_STATE i 1).setF LS_ENT_MISSES i 0).setFlag LS_ENT_EXPEL_SENT i false).setF LS_ENT_LAST i 0).setF LS_ENT_JOB_VIEW i 1
  else (s1.setF LS_ENT_STATE i 0).clearRenewed i

/-- HT_ADDR written. -/
def State.writeHtAddr (s : State) (i : Nat) (w mask : Word) : State :=
  let v := storeFields false w mask Reg.HT_ADDR.fields (s.getReg .HT_ADDR i)
  if s.duplicates i v || (s.pairState == 2 && s.arrBit .PR_OWN i) then s
  else
    let s1 := s.applyHome i v
    if s1.arrBit .PR_OWN i then s1 else s1.sendWritten i

def execHtAddrWrite (i : Nat) (data : Word) (s : State) : Res := s.hostDoes (i < 256) (s.writeHtAddr i data allBits)

/-- HT_CRED written. On a block of a pair a write to an owned entry starts a new credit epoch here as on the partner (R375). -/
def State.writeHtCred (s : State) (i : Nat) (w mask : Word) : State :=
  if s.pairState == 2 && s.arrBit .PR_OWN i then s
  else
    let s1 := s.store .HT_CRED i w mask false
    if s1.arrBit .PR_OWN i then s1 else (if s1.mirrors then s1.newCreditEpoch i else s1).sendWritten i

/-! ### Trace controls (R219, R221) -/

/-- The controls to entry `i` whose ACT_TIME has not passed. -/
def State.pendingCtl (s : State) (i : Nat) : List Nat := (smGet [] s.funnel.acts i).filter (fun a => decide (s.now16 ≤ a))

/-- What an action sends: START 1, STOP 2 or MARK 3, its scope, mark number, engines, and ACT_TIME in 2^-16 ns. -/
structure Control where
  action : Nat
  scope : Nat
  mark : Nat
  engines : Nat
  act : Nat
  deriving DecidableEq, Repr

/-- A control to the accelerator of entry `i` for tenant `t`, or ALARM CTL_OVERFLOW when it would be the fifth. -/
def State.sendControl (s : State) (t : Nat) (c : Control) (i : Nat) : State :=
  let pend := s.pendingCtl i
  if 4 ≤ pend.length then
    (s.setFlag TS_STAT_CTL_OVFL t true).alarm t (0x8340 + t) 0x0402
      (leBytes 2 i ++ leBytes 1 c.action ++ leBytes 1 0 ++ leBytes 8 c.act)
  else
    let seq := (s.getF HT_CTL_SENT_SEQ i + 1) % 65536
    let body := leBytes 1 c.action ++ leBytes 1 c.scope ++ leBytes 2 seq ++ leBytes 2 s.epoch ++ leBytes 2 c.mark ++
      fullBytes (c.act * 2 ^ 24) ++ leBytes 12 0 ++ leBytes 16 c.engines ++ leBytes 16 0
    let acts := pend ++ [c.act]
    let s1 := (s.setF HT_CTL_SENT_SEQ i seq).setF HT_CTL_PENDING i (acts.filter (fun a => decide (s.now16 ≤ a))).length
    ({ s1 with funnel := { s1.funnel with acts := smSet [] s1.funnel.acts i acts } }).emit (.fabric (s.replyHeader i 0x56 64 ++ body))

/-- A control to every home accelerator of tenant `t` that this block serves. -/
def State.sendControls (s : State) (t : Nat) (c : Control) : State :=
  ((List.range 256).filter (fun i => s.homeValid i && s.homeTenant i == t && !s.standby i)).foldl (fun z i => z.sendControl t c i) s

/-- PENDING of entry `i` as it stands now. -/
def State.showPending (s : State) (i : Nat) : State := s.setF HT_CTL_PENDING i (s.pendingCtl i).length

end Sys2Proof.Machine
end

