-- ==== Sys2Proof/Machine/Sequencer.lean ====
section
/-! DEFINITION. The trigger sequencers (R222 to R228). -/

namespace Sys2Proof.Machine

/-! ### Comparators (R222, R224) -/

/-- The mode of a TIME comparator of the current state: TMODE, else CMPMODE, else the tenant's default. True is signed difference. -/
def State.timeMode (s : State) (t k : Nat) : Bool :=
  let m := s.getF TS_PROG0_TMODE (s.cmpIdx t k)
  s.cmpSigned (if m == 0 then s.getF TS_CFG_CMPMODE t else m) t

/-- The target of a TIME comparator as its low and high words: a TS_TIME slot, or entry plus VALUE ns. -/
def State.timeTarget (s : State) (t k : Nat) : Nat × Nat :=
  let i := s.cmpIdx t k
  if s.flag TS_PROG0_REL i then
    let full := fullOf ((s.seqr t).entry + s.getF TS_PROG1_VALUE i * 2 ^ 40)
    if s.timeMode t k then (shortOf ((s.seqr t).entry + s.getF TS_PROG1_VALUE i * 2 ^ 40), 0) else (full % 2 ^ 48, full / 2 ^ 48)
  else
    let j := 4 * t + s.getF TS_PROG0_PARAM i % 4
    ((s.getReg .TS_TIME_LO j).toNat, (s.getReg .TS_TIME_HI j).toNat)

/-- Comparator `k` of tenant `t` is disarmed (R224). -/
def State.disarmed (s : State) (t k : Nat) : Bool := smGet false (s.seqr t).disarmed k

/-- Comparator `k` of the current state holds. A SYNC comparator keeps the read reach that it had when entry armed it (R243). -/
def State.cmpHolds (s : State) (t k : Nat) : Bool :=
  let i := s.cmpIdx t k
  let kind := s.getF TS_PROG0_KIND i
  let v := s.getF TS_PROG1_VALUE i
  let p := s.getF TS_PROG0_PARAM i
  let x := s.seqr t
  let ctr := (s.getReg .CTR_LIVE (p % 65536)).toNat
  if kind == 1 then s.countable t (p % 65536) && decide (v ≤ (ctr + 2 ^ 64 - smGet 0 x.base k) % 2 ^ 64)
  else if kind == 2 then !s.disarmed t k && s.countable t (p % 65536) && decide (v ≤ ctr)
  else if kind == 3 || kind == 4 then decide (v ≤ smGet 0 x.count k)
  else if kind == 5 then
    !s.disarmed t k && smGet false x.reach k && !s.flag SC_COUNT_POISONED (p % 16384) && decide (v ≤ s.getF SC_COUNT_VALUE (p % 16384))
  else if kind == 6 then
    let (lo, hi) := s.timeTarget t k
    !s.disarmed t k && !bitOf (s.getReg .TS_STAT t) (46 + k) && s.holdsNow 0 (s.timeMode t k) lo hi x.epoch
  else false

/-! ### Entry (R222, R225) -/

/-- The read reach of the SYNC comparators of tenant `t`, checked when entry arms them (R243). -/
def State.armReach (s : State) (t : Nat) (x : Seqr) : Seqr :=
  [0, 1, 2, 3].foldl
    (fun y k =>
      let i := s.cmpIdx t k
      { y with reach := smSet false y.reach k (s.getF TS_PROG0_KIND i == 5 && s.readReach t (s.getF TS_PROG0_PARAM i % 16384)) }) x

/-- The baselines and late marks of an entry. -/
def State.baselines (s : State) (t : Nat) (x : Seqr) : Seqr :=
  [0, 1, 2, 3].foldl
    (fun y k =>
      let i := s.cmpIdx t k
      let kind := s.getF TS_PROG0_KIND i
      if kind == 1 then { y with base := smSet 0 y.base k (s.getReg .CTR_LIVE (s.getF TS_PROG0_PARAM i % 65536)).toNat }
      else if kind == 6 then
        let (lo, hi) := s.timeTarget t k
        { y with late := smSet false y.late k (s.passed 0 (s.timeMode t k) lo hi s.epoch) }
      else y) x

/-- The sequencer of tenant `t` moves into state `st` (R222): counts start afresh, and what R224 has disarmed stays so while the state is the
same. -/
def State.enterState (s : State) (t st : Nat) : State :=
  let same := s.getF TS_STAT_STATE t == st
  let s1 := (s.setF TS_STAT_STATE t st).setF TS_STAT_EPOCH t 0
  let x : Seqr := { entry := s.fabNow, epoch := s.epoch, disarmed := if same then (s.seqr t).disarmed else [] }
  let s2 := s1.setSeqr t x
  s2.setSeqr t (s2.baselines t (s2.armReach t x))

/-! ### Actions (R223) -/

/-- ENGINE_MASK of a tenant's controls. -/
def State.engineMask (s : State) (t : Nat) : Nat := (s.getReg .TS_EMASK (2 * t)).toNat + 2 ^ 64 * (s.getReg .TS_EMASK (2 * t + 1)).toNat

/-- A timed harvest request at `act` (2^-16 ns) in a comparator mode. -/
def State.harvestAt (s : State) (signedMode : Bool) (act : Nat) : State :=
  let full := fullOf (act * 2 ^ 24)
  (s.requestHarvest (if signedMode then s.timedReq true (act % 2 ^ 64) 0 else s.timedReq false (full % 2 ^ 48) (full / 2 ^ 48))).1

/-- The actions of a mask, with ACT_TIME `act`; `detail` is what ALARM TRIGGER says of the transition. -/
def State.actions (s : State) (t mask act : Nat) (signedMode : Bool) (detail : List Byte) : State :=
  let on := fun (b : Nat) => mask / 2 ^ b % 2 == 1
  let ctl := fun (z : State) (action scope mark : Nat) =>
    z.sendControls t { action := action, scope := scope, mark := mark, engines := z.engineMask t, act := act }
  let scope := s.getF TS_CFG_SCOPE t
  let s1 := if on 0 then ctl s 1 scope 0 else s
  let s2 := if on 1 then ctl s1 2 scope 0 else s1
  let s3 := if on 2 then s2.harvestAt signedMode act else s2
  let s4 := if on 3 then (ctl s3 3 0 (s3.getF TS_MARK_NEXT t)).incF TS_MARK_NEXT t else s3
  if on 4 then s4.alarm t (0x8340 + t) 0x0401 (detail ++ leBytes 8 act) else s4

/-- ACT_TIME of a base in 2^-16 ns. -/
def State.actTime (s : State) (t base : Nat) : Nat := base + s.getF TS_CFG_LEAD t * microsecond16

/-- Comparator `k` fires: its actions, then the move to NEXT (R223, R224). -/
def State.fire (s : State) (t k : Nat) : State :=
  let i := s.cmpIdx t k
  let kind := s.getF TS_PROG0_KIND i
  let st := s.getF TS_STAT_STATE t
  let next := s.getF TS_PROG0_NEXT i
  let late := kind == 6 && smGet false (s.seqr t).late k
  let base := if kind == 6 && !late then
      let (lo, hi) := s.timeTarget t k
      (((s.now16 : Int) - targetGap (s.timeMode t k) lo hi s.fabNow)).toNat
    else s.now16
  let mode := if kind == 6 then s.timeMode t k else s.cmpSigned (s.getF TS_CFG_CMPMODE t) t
  let detail := leBytes 1 st ++ leBytes 1 k ++ leBytes 1 next ++ leBytes 1 late.toNat
  let s1 := s.actions t (s.getF TS_PROG0_ACTIONS i) (s.actTime t base) mode detail
  let s2 := ((s1.setF TS_STAT_PREV t st).setF TS_STAT_LAST_K t k).setFlag TS_STAT_LAST_LATE t late
  let s3 := if [2, 5, 6].contains kind && next == st then
      s2.setSeqr t { s2.seqr t with disarmed := smSet false (s2.seqr t).disarmed k true }
    else s2
  (s3.incF TS_STAT_TRANSITIONS t).enterState t next

/-- SEQUENCER_EVALUATE: the lowest-numbered comparator that holds. -/
def execSequencerEvaluate (t : Nat) (s : State) : Res :=
  match [0, 1, 2, 3].find? (fun k => s.cmpHolds t k) with
  | some k => s.event (s.runState t == 1) (s.fire t k)
  | none => .next s

/-! ### Run states and commands (R225, R228) -/

/-- TS_CTL written. -/
def State.writeTsCtl (s : State) (t : Nat) (w mask : Word) : State :=
  let s1 := s.store .TS_CTL t w mask false
  if bitOf mask 63 then
    if TS_CTL_RUN.on w then
      (if s.runState t == 0 then (s1.setF TS_STAT_RUNSTATE t 1).enterState t (s1.getF TS_CTL_START_STATE t) else s1)
    else if s.runState t == 1 then s1.setF TS_STAT_RUNSTATE t 0
    else s1
  else s1

def execTsRunStart (t : Nat) (data : Word) (s : State) : Res := s.hostDoes (TS_CTL_RUN.on data) (s.writeTsCtl t data allBits)
def execTsRunStop (t : Nat) (data : Word) (s : State) : Res := s.hostDoes (!TS_CTL_RUN.on data) (s.writeTsCtl t data allBits)

/-- MANUAL: the actions of the written word, base the present. The manual states no comparator for an ALARM TRIGGER of MANUAL: a free
value. -/
def State.manual (s : State) (t mask : Nat) : State :=
  let (w, s1) := s.draw
  let st := s1.getF TS_STAT_STATE t
  s1.actions t mask (s1.actTime t s1.now16) (s1.cmpSigned (s1.getF TS_CFG_CMPMODE t) t)
    (leBytes 1 st ++ leBytes 1 (w.toNat % 256) ++ leBytes 1 st ++ leBytes 1 0)

/-- TS_CMD written: FORCE, then MANUAL; a SUSPENDED sequencer takes neither. -/
def State.writeTsCmd (s : State) (t : Nat) (w mask : Word) : State :=
  if s.runState t == 2 then s
  else
    let s1 := if TS_CMD_FORCE.cmd w mask then s.enterState t (TS_CMD_STATE.of (w &&& mask)) else s
    if TS_CMD_MANUAL.cmd w mask then s1.manual t (TS_CMD_ACTIONS.of (w &&& mask)) else s1

def execTsForce (t : Nat) (data : Word) (s : State) : Res := s.hostDoes (TS_CMD_FORCE.on data) (s.writeTsCmd t data allBits)
def execTsManual (t : Nat) (data : Word) (s : State) : Res := s.hostDoes (TS_CMD_MANUAL.on data) (s.writeTsCmd t data allBits)

/-- A program word of the window written, for the tenant that TS_PSEL names; entry `j` is 4 × state + comparator. -/
def State.writeTsProg (s : State) (r : Reg) (j : Nat) (w mask : Word) : State :=
  let t := s.getF TS_PSEL_TENANT 0
  if s.runState t == 0 then s.store r (64 * t + j) w mask false else s

/-! ### Steps, pre-emption and reset (R224 to R226) -/

/-- A TIME comparator in signed mode whose epoch a step has ended (R224). -/
def State.endEpoch (s : State) (t k : Nat) : State :=
  let s1 := s.setReg .TS_STAT t (putBits (s.getReg .TS_STAT t) (46 + k) (46 + k) 1)
  s1.alarm t (0x8340 + t) 0x0403 (leBytes 1 (s1.getF TS_STAT_STATE t) ++ leBytes 1 k ++ leBytes 2 0 ++ leBytes 8 ((s1.timeTarget t k).1 % 2 ^ 64))

/-- What a step does to comparator `k` of a RUNNING sequencer: signed mode ends EPOCH; a magnitude target that the step has passed is
late. -/
def State.stepCmp (s : State) (t k : Nat) : State :=
  let i := s.cmpIdx t k
  if s.getF TS_PROG0_KIND i != 6 || s.disarmed t k || bitOf (s.getReg .TS_STAT t) (46 + k) then s
  else if s.timeMode t k then s.endEpoch t k
  else
    let (lo, hi) := s.timeTarget t k
    if s.holdsNow 0 false lo hi 0 then s.setSeqr t { s.seqr t with late := smSet false (s.seqr t).late k true } else s

def State.stepSeqr (s : State) (t : Nat) : State :=
  if s.runState t == 1 then [0, 1, 2, 3].foldl (fun z k => z.stepCmp t k) s else s

/-- A tenant reset: DISABLED, and STOP to its accelerators (R221, R225). -/
def State.resetSeqr (s : State) (t : Nat) : State :=
  let s1 := (s.setF TS_STAT_RUNSTATE t 0).setSeqr t {}
  s1.sendControls t { action := 2, scope := 3, mark := 0, engines := 2 ^ 128 - 1, act := s1.now16 }

end Sys2Proof.Machine
end

