-- ==== Sys2Proof/Machine/Pairing.lean ====
section
/-! DEFINITION. Pairing, mirroring and re-admission (R374 to R397): the pairing states, heartbeats, mirror frames and messages, takeover,
snapshots and the handback. -/

namespace Sys2Proof.Machine

/-! ### State, registers and alarms -/

/-- The pairing unit changed. -/
def State.pairSet (s : State) (f : PairUnit → PairUnit) : State := { s with pair := f s.pair }

/-- The pairing state becomes `st`; JOIN_READY belongs to JOINING alone. -/
def State.setPairState (s : State) (st : Nat) : State := (s.setF PR_STATUS_STATE 0 st).setFlag PR_STATUS_JOIN_READY 0 false

/-- An ALARM of the pairing unit to tenant `t`, and its interrupt (R396, R398). -/
def State.pairAlarm (s : State) (t code : Nat) (detail : List Byte) : State := (s.alarm t 0x830E code (padTo 12 detail)).raise vecPairing

/-- The partner's BLOCK_ID. -/
def State.peerId (s : State) : Nat := s.getF PR_PEER_PEER_ID 0

/-- The header of a mirror frame (R377): KIND 0x40 MIRROR or 0x41 BEAT. -/
def State.mirrorHeader (s : State) (kind nmsg mseq : Nat) : List Byte :=
  leBytes 1 1 ++ leBytes 1 kind ++ leBytes 2 s.blockId ++ leBytes 2 (s.getF PR_CTL_PAIR_ID 0) ++ leBytes 2 nmsg ++ leBytes 4 (mseq % 2 ^ 32) ++
    leBytes 4 s.pair.expect ++ leBytes 16 0

/-- A mirror lane is in use (R376) and not idle under self-test (R406). -/
def State.mirrorUp (s : State) : Bool := s.getF PR_LINK_LANES 0 != 0 && !s.flag MYB_BIST_STAT_BUSY 0

/-- A pairing command refused: 1 STATE, 2 ADOPT. -/
def State.pairRefuse (s : State) (reason : Nat) : State := s.setF PR_STATUS_REASON 0 reason

/-- Mirroring starts from MSEQ 0 in both directions (R378, R384). -/
def State.startMirror (s : State) : State := ({ s with mtx := {} }).pairSet (fun (p : PairUnit) => { p with expect := 0 })

/-- Nothing is mirrored any more. -/
def State.stopMirror (s : State) : State :=
  ({ s with mtx := {} }).pairSet (fun (p : PairUnit) =>
    { p with admitAt := none, peerReady := false, inSnap := false, started := [] })

/-! ### Sending (R377, R378, R383) -/

/-- The raw ticks that a message has waited. -/
def State.waited (s : State) (x : Nat × MirMsg) : Nat := s.rawNow - x.1

/-- A frame with the messages `ms`, the first of MSEQ `n`: the header, and each message's kind and content, whose place in the other 31 bytes the
manual does not give (R377, R379). -/
def State.mirrorFrame (s : State) (n : Nat) (ms : List MirMsg) : State :=
  if s.mirrorUp then
    s.emit (.mirrorFrame (s.mirrorHeader 0x40 ms.length n) (ms.map (fun m => (BitVec.ofNat 8 m.kind, m))))
  else s

/-- The messages `ms` in frames of up to 280. -/
def State.mirrorFrames (s : State) : Nat → Nat → List MirMsg → State
  | 0, _, _ => s
  | fuel + 1, n, ms => if ms.isEmpty then s else (s.mirrorFrame n (ms.take 280)).mirrorFrames fuel (n + 280) (ms.drop 280)

/-- The messages that no frame has carried yet. -/
def State.unframed (s : State) : List (Nat × MirMsg) := s.mtx.unacked.drop s.mtx.framed

/-- A MIRROR frame is full, or 200 ns have passed since its first message. -/
def State.frameDue (s : State) : Bool := match s.unframed with
  | [] => false
  | x :: xs => decide (279 ≤ xs.length) || decide (625 ≤ 2 * s.waited x)

/-- The MIRROR frame closes. -/
def State.closeMirror (s : State) : State :=
  let ms := s.unframed.take 280
  let s1 := s.mirrorFrame (s.mtx.base.toNat + s.mtx.framed) (ms.map (·.2))
  { s1 with mtx := { s1.mtx with framed := s1.mtx.framed + ms.length } }

def execMirrorFrameClose (s : State) : Res := s.event s.frameDue s.closeMirror

/-- The oldest message sent has waited 4 µs (6,250 ticks). -/
def State.retransmitDue (s : State) : Bool := match s.mtx.unacked with
  | [] => false
  | x :: _ => decide (0 < s.mtx.framed) && decide (6250 ≤ s.waited x)

/-- Every message sent and not acknowledged goes out again, from the oldest. -/
def State.retransmit (s : State) : State :=
  let ms := s.mtx.unacked.take s.mtx.framed
  let s1 := (s.incF PR_LINK_RETX 0).mirrorFrames 16 s.mtx.base.toNat (ms.map (·.2))
  { s1 with mtx := { s1.mtx with unacked := ms.map (fun x => (s.rawNow, x.2)) ++ s.unframed } }

def execMirrorRetransmit (s : State) : Res := s.event s.retransmitDue s.retransmit

/-- The partner expects MSEQ `n` next: what lies before it is acknowledged, and what waited for room takes its place. -/
def State.ackMirror (s : State) (n : Nat) : State :=
  let k := (n + 2 ^ 32 - s.mtx.base.toNat) % 2 ^ 32
  if k ≤ s.mtx.framed then
    let kept := s.mtx.unacked.drop k
    let room := 4096 - kept.length
    let x : MirrorTx :=
      { base := s.mtx.base + BitVec.ofNat 32 k, unacked := kept ++ (s.mtx.extra.take room).map (fun m => (s.rawNow, m))
        framed := s.mtx.framed - k, extra := s.mtx.extra.drop room }
    { s with mtx := x }
  else s

/-- LEAVE, behind all that is still to be sent, when the mirror path is up (R384): in every state but OFF, and alone where nothing is
mirrored. -/
def State.sendLeave (s : State) : State :=
  let ms := s.unframed.map (·.2) ++ s.mtx.extra ++ [.leave]
  s.mirrorFrames (ms.length / 280 + 1) (s.mtx.base.toNat + s.mtx.framed) ms

/-- The 32 bytes of a BEAT that leaves now with TX `tx` (R383); LOCKED is the quality state LOCKED. -/
def State.beatBytes (s : State) (tx : Nat) : List Byte :=
  let turn := if s.pair.echo == 0 then 0 else (s.shortNow + 2 ^ 64 - s.pair.echoAt) % 2 ^ 64
  leBytes 8 tx ++ leBytes 2 s.epoch ++ leBytes 1 (s.quality + 16 * s.pairState) ++
    leBytes 1 (s.getF PR_STATUS_JOIN_READY 0 + 2 * (s.quality == 2).toNat) ++ leBytes 4 s.pair.expect ++ leBytes 8 s.pair.echo ++ leBytes 8 turn

/-! ### JOIN_READY and the adoption of time (R391) -/

/-- R391 holds. -/
def State.joinReady (s : State) : Bool :=
  s.joining && decide (s.pair.asked ≤ s.pair.complete) && (!s.flag PR_CTL_ADOPT_TIME 0 || s.pair.adopted) && s.quality == 2

/-- JOIN_READY follows R391. -/
def State.showReady (s : State) : State := s.setFlag PR_STATUS_JOIN_READY 0 s.joinReady

/-- A difference of short stamps. -/
def shortDiff (a b : Nat) : Int := signed64 (a + 2 ^ 64 - b % 2 ^ 64)

/-- The exchange that a mirror BEAT completes: its d, of two short stamps of one block, and its ofs, of two blocks' stamps, exact. -/
def exchangeOf (b : Beat) : Int × Int :=
  let d := (shortDiff b.receipt b.echo - b.turn).tdiv 2
  (d, (b.tx : Int) + d - b.receipt)

/-- The exchange with the smallest d, the earliest of equals. -/
def bestExchange : List (Int × Int) → Option (Int × Int)
  | [] => none
  | x :: xs => match bestExchange xs with
    | some y => if y.1 < x.1 then some y else some x
    | none => some x

/-- A signed number that saturates in `w` bits. -/
def satSigned (w : Nat) (v : Int) : Nat :=
  (BitVec.ofInt w (if v < -(2 ^ (w - 1)) then -(2 ^ (w - 1)) else if 2 ^ (w - 1) - 1 < v then 2 ^ (w - 1) - 1 else v)).toNat

/-- PR_DELAY shows the best of the last 64 exchanges. -/
def State.showDelay (s : State) : State := match bestExchange s.pair.exch with
  | some x => (s.setF PR_DELAY_D 0 (satTo 32 x.1.toNat)).setF PR_DELAY_OFS 0 (satSigned 32 x.2)
  | none => s

/-- The adoption: a step at the next 256-tick boundary at least 512 ticks ahead, under the checks of R60 that apply. -/
def State.adoptTime (s : State) (ofs : Int) (epoch : Nat) : State :=
  let s0 := s.pairSet (fun (p : PairUnit) => { p with tried := true })
  let at_ := (s.rawNow + 512 + 255) / 256 * 256
  if epoch == s.epoch && ofs < 0 then s0.pairRefuse 2
  else if !s.flag TB_CTRL_RUN 0 then (s0.rejectTime 11).pairRefuse 2
  else if !s.slewOk (s.getF TB_LIMITS_INCR_NOM 0) then (s0.rejectTime 4).pairRefuse 2
  else if !s.historyFits at_ s.time.pendIncr.length then (s0.rejectTime 8).pairRefuse 2
  else
    s0.setCommit (some { step := true, at_ := at_, ofs := (((s.entryAhead at_).at at_ 0 : Int) + ofs * 2 ^ 24).toNat
                         incr := s.getF TB_LIMITS_INCR_NOM 0, epoch := epoch, adopt := true })

/-- 64 exchanges are there and the adoption has not been tried. -/
def State.tryAdopt (s : State) (epoch : Nat) : State :=
  if s.joining && s.flag PR_CTL_ADOPT_TIME 0 && !s.pair.tried && decide (64 ≤ s.pair.exch.length) then
    match bestExchange s.pair.exch with
    | some x => s.adoptTime x.2 epoch
    | none => s
  else s

/-- BEAT_SEND, each microsecond on both paths: a mirror frame of KIND BEAT, and a PAIR_BEAT packet from TI_ADDR to the partner's (R374, R377). -/
def State.sendBeats (s : State) : State :=
  let s0 := s.showReady
  let s1 := if s0.mirrorUp then s0.emit (.mirrorBeat (s0.mirrorHeader 0x41 1 0 ++ s0.beatBytes s0.shortNow)) else s0
  s1.emit (.pairBeat (s1.getF PR_PEER_PEER_ADDR 0) (s1.getF TI_ADDR_ADDR 0) (s1.beatBytes 0))

def execBeatSend (s : State) : Res := s.event (s.pairState != 0) s.sendBeats

/-! ### The partner image (R382) -/

/-- Tenant `t` of the image. -/
def State.imgTen (s : State) (t : Nat) : ImgTen := smGet {} s.pair.image.tens t

def State.setImgTen (s : State) (t : Nat) (x : ImgTen) : State :=
  s.pairSet (fun (p : PairUnit) => { p with image := { p.image with tens := smSet {} p.image.tens t x } })

/-- The liveness of home entry `i` in the image. -/
def State.imgLive (s : State) (i : Nat) : ImgLive := smGet {} s.pair.image.lives i

def State.setImgLive (s : State) (i : Nat) (x : ImgLive) : State :=
  s.pairSet (fun (p : PairUnit) => { p with image := { p.image with lives := smSet {} p.image.lives i x } })

/-- The bytes of the image as the host reads them: the fields of R382 packed in its order, the MSEQ in the last 8 bytes of an entry. -/
def ImgTime.bytes (x : ImgTime) : List Byte :=
  padTo 56 (leBytes 12 x.offset ++ leBytes 8 x.incr ++ leBytes 2 x.epoch ++ leBytes 1 x.quality) ++ leBytes 8 x.mseq

def ImgTen.bytes (x : ImgTen) : List Byte :=
  padTo 56 (leBytes 1 x.state ++ leBytes 8 x.tnCfg.toNat ++ leBytes 2 x.stream ++ leBytes 8 x.wnCfg.toNat ++ leBytes 4 x.cur ++
    leBytes 4 x.next ++ leBytes 1 x.lgState ++ leBytes 4 x.pass ++ leBytes 4 x.lgNext ++ leBytes 12 x.pbase ++ leBytes 5 x.level ++
    leBytes 2 x.spare) ++ leBytes 8 x.mseq

def ImgLive.bytes (x : ImgLive) : List Byte :=
  padTo 8 (leBytes 1 x.state ++ leBytes 1 x.jobView ++ leBytes 1 x.expelSent) ++ leBytes 8 x.mseq

/-- Word `k` of an entry's bytes. -/
def wordAt (bs : List Byte) (k : Nat) : Word := BitVec.ofNat 64 (fieldAt bs (8 * k) 8)

/-- Word `i` of one of the image's arrays. -/
def State.imageWord (s : State) (r : Reg) (i : Nat) : Word := match r with
  | .PI_TIME => wordAt s.pair.image.time.bytes i
  | .PI_TEN => wordAt (s.imgTen (i / 8)).bytes (i % 8)
  | .PI_LIVE => wordAt (s.imgLive (i / 2)).bytes (i % 2)
  | _ => smGet 0 s.pair.image.soft i

/-! ### Losing the partner (R386, R387) -/

/-- A home entry that this block takes up: a new credit epoch, a CREDIT at the next grant, and the liveness `x` with MISSES 0. -/
def State.homeEntry (s : State) (i : Nat) (x : ImgLive) : State :=
  let s1 := s.newCreditEpoch i
  let s2 := { s1 with funnel := { s1.funnel with sentLimit := smSet 0 s1.funnel.sentLimit i (2 ^ 31) } }
  let s3 := ((s2.setF LS_ENT_MISSES i 0).setF LS_ENT_EXPEL_SENT i x.expelSent).setF LS_ENT_JOB_VIEW i x.jobView
  (s3.setF LS_ENT_STATE i x.state).sendChange s i

/-- A takeover gives the entry the liveness of the image; one that was OFF there becomes ALIVE (R386). -/
def State.adoptEntry (s : State) (i : Nat) : State :=
  let x := s.imgLive i
  s.homeEntry i (if x.state == 0 then { x with state := 1, jobView := 1 } else x)

/-- The survivor takes over every valid standby entry. -/
def State.takeover (s : State) : State :=
  let es := (List.range 256).filter (fun i => s.homeValid i && s.standby i)
  let s1 := es.foldl (fun z i => (z.setArrBit .PR_TAKEN i true).adoptEntry i) s
  s1.pairAlarm s1.sysTenant 0x0E03 (leBytes 2 es.length)

/-- ALARM ORPHAN to a tenant that the image shows ACTIVE, PREEMPTED or TORN. -/
def State.orphan (s : State) (t : Nat) : State :=
  let x := s.imgTen t
  if x.state == 1 || x.state == 3 || x.state == 4 then
    s.pairAlarm t 0x0E04 (leBytes 2 s.peerId ++ leBytes 2 x.stream ++ leBytes 4 x.cur)
  else s

/-- The move to LOST: 1 HEARTBEAT, 2 LEAVE. -/
def State.losePartner (s : State) (cause : Nat) : State :=
  let s1 := (s.setPairState 4).stopMirror
  let s2 := s1.pairAlarm s1.sysTenant 0x0E01
    (leBytes 2 s1.peerId ++ leBytes 1 cause ++ leBytes 1 0 ++ leBytes 4 (s1.getF PR_STATUS_APPLIED 0))
  let s3 := (List.range 64).foldl (fun z t => z.orphan t) s2
  if s3.flag PR_CTL_AUTO 0 then s3.takeover else s3

/-! ### Joining and serving (R384, R390) -/

/-- The block becomes JOINING; its BEATs ask for a snapshot. -/
def State.join (s : State) : State :=
  ((s.setPairState 5).startMirror).pairSet (fun (p : PairUnit) =>
    { p with peerReady := false, admitAt := none, exch := [], tried := false, adopted := false, inSnap := false, asked := 1, complete := 0, started := [] })

/-- The messages of tenant `t` in a snapshot. -/
def State.snapTenant (s : State) (t : Nat) : List MirMsg :=
  [s.tenantMsg t false, .window t (s.getF WN_GEN_CUR t) (s.getF WN_GEN_NEXT t) (s.getReg .WN_CFG t), s.ledgerMsg t false,
   .govState t (s.getF GV_LEVEL_LEVEL t) (s.getF GV_SPARE_SPARE t)]

/-- The HOME message of entry `i` in a snapshot. -/
def State.snapHome (s : State) (i : Nat) : MirMsg := s.homeMsg i false

/-- The SC_STATE message of counter `n`. -/
def State.snapCounter (s : State) (n : Nat) : MirMsg :=
  .scState n (s.getF SC_COUNT_VALUE n) (s.getF SC_EXP_EXP n) (s.counterFlags n) (s.getF SC_AUX_LOST n)

/-- What a snapshot carries between its bounds. -/
def State.snapshot (s : State) : List MirMsg :=
  let time := match s.newest with
    | some e => [MirMsg.time (fullOf e.ofs) e.incr e.epoch s.quality (fullOf s.fabNow)]
    | none => []
  let homes := ((List.range 256).filter (fun i => !s.standby i)).map s.snapHome
  let soft := (List.range 256).map (fun k => MirMsg.soft (16 * k) (s.getReg .SOFT_PAGE (2 * k)) (s.getReg .SOFT_PAGE (2 * k + 1)))
  let counts := ((List.range 64).filter (fun t => s.flag PR_TEN_SC_MIRROR t)).flatMap (fun t => (s.counters t).map s.snapCounter)
  time ++ (List.range 64).flatMap s.snapTenant ++ homes ++ soft ++ counts

/-- The block becomes SERVING and sends a snapshot. -/
def State.serve (s : State) : State :=
  let s1 := ((s.setPairState 6).startMirror).pairSet (fun (p : PairUnit) =>
    { p with peerReady := false, admitAt := none, snapNum := p.snapNum + 1 })
  let ms := s1.snapshot
  ([MirMsg.snapBegin s1.pair.snapNum] ++ ms ++ [MirMsg.snapEnd s1.pair.snapNum (ms.length + 2)]).foldl (fun z m => z.sendMir m) s1

/-! ### Heartbeats (R383, R384) -/

/-- The PR_TAKEN words cleared: the entries taken over are the partner's again. -/
def State.clearTaken (s : State) : State := [0, 1, 2, 3].foldl (fun z i => z.setReg .PR_TAKEN i 0) s

/-- The pairing state under a valid BEAT. A pair that becomes whole from SEEKING has each block home for what it owns alone, so PR_TAKEN is
cleared (R374; log entry 57, DEDUCED). -/
def State.beatMoves (s : State) (peer : Nat) : State :=
  let st := s.pairState
  if st == 1 && peer == 1 then ((s.setPairState 2).clearTaken).startMirror
  else if st == 1 && (peer == 4 || ((peer == 2 || peer == 3) && s.pair.yielded)) then s.join
  else if (st == 3 || st == 4) && peer == 5 then s.serve
  else s

/-- A valid BEAT. -/
def State.takeBeat (s : State) (b : Beat) : State :=
  let s1 := (if b.mirror then s.setF PR_STATUS_MISS_MIR 0 0 else s).setF PR_STATUS_MISS_BOTH 0 0
  let s2 := (s1.setF PR_STATUS_PEER_STATE 0 b.state).pairSet (fun (p : PairUnit) =>
    { p with seenMirror := p.seenMirror || b.mirror, seenFabric := p.seenFabric || !b.mirror, peerReady := b.joinReady && b.state == 5 })
  let s3 := if s2.mirrors then s2.ackMirror b.ack else s2
  let s4 := if b.mirror then
      let p := s3.pair
      let ex := if b.echo == 0 then p.exch else p.exch.drop (p.exch.length - 63) ++ [exchangeOf b]
      (({ s3 with pair := { p with echo := b.tx, echoAt := b.receipt, exch := ex } }).showDelay).tryAdopt b.epoch
    else s3
  (s4.beatMoves b.state).showReady

/-- A BEAT is valid when it names this pair and comes from the partner; a mirror frame that does not is counted (R377). -/
def State.receiveBeat (s : State) (b : Beat) : State :=
  if b.pairId == s.getF PR_CTL_PAIR_ID 0 && b.blockId == s.peerId then s.takeBeat b
  else if b.mirror then s.incF PR_LINK_DISCARD 0 else s

def execBeatReceive (b : Beat) (s : State) : Res := s.event (s.pairState != 0 && (!b.mirror || s.mirrorUp)) (s.receiveBeat b)

/-- R389 no longer holds the windows back: those that it kept closed open. -/
def State.openHeld (s : State) : State := (List.range 64).foldl (fun z t => z.tryOpen t) s

/-- A JOINING block loses its partner: SEEKING, and what it has loaded stays. -/
def State.joinFailed (s : State) : State :=
  let s1 := ((s.setPairState 1).stopMirror).openHeld
  s1.pairAlarm s1.sysTenant 0x0E07 (leBytes 1 1 ++ leBytes 1 (s1.getF PR_STATUS_REASON 0))

/-- The mirror path has failed while both blocks live (R385). -/
def State.detach (s : State) : State :=
  let s1 := (s.setPairState 3).stopMirror
  s1.pairAlarm s1.sysTenant 0x0E02 (leBytes 2 s1.peerId)

/-- BEAT_PERIOD_END. -/
def State.endBeatPeriod (s : State) : State :=
  let p := s.pair
  let s1 := if p.seenMirror then s else s.setF PR_STATUS_MISS_MIR 0 (satTo 6 (s.getF PR_STATUS_MISS_MIR 0 + 1))
  let s2 := if p.seenMirror || p.seenFabric then s1
    else (s1.setF PR_STATUS_MISS_BOTH 0 (satTo 6 (s1.getF PR_STATUS_MISS_BOTH 0 + 1))).incF PR_LINK_MISSED 0
  let s3 := s2.pairSet (fun (q : PairUnit) => { q with seenMirror := false, seenFabric := false })
  let st := s3.pairState
  if 16 ≤ s3.getF PR_STATUS_MISS_BOTH 0 then
    if st == 2 || st == 3 || st == 6 then s3.losePartner 1 else if st == 5 then s3.joinFailed else s3
  else if st == 2 && 16 ≤ s3.getF PR_STATUS_MISS_MIR 0 then s3.detach
  else s3

def execBeatPeriodEnd (s : State) : Res := s.event (s.pairState != 0) s.endBeatPeriod

/-! ### Admission (R389, R392, R393) -/

/-- A tenant whose window was held back opens it with the partner's generation. -/
def State.admitWindow (s : State) (t : Nat) : State :=
  let x := s.imgTen t
  if s.flag PR_TEN_WIN_MIRROR t && s.getF WN_STAT_STATE t == 0 && s.getF TN_STATUS_STATE t == 1 && s.flag WN_CFG_EN t then
    s.openAs t (if x.cur == 0 then (if x.next == 0 then s.getF WN_GEN_NEXT t else x.next) else x.cur)
  else s

/-- The SERVING block hands the entries back. -/
def State.handBack (s : State) : State × Nat :=
  let n := ((List.range 256).filter (fun i => s.arrBit .PR_TAKEN i)).length
  (s.clearTaken, n)

/-- The JOINING block takes up what it owns, with the liveness of the image as it is (R393), and nothing else: PR_TAKEN is cleared, since the
pair is whole (R374; log entry 57, DEDUCED). -/
def State.takeUp (s : State) : State × Nat :=
  let es := (List.range 256).filter (fun i => s.homeValid i && !s.arrBit .PR_OWN i)
  let s1 := es.foldl (fun z i => z.homeEntry i (z.imgLive i)) s.clearTaken
  let s2 := (List.range 64).foldl (fun z t => z.admitWindow t) s1
  (s2.pairSet (fun (p : PairUnit) => { p with started := (List.range 64).filter (fun t => s2.lgState t == 1) }), es.length)

/-- The pair is whole again at `i`. -/
def State.admission (s : State) (i : Inst) : State :=
  let serving := s.pairState == 6
  let s0 := (s.setPairState 2).pairSet (fun (p : PairUnit) => { p with admitAt := none, peerReady := false, yielded := false })
  let (s1, n) := if serving then s0.handBack else s0.takeUp
  s1.pairAlarm s1.sysTenant 0x0E05
    (leBytes 2 n ++ leBytes 1 (s1.getF PR_STATUS_ADMIT_LATE 0) ++ leBytes 1 0 ++ leBytes 8 i.at_)

/-- Fabric time has reached the admission instant, in magnitude mode. -/
def State.admitDue (s : State) : Option Inst := match s.pair.admitAt with
  | some i => if (s.pairState == 5 || s.pairState == 6) && s.running && i.at_ ≤ s.now16 then some i else none
  | none => none

def execAdmissionInstant (s : State) : Res := match s.admitDue with
  | some i => s.event true (s.admission i)
  | none => .next s

/-- An ADMIT message: T is noted, or acted on at once when it has passed. -/
def State.takeAdmit (s : State) (i : Inst) : State :=
  if !s.joining then s
  else if s.running && decide (i.at_ < s.now16) then (s.setFlag PR_STATUS_ADMIT_LATE 0 true).admission i
  else s.pairSet (fun (p : PairUnit) => { p with admitAt := some i })

/-! ### Messages (R379 to R382, R390) -/

/-- A full stamp in 2^-16 ns. -/
def unitsOf (full : Nat) : Nat := targetUnits (full % 2 ^ 48) (full / 2 ^ 48)

/-- The values of a HOME message applied to the table (R375): a write, or an address that differs, starts a new credit epoch. -/
def State.applyMessage (s : State) (i : Nat) (addr cred : Word) (written : Bool) : State :=
  let s1 := if addr != s.getReg .HT_ADDR i then s.applyHome i addr else if written then s.newCreditEpoch i else s
  (s1.setF HT_CRED_DEPTH i (HT_CRED_DEPTH.of cred)).setF HT_CRED_RATE i (HT_CRED_RATE.of cred)

/-- A HOME message: in a snapshot its liveness is held alone, and otherwise its values are applied too (R379, R390). One that would create a
duplicate is discarded whole (R204). -/
def State.takeHome (s : State) (i : Nat) (addr cred : Word) (x : ImgLive) (written : Bool) : State :=
  if s.pair.inSnap then s.setImgLive i x
  else if addr != s.getReg .HT_ADDR i && s.duplicates i addr then s
  else (s.setImgLive i x).applyMessage i addr cred written

/-- The ledger of a tenant that waits for it starts at the partner's step boundary. -/
def State.startAtPass (s : State) (t pass : Nat) (base : Inst) : State :=
  let first := s.getF LG_LEN_LOOP_FIRST t
  let s1 := s.pairSet (fun (p : PairUnit) => { p with started := p.started.filter (· != t) })
  if s1.lgState t == 1 then
    let x := s1.ledger t
    (((s1.setLedger t { x with ents := [], pf := first, from_ := first }).setF LG_CURSOR_PASS t pass).setF LG_CURSOR_NEXT t first).startLedger t base
  else s1

/-- A LEDGER message: held, and one of a step boundary starts the ledger that waits for it (R393). -/
def State.takeLedger (s : State) (t st pass next pbase epoch : Nat) (boundary : Bool) (n : Nat) : State :=
  let x := s.imgTen t
  let s1 := s.setImgTen t { x with lgState := st, pass := pass, lgNext := next, pbase := pbase, epoch := epoch, mseq := n }
  if s1.pair.started.contains t && boundary then s1.startAtPass t pass ⟨unitsOf pbase, epoch⟩ else s1

/-- A GOV_STATE message: held, and loaded on a JOINING block within a snapshot. -/
def State.takeGov (s : State) (t level spare n : Nat) : State :=
  let s1 := s.setImgTen t { s.imgTen t with level := level, spare := spare, mseq := n }
  if s1.joining && s1.pair.inSnap && s1.flag PR_TEN_GOV_MIRROR t then (s1.setF GV_LEVEL_LEVEL t level).setF GV_SPARE_SPARE t spare else s1

/-- The tenant of counter `n` is ACTIVE. -/
def State.counterActive (s : State) (n : Nat) : Bool := match s.partOwner n with
  | some t => s.tnState t == 1
  | none => false

/-- The messages of tenant `t`'s partition sent afresh, in a further snapshot (R390). -/
def State.sendPartition (s : State) (t : Nat) : State :=
  let s1 := s.pairSet (fun (p : PairUnit) => { p with snapNum := p.snapNum + 1 })
  let ms := (s1.counters t).map s1.snapCounter
  ([MirMsg.snapBegin s1.pair.snapNum] ++ ms ++ [MirMsg.snapEnd s1.pair.snapNum (ms.length + 2)]).foldl (fun z m => z.sendMir m) s1

/-- A TENANT message: held, and one that requests the partition of a tenant with SC_MIRROR is answered with it (R390, R397). -/
def State.takeTenant (s : State) (t st : Nat) (tnCfg : Word) (stream : Nat) (request : Bool) (n : Nat) : State :=
  let s1 := s.setImgTen t { s.imgTen t with state := st, tnCfg := tnCfg, stream := stream, mseq := n }
  if request && s.flag PR_TEN_SC_MIRROR t && (s.pairState == 2 || s.pairState == 6) then s1.sendPartition t else s1

/-- What the message of MSEQ `n` does. -/
def State.actOn (s : State) (n : Nat) : MirMsg → State
  | .time offset incr epoch quality _ =>
    s.pairSet (fun (p : PairUnit) => { p with image := { p.image with time := { offset := offset, incr := incr, epoch := epoch, quality := quality, mseq := n } } })
  | .scAdd c a e => if c < 16384 then ((s.addSync c a).1).addF SC_EXP_EXP c e else s
  | .ledger t st pass next pbase epoch boundary => if t < 64 then s.takeLedger t st pass next pbase epoch boundary n else s
  | .window t cur next wnCfg => if t < 64 then s.setImgTen t { s.imgTen t with cur := cur, next := next, wnCfg := wnCfg, mseq := n } else s
  | .tenant t st tnCfg stream request => if t < 64 then s.takeTenant t st tnCfg stream request n else s
  | .home i addr cred live jobView expelSent written =>
    if i < 256 then s.takeHome i addr cred { state := live, jobView := jobView, expelSent := expelSent, mseq := n } written else s
  | .govCharge t tokens spares => if t < 64 then (s.decF GV_LEVEL_LEVEL t (tokens * 2 ^ 32)).decF GV_SPARE_SPARE t spares else s
  | .govState t level spare => if t < 64 then s.takeGov t level spare n else s
  | .soft offset lo hi =>
    if offset % 16 == 0 && decide (offset < 4096) then
      s.pairSet (fun (p : PairUnit) =>
        { p with image := { p.image with soft := smSet 0 (smSet 0 p.image.soft (offset / 8) lo) (offset / 8 + 1) hi } })
    else s
  | .snapBegin _ => s.pairSet (fun (p : PairUnit) => { p with inSnap := true })
  | .snapEnd _ _ => (s.pairSet (fun (p : PairUnit) => { p with inSnap := false, complete := p.complete + 1 })).showReady
  | .admission instant epoch => s.takeAdmit ⟨unitsOf instant, epoch⟩
  | .scState c value exp flags lost =>
    if decide (c < 16384) && (s.joining || decide (s.pair.complete < s.pair.asked)) && s.counterActive c then s.loadCounter c value exp flags lost
    else s
  | .leave => if s.pairState == 5 then s else s.losePartner 2

/-- The next message in order. -/
def State.takeMsg (s : State) (m : MirMsg) : State :=
  let n := s.pair.expect
  ((s.setF PR_STATUS_APPLIED 0 n).pairSet (fun (p : PairUnit) => { p with expect := (n + 1) % 2 ^ 32 })).actOn n m

/-- The messages of a frame, the first of MSEQ `n`: one that is not the next expected is discarded. A DETACHED block, which mirrors nothing, takes
LEAVE alone (R384). -/
def State.takeMsgs (s : State) (n : Nat) : List MirMsg → State
  | [] => s
  | m :: ms => (if s.mirrors && n % 2 ^ 32 == s.pair.expect then s.takeMsg m else if s.pairState == 3 && m == .leave then s.losePartner 2 else s).takeMsgs (n + 1) ms

/-- A frame on the mirror link (R376 to R378). -/
def State.receiveMirror (s : State) (fr : MirFrame) : State :=
  if fr.foreign || fr.pairId != s.getF PR_CTL_PAIR_ID 0 || fr.blockId != s.peerId then s.incF PR_LINK_DISCARD 0
  else (if s.mirrors then s.ackMirror fr.ack else s).takeMsgs fr.mseq fr.msgs

def execMirrorFrameReceive (fr : MirFrame) (s : State) : Res := s.event (s.pairState != 0 && s.mirrorUp) (s.receiveMirror fr)

/-- A message that comes in order. -/
def State.mirrorRow (s : State) (guard : Bool) (m : MirMsg) : Res := s.event (s.mirrors && guard) (s.takeMsg m)

def execMirrorTime (offset incr epoch quality effect : Nat) (s : State) : Res := s.mirrorRow true (.time offset incr epoch quality effect)
def execMirrorScAdd (counter amount expAmount : Nat) (s : State) : Res := s.mirrorRow (counter < 16384) (.scAdd counter amount expAmount)
def execMirrorLedger (t state pass next pbase epoch : Nat) (boundary : Bool) (s : State) : Res :=
  s.mirrorRow (t < 64) (.ledger t state pass next pbase epoch boundary)
def execMirrorWindow (t cur next : Nat) (wnCfg : Word) (s : State) : Res := s.mirrorRow (t < 64) (.window t cur next wnCfg)
def execMirrorTenant (t state : Nat) (tnCfg : Word) (stream : Nat) (request : Bool) (s : State) : Res :=
  s.mirrorRow (t < 64) (.tenant t state tnCfg stream request)
def execMirrorHome (entry : Nat) (addr cred : Word) (live jobView expelSent : Nat) (written : Bool) (s : State) : Res :=
  s.mirrorRow (entry < 256) (.home entry addr cred live jobView expelSent written)
def execMirrorGovCharge (t tokens spares : Nat) (s : State) : Res := s.mirrorRow (t < 64) (.govCharge t tokens spares)
def execMirrorGovState (t level spare : Nat) (s : State) : Res := s.mirrorRow (t < 64) (.govState t level spare)
def execMirrorSoft (offset : Nat) (lo hi : Word) (s : State) : Res :=
  s.mirrorRow (offset % 16 == 0 && decide (offset < 4096)) (.soft offset lo hi)
def execMirrorSnapBegin (number : Nat) (s : State) : Res := s.mirrorRow true (.snapBegin number)
def execMirrorSnapEnd (number count : Nat) (s : State) : Res := s.mirrorRow true (.snapEnd number count)
def execMirrorScState (counter value exp flags lost : Nat) (s : State) : Res :=
  s.mirrorRow (counter < 16384) (.scState counter value exp flags lost)
def execMirrorAdmit (instant epoch : Nat) (s : State) : Res := s.mirrorRow true (.admission instant epoch)
def execMirrorLeave (s : State) : Res :=
  if s.pairState == 3 then s.event true (s.losePartner 2) else s.mirrorRow true .leave

/-! ### Host writes (R384, R385, R386, R392, R398) -/

/-- The pairing unit and its registers when the block goes OFF; the failed lanes and PR_TAKEN stay, and no window is held back any more. -/
def State.pairOff (s : State) : State :=
  let s1 := ((s.setPairState 0).setF PR_LINK_LANES 0 0).setF PR_STATUS_PEER_STATE 0 0
  let s2 := (s1.setF PR_STATUS_MISS_BOTH 0 0).setF PR_STATUS_MISS_MIR 0 0
  let p : PairUnit := { failedLanes := s.pair.failedLanes, snapNum := s.pair.snapNum }
  ({ s2 with mtx := {}, pair := p }).openHeld

/-- The mirror lanes that work; in self-test all stay idle (R406). -/
def State.goodLanes (s : State) : Nat := if s.flag MYB_BIST_STAT_BUSY 0 then 0 else 3 - s.pair.failedLanes % 4

/-- PR_CTL written. EN written 1 in OFF while MYB_BLKID.LOCK is 0 is an event for which R384 has no row, and moves nothing (R19). -/
def State.writePrCtl (s : State) (w mask : Word) : State :=
  let off := s.pairState == 0
  let v := storeFields false w mask Reg.PR_CTL.fields (s.getReg .PR_CTL 0)
  let en := PR_CTL_EN.on v
  let s1 := if off then s.setReg .PR_CTL 0 v else s.setFlag PR_CTL_EN 0 en
  if off && PR_CTL_EN.cmd w mask then
    if s1.locked then (s1.setPairState 1).setF PR_LINK_LANES 0 s1.goodLanes else s1
  else if !off && !en then s1.sendLeave.pairOff
  else s1

def execPairEnable (data : Word) (s : State) : Res := s.hostDoes (PR_CTL_EN.on data) (s.writePrCtl data allBits)
def execPairDisable (data : Word) (s : State) : Res := s.hostDoes (!PR_CTL_EN.on data) (s.writePrCtl data allBits)

/-- PR_CMD.LEAVE: LEAVE goes to the partner, from a SEEKING or DETACHED block too, which mirrors nothing; in LOST the block goes OFF. -/
def State.cmdLeave (s : State) : State :=
  if s.mirrors then s.sendMir .leave
  else if s.pairState == 1 || s.pairState == 3 then s.sendLeave
  else if s.pairState == 4 then s.pairOff
  else s.pairRefuse 1

/-- YIELD. -/
def State.cmdYield (s : State) : State :=
  if s.pairState == 3 then s.join.pairSet (fun (p : PairUnit) => { p with yielded := true }) else s.pairRefuse 1

/-- TAKE. -/
def State.cmdTake (s : State) : State :=
  if s.pairState == 4 && !s.flag PR_CTL_AUTO 0 then s.takeover else s.pairRefuse 1

/-- ADMIT. -/
def State.cmdAdmit (s : State) : State :=
  if s.pairState == 6 && s.pair.peerReady && s.pair.admitAt.isNone then s.admitFrom s.nowInst else s.pairRefuse 1

/-- PR_CMD written: YIELD, TAKE, ADMIT, LEAVE. -/
def State.writePrCmd (s : State) (w mask : Word) : State :=
  let s1 := if PR_CMD_YIELD.cmd w mask then s.cmdYield else s
  let s2 := if PR_CMD_TAKE.cmd w mask then s1.cmdTake else s1
  let s3 := if PR_CMD_ADMIT.cmd w mask then s2.cmdAdmit else s2
  if PR_CMD_LEAVE.cmd w mask then s3.cmdLeave else s3

def execPrLeave (data : Word) (s : State) : Res := s.hostDoes (PR_CMD_LEAVE.on data) (s.writePrCmd data allBits)
def execPrYield (data : Word) (s : State) : Res := s.hostDoes (PR_CMD_YIELD.on data) (s.writePrCmd data allBits)
def execPrTake (data : Word) (s : State) : Res := s.hostDoes (PR_CMD_TAKE.on data) (s.writePrCmd data allBits)
def execPrAdmit (data : Word) (s : State) : Res := s.hostDoes (PR_CMD_ADMIT.on data) (s.writePrCmd data allBits)

/-- PR_OWN written: in OFF alone. -/
def State.writePrOwn (s : State) (i : Nat) (w mask : Word) : State := if s.pairState == 0 then s.store .PR_OWN i w mask false else s

/-- PR_TEN written: in OFF, SEEKING and DETACHED. -/
def State.writePrTen (s : State) (t : Nat) (w mask : Word) : State :=
  if s.pairState == 0 || s.pairState == 1 || s.pairState == 3 then s.store .PR_TEN t w mask false else s

/-- A word of the software page written: the 16 bytes that hold it go to the partner (R379). -/
def State.writeSoft (s : State) (i : Nat) (w mask : Word) : State :=
  let s1 := s.store .SOFT_PAGE i w mask false
  let k := i / 2
  s1.sendMir (.soft (16 * k) (s1.getReg .SOFT_PAGE (2 * k)) (s1.getReg .SOFT_PAGE (2 * k + 1)))

/-- A mirror lane fails for good (R32, R376). -/
def State.dropMirrorLane (s : State) (lane : Nat) : State :=
  let bit := 2 ^ lane
  if s.pair.failedLanes / bit % 2 == 1 then s
  else
    let s1 := (s.pairSet (fun (p : PairUnit) => { p with failedLanes := p.failedLanes + bit })).lowerCaps .mirrorLane lane
    if s1.pairState == 0 then s1 else s1.setF PR_LINK_LANES 0 s1.goodLanes

/-- A mirror lane fails in use: ALARM MIRROR_LANE. -/
def State.failMirrorLane (s : State) (lane : Nat) : State :=
  let s1 := s.dropMirrorLane lane
  s1.pairAlarm s1.sysTenant 0x0E06 (leBytes 1 (s1.getF PR_LINK_LANES 0) ++ leBytes 1 s1.pair.failedLanes)

def execMirrorLaneFailure (lane : Nat) (s : State) : Res :=
  s.event (s.pairState != 0 && decide (lane < 2) && s.pair.failedLanes / 2 ^ lane % 2 == 0) (s.failMirrorLane lane)

end Sys2Proof.Machine
end

