-- ==== Sys2Proof/Machine/Chrysalis.lean ====
section
/-! DEFINITION. The chrysalis (R109): its layout, the capture of step 4 of R106, and what a restore takes out of it. -/

namespace Sys2Proof.Machine

/-! ### Layout -/

/-- The contexts granted to tenant `t`, in ascending number. -/
def State.ctxsOf (s : State) (t : Nat) : List Nat :=
  (List.range 256).filter (fun c => bitOf (s.getReg .TN_CTX_MASK (4 * t + c / 64)) (c % 64))

/-- The scratch range of a context: its core, base and length in units of 4 KiB. -/
def State.segKey (s : State) (c : Nat) : Nat × Nat × Nat := (coreOf c, s.getF CX_CFG_SCR_BASE c, s.getF CX_CFG_SCR_LEN c)

/-- The distinct scratch ranges of contexts, in the order of their first context. -/
def State.chrySegs (s : State) (cs : List Nat) : List (Nat × Nat × Nat) :=
  cs.foldl (fun acc c => if acc.contains (s.segKey c) then acc else acc ++ [s.segKey c]) []

/-- The units before a range in the stored segments. -/
def segUnits (k : Nat × Nat × Nat) : List (Nat × Nat × Nat) → Nat
  | [] => 0
  | x :: xs => if x == k then 0 else x.2.2 + segUnits k xs

/-- SCR_OFS for `n` contexts. -/
def scrOfs (n : Nat) : Nat := 0x1000 + cdiv (512 * n) 4096 * 4096

/-- The image size of tenant `t`, as TN_STATUS.NEED shows it (R109). -/
def State.imageNeed (s : State) (t : Nat) : Nat :=
  let cs := s.ctxsOf t
  scrOfs cs.length + 4096 * ((s.chrySegs cs).map (·.2.2)).sum + 16 * s.getF SC_PART_LEN t + 64

/-! ### Capture -/

/-- A context whose core is mapped out (R112). -/
def State.coreLost (s : State) (c : Nat) : Bool := s.flag CX_STATUS_CORE_FAIL c || s.flag CORE_STAT_MAPPED_OUT (coreOf c)

/-- The pre-emption of tenant `t`. -/
def State.save (s : State) (t : Nat) : Save := smGet {} s.saves t

/-- That replaced. -/
def State.setSave (s : State) (t : Nat) (x : Save) : State := { s with saves := smSet {} s.saves t x }

/-- The 32 bytes of a timer (R109, R153). -/
def timerBytes (y : Timer) : List Byte :=
  if y.state == 0 then leBytes 32 0
  else leBytes 1 1 ++ leBytes 1 (if y.signed then 1 else 2) ++ leBytes 2 y.epoch ++
    leBytes 12 (if y.signed then 0 else fullTarget y.lo y.hi) ++ leBytes 8 (if y.signed then y.lo else 0) ++ leBytes 8 0

/-- Bytes 288 to 319 of a context record: the wait. -/
def waitBytes : Wait → List Byte
  | .none => leBytes 32 0
  | .scwait n target _ _ => leBytes 1 1 ++ leBytes 1 0 ++ leBytes 2 n ++ leBytes 4 0 ++ leBytes 8 target ++ leBytes 16 0
  | .twait mask _ _ => leBytes 1 2 ++ leBytes 1 0 ++ leBytes 2 mask ++ leBytes 4 0 ++ leBytes 8 0 ++ leBytes 16 0

/-- The record of context `c`; `units` is its scratch segment. Predicates and registers of a LOST context are zero. -/
def State.ctxRecord (s : State) (c units : Nat) : List Byte :=
  let lost := s.coreLost c
  let x : Ctx := if lost then { p := 0 } else s.ctx c
  (List.range 32).flatMap (fun i => leBytes 8 (if i == 0 then 0 else (smGet 0 x.g i).toNat)) ++ leBytes 8 x.pc.toNat ++
    leBytes 1 x.p.toNat ++ leBytes 1 (if lost then 8 else s.getF CX_STATUS_PRIOR c) ++ leBytes 2 (s.getF CX_TRAP_CAUSE c) ++
    leBytes 4 (s.imageOf c) ++ leBytes 8 (s.getReg .CX_CFG c).toNat ++ leBytes 1 c ++ leBytes 3 0 ++ leBytes 4 units ++
    waitBytes x.wait ++ (List.range 4).flatMap (fun i => timerBytes (x.timer i)) ++ leBytes 64 0

/-- The sequencer section (R226). -/
def State.seqSection (s : State) (t : Nat) : List Byte :=
  let x := s.seqr t
  let dis := [0, 1, 2, 3].foldl (fun n k => n + 2 ^ k * (smGet false x.disarmed k).toNat) 0
  padTo 1024 (leBytes 1 (if s.runState t == 0 then 0 else 1) ++ leBytes 1 (s.getF TS_STAT_STATE t) ++
    leBytes 1 (s.getF TS_STAT_EPOCH t + 16 * dis) ++ leBytes 1 0 ++ leBytes 2 x.epoch ++ leBytes 2 (s.getF TS_MARK_NEXT t) ++
    fullBytes x.entry ++ leBytes 12 0 ++
    [0, 1, 2, 3].flatMap (fun k => leBytes 8 (smGet 0 x.base k) ++ leBytes 8 (smGet 0 x.count k)))

/-- The ledger cursor (R277) and the window state (R325). -/
def State.cursorSection (s : State) (t : Nat) : List Byte :=
  let lg := leBytes 1 (s.lgState t) ++ leBytes 1 (s.lgState t == 3 && (s.ledger t).heldAtPass).toNat ++ leBytes 2 0 ++
    leBytes 4 (s.getF LG_CURSOR_NEXT t) ++ leBytes 4 (s.getF LG_CURSOR_PASS t) ++ leBytes 4 (s.getF LG_STATUS_OPEN t) ++
    leBytes 12 (fullTarget (s.getReg .LG_PBASE_LO t).toNat (s.getReg .LG_PBASE_HI t).toNat) ++ leBytes 2 (s.getF LG_PBASE_HI_EPOCH t)
  let wn := leBytes 1 (s.getF WN_CFG_EN t + 2 * s.getF WN_CFG_SEAL_IRQ t) ++ leBytes 1 (s.getF WN_CFG_ALIGN t + 4 * s.getF WN_CFG_GRP t) ++
    leBytes 1 (s.getF WN_CFG_K t) ++ leBytes 1 (s.getF WN_CFG_MAXK t) ++ leBytes 4 (s.window t).lastInt ++ leBytes 4 (s.getF WN_GEN_NEXT t)
  padTo 128 lg ++ padTo 128 wn

/-- The position of stream WEIGHTSm (R311). -/
def State.streamPos (s : State) (t m : Nat) : List Byte :=
  let k := 3 + m
  let d := s.streamDesc t m
  let st := s.dsState t k
  if st != 2 && st != 3 then leBytes 64 0
  else
    leBytes 1 k ++ leBytes 1 (if st == 2 then 2 else 1) ++ leBytes 1 (if st == 2 then s.getF DS_FAULT_CAUSE (ds t k) else 0) ++
      leBytes 5 0 ++ leBytes 8 d.src ++ leBytes 8 d.dst ++ leBytes 8 d.len ++ leBytes 8 (s.getF DS_STAT_POS (ds t k)) ++
      leBytes 8 (if st == 2 then s.getF DS_FAULT_ADDR (ds t k) else 0) ++ leBytes 16 0

/-- The entry of a launch (R362). -/
def launchBytes (x : Launch) : List Byte :=
  leBytes 1 (if x.begun then 2 else 1) ++ leBytes 1 x.ctx ++ leBytes 2 x.tile ++ leBytes 4 x.ticket ++ padTo 48 (x.desc.take 48) ++
    leBytes 4 x.at_ ++ leBytes 4 0

/-- The parked post of mailbox `m`, or zeros. -/
def State.postBytes (s : State) (m : Nat) : List Byte := match (s.mailbox m).parked with
  | some p => padTo 48 p.data ++ leBytes 1 p.len ++ leBytes 1 m ++ leBytes 2 0 ++ leBytes 4 p.gen ++ leBytes 8 0
  | none => leBytes 64 0

/-- The sync section (R248). -/
def State.syncSection (s : State) (t : Nat) : List Byte :=
  (s.counters t).flatMap (fun n => leBytes 6 (s.getF SC_COUNT_VALUE n) ++ leBytes 1 (s.counterFlags n) ++ leBytes 1 0 ++
    leBytes 6 (s.getF SC_EXP_EXP n) ++ leBytes 2 (s.getF SC_AUX_LOST n))

/-- The bytes of a stored segment; zeros when its core cannot be read. -/
def State.segBytes (s : State) (lost : Bool) (k : Nat × Nat × Nat) : List Byte :=
  if lost then leBytes (4096 * k.2.2) 0 else memBytes (s.core k.1).scratch (4096 * k.2.1) (4096 * k.2.2)

/-- The chrysalis of tenant `t` as it stands, trailer and all, for the contexts that were granted at PREEMPT (R109). -/
def State.capture (s : State) (t : Nat) : List Byte :=
  let cs := (s.save t).ctxs
  let segs := s.chrySegs cs
  let lostCore := fun (k : Nat) => cs.any (fun c => coreOf c == k && s.coreLost c)
  let scr := scrOfs cs.length
  let len := 4096 * (segs.map (·.2.2)).sum
  let p := s.getF SC_PART_LEN t
  let fault := [3, 4, 5, 6].any (fun k => s.dsState t k == 2)
  let header := leBytes 4 0x43485259 ++ leBytes 2 1 ++ leBytes 2 ((cs.any s.coreLost).toNat + 2 * fault.toNat) ++ leBytes 2 s.blockId ++
    leBytes 1 t ++ leBytes 1 0 ++ leBytes 2 cs.length ++ leBytes 2 s.epoch ++ leBytes 8 s.rawNow ++ fullBytes s.fabNow ++
    leBytes 4 (s.window t).lastInt ++ leBytes 4 p ++ leBytes 4 0 ++ leBytes 4 0x1000 ++ leBytes 4 scr ++ leBytes 4 len ++
    leBytes 4 (scr + len) ++ leBytes 4 (scr + len + 16 * p)
  let launches := (s.launches t).take 16
  let streams := [0, 1, 2, 3].flatMap (fun m => s.streamPos t m) ++ leBytes 768 0 ++ padTo 1024 (launches.flatMap launchBytes)
  let posts := [0, 1, 2, 3].flatMap (fun i => s.postBytes (4 * t + i))
  let ctxs := cs.flatMap (fun c => s.ctxRecord c (segUnits (s.segKey c) segs))
  let body := padTo 256 header ++ s.seqSection t ++ s.cursorSection t ++ streams ++ posts ++ leBytes 256 0 ++ padTo (scr - 0x1000) ctxs ++
    segs.flatMap (fun k => s.segBytes (lostCore k.1) k) ++ s.syncSection t
  body ++ leBytes 4 (crc32c body) ++ leBytes 4 (body.length + 64) ++ leBytes 4 0x43485259 ++ leBytes 52 0

/-! ### Reading an image -/

/-- Fields of the header. -/
def imgN (img : List Byte) : Nat := fieldAt img 12 2
def imgCtxOfs (img : List Byte) : Nat := fieldAt img 48 4
def imgScrOfs (img : List Byte) : Nat := fieldAt img 52 4
def imgSyncOfs (img : List Byte) : Nat := fieldAt img 60 4
def imgTrlOfs (img : List Byte) : Nat := fieldAt img 64 4

/-- A field of the record of saved context `k`. -/
def ctxField (img : List Byte) (k at_ n : Nat) : Nat := fieldAt img (imgCtxOfs img + 512 * k + at_) n

/-- The CHECK row of R114: MAGIC, VERSION, the trailer and its CRC. -/
def imgSound (img : List Byte) : Bool :=
  let trl := imgTrlOfs img
  fieldAt img 0 4 == 0x43485259 && fieldAt img 4 2 == 1 && decide (trl + 64 ≤ img.length) &&
    fieldAt img trl 4 == crc32c (img.take trl) && fieldAt img (trl + 4) 4 == trl + 64 && fieldAt img (trl + 8) 4 == 0x43485259

/-- The saved context was LOST. -/
def imgLost (img : List Byte) (k : Nat) : Bool := ctxField img k 265 1 == 8

/-- The saved segment of a context: its offset and length in units. -/
def imgSeg (img : List Byte) (k : Nat) : Nat × Nat := (ctxField img k 284 4, ctxField img k 272 8 / 2 ^ 35 % 128)

/-- The LAYOUT row of R114. Contexts that shared a segment map onto contexts of which the scratch ranges and the instruction ranges are identical
(DESIGN CHOICE, log entry 63). -/
def State.imgLayout (s : State) (img : List Byte) (targets : List Nat) : Bool :=
  let xs := (List.range targets.length).zip targets
  xs.all (fun x => decide ((imgSeg img x.1).2 ≤ (s.scrRange x.2).2) && s.layoutOk x.2 &&
    xs.all (fun y => (imgSeg img x.1).1 != (imgSeg img y.1).1 ||
      (coreOf x.2 == coreOf y.2 && s.scrRange x.2 == s.scrRange y.2 && s.imemRange x.2 == s.imemRange y.2)))

/-- A saved context as a context; its timers are armed at the resumption. `word` is the instruction before its PC in the target's
instruction range: where the context waits, that instruction names rd and PD, which the record does not hold. -/
def imgCtx (img : List Byte) (k word : Nat) : Ctx :=
  let g : SMap Word := (List.range 32).foldl (fun m i => if i == 0 then m else smSet 0 m i (BitVec.ofNat 64 (ctxField img k (8 * i) 8))) []
  let rd := wordRd word
  let pd := wordPd word
  let n := ctxField img k 290 2
  let w : Wait := if ctxField img k 288 1 == 1 then .scwait n (ctxField img k 296 8) rd pd
    else if ctxField img k 288 1 == 2 then .twait n rd pd else .none
  { pc := BitVec.ofNat 64 (ctxField img k 256 8), g := g, p := BitVec.ofNat 8 (ctxField img k 264 1), wait := w }

/-- The saved timer `i` of a context, if it was armed: its mode, target words and epoch. -/
def imgTimer (img : List Byte) (k i : Nat) : Option Timer :=
  let at_ := 320 + 32 * i
  if ctxField img k at_ 1 == 1 then
    let full := ctxField img k (at_ + 4) 12
    let signed := ctxField img k (at_ + 1) 1 == 1
    some { state := 1, signed := signed, lo := if signed then ctxField img k (at_ + 16) 8 else full % 2 ^ 48, hi := full / 2 ^ 48,
           epoch := ctxField img k (at_ + 2) 2 }
  else none

/-- The saved launches, for the contexts onto which their saved contexts map; `maps` gives saved number and target. -/
def imgLaunches (img : List Byte) (maps : List (Nat × Nat)) : List Launch :=
  (List.range 16).filterMap (fun i =>
    let at_ := 0x0A00 + 64 * i
    let st := fieldAt img at_ 1
    if st == 1 || st == 2 then
      (maps.find? (fun p => p.1 == fieldAt img (at_ + 1) 1)).map (fun p =>
        { ticket := fieldAt img (at_ + 4) 4, ctx := p.2, at_ := fieldAt img (at_ + 56) 4, desc := padTo 56 ((img.drop (at_ + 8)).take 48)
          begun := st == 2, tile := fieldAt img (at_ + 2) 2 })
    else none)

end Sys2Proof.Machine
end

