-- ==== Sys2Proof/Machine/Tenants.lean ====
section
/-! DEFINITION. Tenant commands: activation, pre-emption, restore and reset (R99, R106 to R116), and the DMA streams' faults and commands
(R309, R310). -/

namespace Sys2Proof.Machine

/-! ### States (R99) -/

/-- A tenant enters a state, and the partner hears of it (R379). -/
def State.setTn (s : State) (t st : Nat) : State := (s.setF TN_STATUS_STATE t st).sendTenant t

/-- A tenant command ends, with a REASON or 0: 1 STATE, 2 BUSY, 3 REGION, 4 TORN, 5 CHECK, 6 CONTEXTS, 7 IMAGE, 8 FAULT, 9 LAYOUT. -/
def State.tnDone (s : State) (t reason : Nat) : State :=
  (if reason = 0 then s else s.setF TN_STATUS_REASON t reason).setFlag TN_STATUS_DONE t true

/-- A partition activated on a JOINING or PAIRED block is asked for again, with a TENANT message that requests it, and the block waits for one
snapshot more (R390; log entry 99, DESIGN CHOICE: the manual names no message of the request). -/
def State.askAgain (s : State) (t : Nat) : State :=
  if s.flag PR_TEN_SC_MIRROR t && (s.pairState == 2 || s.pairState == 5) then
    (s.pairSet (fun (p : PairUnit) => { p with asked := p.asked + 1 })).sendMir (s.tenantMsg t true)
  else s

/-- ACTIVATE (R99, R233, R318). -/
def State.activate (s : State) (t : Nat) : State :=
  if s.tnState t != 0 then s.tnDone t 1
  else ((((s.setTn t 1).clearPart t).askAgain t).tryOpen t).tnDone t 0

/-! ### Pre-emption (R106, R107, R111, R112) -/

/-- The base of the chrysalis region. -/
def State.chryBase (s : State) (t : Nat) : Nat := s.getF TN_CHRY_BASE t * 65536

/-- The length of the chrysalis region in bytes. -/
def State.chryLen (s : State) (t : Nat) : Nat := s.getF TN_CHRY_LEN t * 65536

/-- Every page of the region is mapped and pinned (R106, R307). -/
def State.regionPinned (s : State) (t : Nat) : Bool :=
  (List.range (s.getF TN_CHRY_LEN t)).all (fun i =>
    match s.translate t ((s.chryBase t + 65536 * i) % 2 ^ 48) 65536 false true with
    | .ok _ => true
    | .error _ => false)

/-- A context enters STOPPED at an instruction boundary (R103, R168, R169); a store's error that is not yet reported comes first
(R138). -/
def State.stopCtx (s : State) (c : Nat) : State :=
  let st := s.cxState c
  if st == 0 || st == 7 then s
  else
    let s0 := if s.hasRun c then s.reportStore c else s
    let s1 := s0.leaveYield c
    let x := s1.ctx c
    let s2 := (s1.setCtx c { x with pc := x.boundary, latch := none }).endFlow c
    (s2.setF CX_STATUS_PRIOR c (s1.cxState c)).setF CX_STATUS_STATE c 7

/-- The first check of R106 that PREEMPT fails, or 0. -/
def State.preemptFails (s : State) (t : Nat) : Nat :=
  if s.tnState t != 1 then 1
  else if (match s.load with | some d => d.tenant == t | none => false) then 2
  else if decide (s.chryLen t < s.imageNeed t) || !s.regionPinned t then 3
  else 0

/-- PREEMPT: step 1, and the beginning of step 2. -/
def State.preempt (s : State) (t : Nat) : State :=
  let reason := s.preemptFails t
  if reason != 0 then s.tnDone t reason
  else
    let s1 := (s.setTn t 2).setSave t { ctxs := s.ctxsOf t }
    let s2 := (s1.ctxsOf t).foldl (fun z c => z.stopCtx c) s1
    (if s2.runState t == 1 then s2.setF TS_STAT_RUNSTATE t 2 else s2).stopLaunches t

/-- Every launch of the tenant is at rest, or waits for a model or a stream (R107, R362). -/
def State.launchesQuiet (s : State) (t : Nat) : Bool :=
  (s.launches t).all (fun x => x.unit.isNone || s.launchWaits t (parseDesc x.desc))

/-- A launch that waits goes back to its queue. -/
def State.requeue (s : State) (t : Nat) : State :=
  ((s.launches t).filter (fun x => x.unit.isSome)).foldl
    (fun z x => (z.setLaunch t x { x with unit := none }).freeUnit x.unit false) s

/-- The end of step 2, and steps 3 and 4: the weight streams are quiesced, the window crystallises as INTERRUPTED, the image is captured, and
step 5 starts. -/
def State.quiesced (s : State) (t : Nat) : State :=
  let s1 := s.requeue t
  let s2 := [3, 4, 5, 6].foldl (fun (z : State) k => if z.dsState t k == 1 then z.setF DS_STAT_STATE (ds t k) 3 else z) s1
  let g := s2.openGen t
  let s3 := if s2.getF WN_STAT_STATE t == 1 then s2.crystallise t 3 2 else s2
  let s4 := s3.setWindow t { s3.window t with lastInt := if s2.getF WN_STAT_STATE t == 1 then g else 0 }
  (s4.setSave t { s4.save t with image := s4.capture t }).startStream t 7

/-- The write of the image has faulted: TORN (R111). -/
def State.tear (s : State) (t cause va : Nat) : State :=
  ((s.stallStream t 7 cause va (va - s.chryBase t)).setTn t 4).tnDone t 8

/-- `n` bytes of the captured image, in units of 64, at the chrysalis region. -/
def State.writeChry (s : State) (t n : Nat) : State × Option (Nat × Nat) :=
  let bs := (s.save t).image.take n
  s.streamWrite t (s.chryBase t) true (cdiv bs.length 64) bs

/-- Step 5 ends: the trailer is written, or a unit has faulted. -/
def State.endSave (s : State) (t : Nat) : State :=
  let img := (s.save t).image
  match s.writeChry t img.length with
  | (s1, some (cause, va)) => s1.tear t cause va
  | (s1, none) =>
    let s2 := (s1.setF DS_STAT_POS (ds t 7) img.length).endStream t 7 1
    let s3 := (s.save t).ctxs.foldl (fun z c => z.turnOff t c) s2
    let s4 := s3.setFlag TN_STATUS_CORE_LOST t (fieldAt img 6 2 % 2 == 1)
    ((s4.setSave t {}).setTn t 3).tnDone t 0

/-- A fault at `va` inside the region: what lies before it has been written. -/
def State.faultSave (s : State) (t cause va : Nat) : State :=
  match s.writeChry t ((va - s.chryBase t) / 64 * 64) with
  | (s1, some (e, a)) => s1.tear t e a
  | (s1, none) => s1.tear t cause va

/-- RETRY_SAVE (R111). -/
def State.retry (s : State) (t : Nat) : State :=
  if s.tnState t != 4 then s.tnDone t 1 else (s.setTn t 2).startStream t 7

/-- The image of tenant `t` is being written. -/
def State.saving (s : State) (t : Nat) : Bool := s.tnState t == 2 && s.dsState t 7 == 1

/-- Each weight stream of tenant `t` stands at a boundary of its descriptor, before its first byte or after its last, or does not run (R106,
R311). The descriptor of a LOADING model is its whole copy, so that one under way is waited for (DEDUCED, log entry 62). -/
def State.weightsQuiet (s : State) (t : Nat) : Bool :=
  [0, 1, 2, 3].all (fun m => s.dsState t (3 + m) != 1 || s.weightPos t m == 0 || decide ((s.streamDesc t m).len ≤ s.weightPos t m))

def execPreemptQuiesced (t : Nat) (s : State) : Res :=
  s.event (decide (t < 64) && s.tnState t == 2 && s.dsState t 7 != 1 && s.launchesQuiet t && s.weightsQuiet t) (s.quiesced t)
def execChrysalisTrailerWritten (t : Nat) (s : State) : Res := s.event (decide (t < 64) && s.saving t) (s.endSave t)
def execChrysalisFault (t cause va : Nat) (s : State) : Res :=
  s.event (decide (t < 64) && s.saving t && decide (1 ≤ cause) && decide (cause ≤ 8) && decide (s.chryBase t ≤ va) &&
    decide (va < s.chryBase t + (s.save t).image.length)) (s.faultSave t cause va)

/-! ### Restore (R113 to R115) -/

/-- The restore of tenant `t` replaced. -/
def State.setRestore (s : State) (t : Nat) (r : Option Restore) : State := { s with restores := smSet none s.restores t r }

/-- The image in the chrysalis region, or the reason why there is none: 8 FAULT, with its cause and address, or 5 CHECK. -/
def State.readImage (s : State) (t : Nat) : Except (Nat × Option (Nat × Nat)) (List Byte) :=
  match s.streamRead t (s.chryBase t) true 2 with
  | .error e => .error (8, some e)
  | .ok head =>
    let n := imgTrlOfs head + 64
    if s.chryLen t < n then .error (5, none)
    else match s.streamRead t (s.chryBase t) true (cdiv n 64) with
      | .error e => .error (8, some e)
      | .ok bs => if imgSound (bs.take n) then .ok (bs.take n) else .error (5, none)

/-- The restore starts, or a check of R114 refuses it. -/
def State.restore (s : State) (t : Nat) (hold : Bool) : State :=
  let st := s.tnState t
  if st == 4 then s.tnDone t 4
  else if st != 0 && st != 3 then s.tnDone t 1
  else match s.readImage t with
    | .error (reason, none) => s.tnDone t reason
    | .error (reason, some (cause, va)) => (s.stallStream t 7 cause va (va - s.chryBase t)).tnDone t reason
    | .ok img =>
      let free := (s.ctxsOf t).filter (fun c => s.cxState c == 1 && s.flag CX_STATUS_IMAGE_VALID c)
      let targets := free.take (imgN img)
      if free.length < imgN img then s.tnDone t 6
      else if !((List.range targets.length).zip targets).all (fun x => ctxField img x.1 268 4 == s.imageOf x.2) then s.tnDone t 7
      else if !s.imgLayout img targets then s.tnDone t 9
      else
        let same := fieldAt img 8 2 == s.blockId && fieldAt img 10 1 == t && st == 3
        ((s.setRestore t (some { image := img, hold := hold, prev := st, migrate := !same, targets := targets })).setTn t 5).startStream t 7

/-- The instruction before the saved PC in the instruction range of target `c`. -/
def State.wordBefore (s : State) (c pc : Nat) : Nat :=
  leNat (memBytes (s.core (coreOf c)).imem (s.getF CX_CFG_IMEM_BASE c * 4096 + (pc - 4)) 4)

/-- Saved context `k` loaded into target `c` (R112, R115): a LOST one stays as the loader left it. -/
def State.loadSaved (s : State) (img : List Byte) (k c : Nat) : State :=
  if imgLost img k then s
  else
    let (seg, len) := imgSeg img k
    let s1 := s.scrWrite c 0 (padTo (s.scrLen c) ((img.drop (imgScrOfs img + 4096 * seg)).take (4096 * len)))
    let s2 := s1.setCtx c (imgCtx img k (s1.wordBefore c (ctxField img k 256 8)))
    ((s2.setF CX_TRAP_CAUSE c (ctxField img k 266 2)).setF CX_TRAP_INFO c 0).setFlag CX_STATUS_DEP c false

/-- The counters of a migrating tenant (R249). MIG_TRUNC tells of this migration, the last (R251). -/
def State.loadSync (s : State) (t : Nat) (img : List Byte) : State :=
  let p := fieldAt img 40 4
  let len := s.getF SC_PART_LEN t
  let base := s.getF SC_PART_BASE t
  let s1 := (List.range len).foldl
    (fun (z : State) i =>
      let at_ := imgSyncOfs img + 16 * i
      if i < p then z.loadCounter (base + i) (fieldAt img at_ 6) (fieldAt img (at_ + 8) 6) (fieldAt img (at_ + 6) 1) (fieldAt img (at_ + 14) 2)
      else z.clearCounter (base + i)) s
  s1.setFlag SC_TSTAT_MIG_TRUNC t (len != p)

/-- The ledger cursor of a migrating tenant (R278). MIG_PARTIAL says whether this migration, the last, carried every phase. -/
def State.loadCursor (s : State) (t : Nat) (img : List Byte) : State :=
  let at_ := 0x500
  let saved := fieldAt img at_ 1
  let ran := saved == 2 || saved == 3
  let ready := s.lgState t == 1
  let s1 := if ran && ready then
      let s2 := ((s.setF LG_CURSOR_NEXT t (fieldAt img (at_ + 4) 4 % 2 ^ 21)).setF LG_CURSOR_PASS t (fieldAt img (at_ + 8) 4)).setPassBase t
        ⟨unitsOf (fieldAt img (at_ + 16) 12), fieldAt img (at_ + 28) 2⟩
      let s3 := s2.moveCursor t false
      (s3.setLedger t { s3.ledger t with heldAtPass := fieldAt img (at_ + 1) 1 % 2 == 1 }).setLgState t 3
    else s
  s1.setFlag LG_STATUS_MIG_PARTIAL t (!ready || fieldAt img (at_ + 12) 4 != 0)

/-- WN_CFG and NEXT of a migrating tenant (R325). -/
def State.loadWindow (s : State) (t : Nat) (img : List Byte) : State :=
  let a := fieldAt img 0x580 1
  let b := fieldAt img 0x581 1
  let s1 := ((s.setF WN_CFG_EN t (a % 2)).setF WN_CFG_SEAL_IRQ t (a / 2)).setF WN_CFG_ALIGN t b
  let s2 := ((s1.setF WN_CFG_GRP t (b / 4)).setF WN_CFG_K t (fieldAt img 0x582 1)).setF WN_CFG_MAXK t (fieldAt img 0x583 1)
  s2.setF WN_GEN_NEXT t (fieldAt img 0x588 4)

/-- The parked posts of a migrating tenant: their windows are settled (R115, R120). -/
def State.loadPosts (s : State) (t : Nat) (img : List Byte) : State :=
  [0, 1, 2, 3].foldl
    (fun (z : State) i =>
      let at_ := 0xE00 + 64 * i
      if fieldAt img (at_ + 52) 4 == 0 then z
      else
        let m := 4 * t + fieldAt img (at_ + 49) 1 % 4
        let p : Parked := { len := fieldAt img (at_ + 48) 1, data := (img.drop at_).take (fieldAt img (at_ + 48) 1), gen := fieldAt img (at_ + 52) 4,
                            sealed := true }
        (z.setMailbox m { z.mailbox m with parked := some p }).releasePark m) s

/-- The state that a saved context takes up. -/
def imgState (img : List Byte) (k : Nat) : Nat := if imgLost img k then 3 else ctxField img k 265 1

/-- The targets of a restore with their saved indices; one that has left the tenant since RESTORE takes nothing. -/
def State.restored (s : State) (t st : Nat) (r : Restore) : List (Nat × Nat) :=
  ((List.range r.targets.length).zip r.targets).filter (fun x => s.cxState x.2 == st && s.ownerOf x.2 == some t)

/-- The load of a restore (R115). -/
def State.loadImage (s : State) (t : Nat) (r : Restore) : State :=
  let s1 := (s.restored t 1 r).foldl (fun (z : State) x => z.loadSaved r.image x.1 x.2) s
  let s2 := (s1.setFlag TN_STATUS_MIGRATED t r.migrate).setFlag TN_STATUS_CORE_LOST t ((List.range r.targets.length).any (imgLost r.image))
  let s3 := if r.migrate then (((s2.loadSync t r.image).loadCursor t r.image).loadWindow t r.image).loadPosts t r.image else s2
  (s3.setF DS_STAT_POS (ds t 7) r.image.length).endStream t 7 1

/-- A saved timer armed again at the resumption (R115, R153). -/
def State.rearm (s : State) (y : Timer) : Timer :=
  if y.signed && y.epoch != s.epoch then { y with state := 4 }
  else if s.passed 0 y.signed y.lo y.hi y.epoch then { y with state := 3 }
  else { y with state := 1 }

/-- A context resumes: in its saved state, whose timers are armed again. Entry to HALTED or TRAPPED ends the flow trace (R169). -/
def State.resumeCtx (s : State) (img : List Byte) (k c : Nat) : State :=
  let x := if imgLost img k then s.ctx c else [0, 1, 2, 3].foldl
    (fun (x : Ctx) i => match imgTimer img k i with
      | some y => x.setTimer i (s.rearm y)
      | none => x) (s.ctx c)
  let st := imgState img k
  let s1 := ((s.setCtx c x).setF CX_STATUS_STATE c st).setF CX_STATUS_PRIOR c 0
  let s2 := if st == 5 || st == 6 then s1.endFlow c else s1
  (s2.wakeTimers c).wakeSync c

/-- A TIME comparator of the restored state armed again (R226). -/
def State.rearmCmp (s : State) (t k : Nat) : State :=
  if s.getF TS_PROG0_KIND (s.cmpIdx t k) != 6 || s.disarmed t k || bitOf (s.getReg .TS_STAT t) (46 + k) then s
  else
    let x := s.seqr t
    let (lo, hi) := s.timeTarget t k
    if s.timeMode t k && x.epoch != s.epoch then s.endEpoch t k
    else if s.passed 0 (s.timeMode t k) lo hi x.epoch then s.setSeqr t { x with late := smSet false x.late k true }
    else s

/-- The saved sequencer state of a tenant (R226): on a migration with the baselines of CTR_DELTA afresh, and SYNC comparators armed against the
grants of this block. -/
def State.loadSeqr (s : State) (t : Nat) (img : List Byte) (migrate : Bool) : State :=
  let at_ := 0x100
  let b := fieldAt img (at_ + 2) 1
  let s1 := (((s.setF TS_STAT_RUNSTATE t (2 * (fieldAt img at_ 1 % 2))).setF TS_STAT_STATE t (fieldAt img (at_ + 1) 1)).setF TS_STAT_EPOCH t b).setF
    TS_MARK_NEXT t (fieldAt img (at_ + 6) 2)
  let x : Seqr := [0, 1, 2, 3].foldl
    (fun (y : Seqr) k =>
      let i := s1.cmpIdx t k
      let base := if migrate && s1.getF TS_PROG0_KIND i == 1 then (s1.getReg .CTR_LIVE (s1.getF TS_PROG0_PARAM i % 65536)).toNat
        else fieldAt img (at_ + 32 + 16 * k) 8
      { y with
        disarmed := smSet false y.disarmed k (b / 2 ^ (4 + k) % 2 == 1), base := smSet 0 y.base k base
        count := smSet 0 y.count k (fieldAt img (at_ + 40 + 16 * k) 8) })
    { entry := unitsOf (fieldAt img (at_ + 8) 12) * 2 ^ 24, epoch := fieldAt img (at_ + 4) 2 }
  s1.setSeqr t (s1.armReach t x)

/-- A SUSPENDED sequencer runs again. -/
def State.resumeSeqr (s : State) (t : Nat) : State :=
  if s.runState t == 2 then [0, 1, 2, 3].foldl (fun (z : State) k => z.rearmCmp t k) (s.setF TS_STAT_RUNSTATE t 1) else s

/-- Stream WEIGHTSm resumes: a QUIESCED one goes on, a STALLED one stalls again. -/
def State.resumeStream (s : State) (t m : Nat) : State :=
  let k := 3 + m
  if s.dsState t k == 3 then s.setF DS_STAT_STATE (ds t k) 1
  else if s.dsState t k == 2 then
    s.stallStream t k (s.getF DS_FAULT_CAUSE (ds t k)) (s.getF DS_FAULT_ADDR (ds t k)) (s.getF DS_STAT_POS (ds t k))
  else s

/-- The saved position of stream WEIGHTSm of a tenant: its descriptor and POS, with the fault of a STALLED one (R115, R311). A stream of which
the image saves none is left as it stands (DEDUCED, log entry 63). -/
def State.loadStream (s : State) (t m : Nat) (img : List Byte) : State :=
  let at_ := 0x600 + 64 * m
  let st := fieldAt img (at_ + 1) 1
  let i := ds t (3 + m)
  let d : StreamDesc := { src := fieldAt img (at_ + 8) 8, dst := fieldAt img (at_ + 16) 8, len := fieldAt img (at_ + 24) 8 }
  let s1 := (s.setStreamDesc t m (some d)).setF DS_STAT_POS i (fieldAt img (at_ + 32) 8)
  if st == 1 then s1.setF DS_STAT_STATE i 3
  else if st == 2 then
    ((s1.setF DS_STAT_STATE i 2).setF DS_FAULT_CAUSE i (fieldAt img (at_ + 2) 1)).setF DS_FAULT_ADDR i (fieldAt img (at_ + 40) 8)
  else s

/-- The launches of a restored tenant, for the contexts onto which the saved ones map (R362); pacing counts from now. -/
def State.resumeLaunches (s : State) (t : Nat) (r : Restore) : State :=
  let maps := ((List.range r.targets.length).zip r.targets).map (fun x => (ctxField r.image x.1 280 1, x.2))
  [0, 1, 2, 3].foldl (fun (z : State) m => z.setModel t m { z.model t m with lastStart := some z.rawNow })
    (s.setLaunches t (imgLaunches r.image maps))

/-- The windows reopen (R318). -/
def State.reopen (s : State) (t : Nat) : State :=
  if s.getF WN_STAT_STATE t == 2 then (s.setF WN_STAT_STATE t 0).tryOpen t else s.tryOpen t

/-- The resumption of a restore (R115): the restore is applied. `st` is the state that its targets are in. -/
def State.resume (s : State) (t st : Nat) (r : Restore) : State :=
  let s1 := [0, 1, 2, 3].foldl (fun (z : State) m => z.loadStream t m r.image) (s.loadSeqr t r.image r.migrate)
  let s2 := ((s1.setRestore t none).setTn t 1).resumeLaunches t r
  let s3 := (s2.restored t st r).foldl (fun (z : State) x => z.resumeCtx r.image x.1 x.2) s2
  let s4 := [0, 1, 2, 3].foldl (fun (z : State) m => z.resumeStream t m) (s3.resumeSeqr t)
  (s4.reopen t).tnDone t 0

/-- Load with HOLD: the targets are STOPPED (R115). -/
def State.holdRestore (s : State) (t : Nat) (r : Restore) : State :=
  let s1 := (s.restored t 1 r).foldl
    (fun (z : State) x => ((z.endFlow x.2).setF CX_STATUS_PRIOR x.2 (imgState r.image x.1)).setF CX_STATUS_STATE x.2 7) s
  (s1.setTn t 7).tnDone t 0

/-- The image has been read and is loaded. -/
def State.imageLoaded (s : State) (t : Nat) (r : Restore) : State :=
  let s1 := s.loadImage t r
  if r.hold then s1.holdRestore t r else s1.resume t 1 r

def execRestoreImageLoaded (t : Nat) (s : State) : Res :=
  match smGet none s.restores t with
  | some r => s.event (decide (t < 64) && s.tnState t == 5) (s.imageLoaded t r)
  | none => .next s

/-- A fault at `va` while the image is read: the stream stalls as any other (R310), and the tenant returns to the state before (R99). -/
def State.restoreFault (s : State) (t : Nat) (r : Restore) (cause va : Nat) : State :=
  (((s.setRestore t none).stallStream t 7 cause va ((va - s.chryBase t) / 64 * 64)).setTn t r.prev).tnDone t 8

def execRestoreFault (t cause va : Nat) (s : State) : Res :=
  match smGet none s.restores t with
  | some r => s.event (decide (t < 64) && s.tnState t == 5 && decide (1 ≤ cause) && decide (cause ≤ 8) && decide (s.chryBase t ≤ va) &&
      decide (va < s.chryBase t + r.image.length)) (s.restoreFault t r cause va)
  | none => .next s

/-- RELEASE. -/
def State.releaseTenant (s : State) (t : Nat) : State :=
  match smGet none s.restores t with
  | some r => if s.tnState t == 7 then s.resume t 7 r else s.tnDone t 1
  | none => s.tnDone t 1

/-! ### Tenant reset (R116) -/

/-- The tenant's streams and loader descriptor are abandoned. -/
def State.abandonStreams (s : State) (t : Nat) : State :=
  let s1 := if s.dsState t 0 == 0 then s
    else ((s.setRing t { s.ring t with spill := none }).setFlag SP_SIZE_EN t false).endStream t 0 2
  let s2 := if s1.dsState t 1 == 0 then s1 else s1.abandonDrain t
  let s3 := if s2.dsState t 7 == 0 then s2 else s2.endStream t 7 2
  let s4 := match s3.load with
    | some d => if d.tenant == t then s3.endLoad d 6 2 else s3
    | none => s3
  let s5 := if s4.dsState t 9 == 0 then s4
    else (({ s4 with taps := { s4.taps with rake := none } }).skipRake).endStream t 9 2
  if s5.dsState t 10 == 0 then s5
  else ((({ s5 with taps := { s5.taps with image := none } }).setFlag HV_STAT2_DMA_BUSY 0 false).incF HV_STAT2_DMA_SKIP 0).endStream t 10 2

/-- The tenant's window under a reset (R318). -/
def State.resetWindow (s : State) (t : Nat) : State :=
  if s.getF WN_STAT_STATE t == 1 then s.crystallise t 4 0 else s.setF WN_STAT_STATE t 0

/-- A mailbox of a tenant that is reset. -/
def State.resetMailbox (s : State) (m : Nat) : State :=
  (s.setMailbox m { s.mailbox m with parked := none }).setFlag MB_HDR_READY m false

/-- RESET. The window is settled first, so a post parked on it with READY = 0 is shown before READY falls (DESIGN CHOICE, log entry 64). -/
def State.resetTenant (s : State) (t : Nat) : State :=
  if s.tnState t == 0 then s.tnDone t 1
  else
    let s0 := ((s.setSave t {}).setRestore t none).setTn t 6
    let s1 := (s0.ctxsOf t).foldl (fun (z : State) c => z.turnOff t c) s0
    let s2 := ((s1.abandonStreams t).cancelGatesOf t).resetWindow t
    let s3 := s2.poisonPart t
    let s4 := [0, 1, 2, 3].foldl (fun (z : State) i => z.resetMailbox (4 * t + i)) s3
    let s5 := if s4.lgState t == 0 then s4 else s4.stopLedger t false
    ((s5.resetImago t).reviveHomes t).resetSeqr t

def execTenantResetComplete (t : Nat) (s : State) : Res :=
  s.event (decide (t < 64) && s.tnState t == 6) ((s.setTn t 0).tnDone t 0)

/-! ### TN_CMD -/

/-- A command of TN_CMD: 1 ACTIVATE, 2 PREEMPT, 3 RESTORE, 4 RESET, 5 RETRY_SAVE, 6 RELEASE; another value is reserved. -/
def State.tnCommand (s : State) (t cmd : Nat) (hold : Bool) : State :=
  if cmd == 1 then s.activate t
  else if cmd == 2 then s.preempt t
  else if cmd == 3 then s.restore t hold
  else if cmd == 4 then s.resetTenant t
  else if cmd == 5 then s.retry t
  else if cmd == 6 then s.releaseTenant t
  else s

/-- TN_CMD written. -/
def State.writeTnCmd (s : State) (t : Nat) (w mask : Word) : State := s.tnCommand t (TN_CMD_CMD.of (w &&& mask)) (TN_CMD_HOLD.cmd w mask)

def execActivate (t : Nat) (s : State) : Res := s.hostDoes (decide (t < 64)) (s.activate t)
def execPreempt (t : Nat) (s : State) : Res := s.hostDoes (decide (t < 64)) (s.preempt t)
def execRetrySave (t : Nat) (s : State) : Res := s.hostDoes (decide (t < 64)) (s.retry t)
def execRestore (t : Nat) (hold : Bool) (s : State) : Res := s.hostDoes (decide (t < 64)) (s.restore t hold)
def execRelease (t : Nat) (s : State) : Res := s.hostDoes (decide (t < 64)) (s.releaseTenant t)
def execTenantReset (t : Nat) (s : State) : Res := s.hostDoes (decide (t < 64)) (s.resetTenant t)

/-! ### DMA streams (R309, R310) -/

/-- The byte of a descriptor of `len` bytes at which address `va` lies, when they lie one behind the other from `base` on. -/
def offsetIn (base len va : Nat) : Option Nat := if base ≤ va && decide (va < base + len) then some (va - base) else none

/-- The byte of stream `k`'s descriptor that lies at `va`: an entry's data and then its sideband, the bytes of a model, of a rake entry in its
ring, of a harvest image with its header last. -/
def State.dsOffset (s : State) (t k va : Nat) : Option Nat :=
  if k == 0 || k == 1 then
    let i := if k == 0 then s.ringTail t else (s.ring t).head
    match offsetIn (s.ringData t i) 256 va with
    | some o => some o
    | none => (offsetIn (s.ringSide t i) 64 va).map (· + 256)
  else if 3 ≤ k && k < 7 then offsetIn (s.streamDesc t (k - 3)).src (s.streamDesc t (k - 3)).len va
  else if k == 9 then
    match s.taps.rake with
    | some j =>
      let base := s.getF RK_RING_BASE 0 * 65536
      if base ≤ va && decide (va < base + s.rakeLen) then
        offsetIn 0 j.entry.length ((va - base + s.rakeLen - s.getF RK_PTR_TAIL 0 % s.rakeLen) % s.rakeLen)
      else none
    | none => none
  else if k == 10 then
    match s.taps.image with
    | some m => match offsetIn (m.addr + 64) 299520 va with
      | some o => some o
      | none => (offsetIn m.addr 64 va).map (· + 299520)
    | none => none
  else none

/-- A running stream stalls at `va`: POS counts the whole units before it (R309, R310), or what it counted when `va` lies outside the
descriptor. A drain that is struck outside its entry has read and checked it. -/
def State.faultStream (s : State) (t k cause va : Nat) : State :=
  if k == 8 then
    match s.load with
    | some d => s.stallLoad d cause va ((va + 2 ^ 48 - d.src) % 2 ^ 48 / 64 * 64)
    | none => s
  else
    let at_ := s.dsOffset t k va
    let s1 := s.stallStream t k cause va (match at_ with | some o => o / 64 * 64 | none => s.getF DS_STAT_POS (ds t k))
    if k == 2 then s1.setFlag LG_STATUS_PF_STALL t true
    else if k == 1 then s1.setRing t { s1.ring t with checked := at_.isNone && s.entryReads t }
    else s1

def execDmaFault (t k cause va : Nat) (s : State) : Res :=
  s.event (decide (t < 64) && decide (k < 11) && k != 7 && decide (1 ≤ cause) && decide (cause ≤ 8) && s.dsState t k == 1 &&
    (k != 8 || (match s.load with | some d => d.tenant == t | none => false))) (s.faultStream t k cause va)

/-- RESUME: the descriptor goes on from POS rounded down to 64 bytes. -/
def State.resumeDs (s : State) (t k : Nat) : State :=
  if k == 8 then s.resumeLoad
  else
    let i := ds t k
    let s1 := (s.setF DS_STAT_STATE i 1).setF DS_STAT_POS i (s.getF DS_STAT_POS i / 64 * 64)
    if k == 2 then s1.setFlag LG_STATUS_PF_STALL t false
    else if k == 1 then s1.setRing t { s1.ring t with checked := false }
    else s1

/-- ABANDON, as the table of R309 says for each kind. -/
def State.abandonDs (s : State) (t k : Nat) : State :=
  if k == 0 then ((s.setRing t { s.ring t with spill := none }).setFlag SP_SIZE_EN t false).endStream t 0 2
  else if k == 1 then s.abandonDrain t
  else if k == 2 then (s.endPrefetch t 2).faultLedger t 8
  else if k == 8 then s.abandonLoad
  else if k == 9 then (({ s with taps := { s.taps with rake := none } }).skipRake).endStream t 9 2
  else if k == 10 then
    ((({ s with taps := { s.taps with image := none } }).setFlag HV_STAT2_DMA_BUSY 0 false).incF HV_STAT2_DMA_SKIP 0).endStream t 10 2
  else s.abandonWeights t (k - 3)

/-- DS_CMD written: both commands at once, one for a stream that is not STALLED, or one for CHRYSALIS are discarded. -/
def State.writeDsCmd (s : State) (i : Nat) (w mask : Word) : State :=
  let t := i / 16
  let k := i % 16
  let resume := DS_CMD_RESUME.cmd w mask
  let abandon := DS_CMD_ABANDON.cmd w mask
  if resume == abandon || s.dsState t k != 2 || k == 7 || 11 ≤ k then s
  else if resume then s.resumeDs t k
  else s.abandonDs t k

def execDsResume (t k : Nat) (s : State) : Res :=
  s.hostDoes (decide (t < 64) && decide (k < 16)) (s.writeDsCmd (ds t k) (putBits 0 63 63 1) allBits)
def execDsAbandon (t k : Nat) (s : State) : Res :=
  s.hostDoes (decide (t < 64) && decide (k < 16)) (s.writeDsCmd (ds t k) (putBits 0 62 62 1) allBits)

end Sys2Proof.Machine
end

