-- ==== Sys2Proof/Machine/Boundary.lean ====
section
/-! DEFINITION. The boundary: reset, the reference clock, units mapped out, self-test, interrupts, the power arbiter and the sensor
reader (R31, R32, R399 to R420). -/

namespace Sys2Proof.Machine

/-! ### Identity (R31) -/

/-- MYB_BLKID written: BLOCK_ID is locked once LOCK is 1. -/
def State.writeBlkid (s : State) (w mask : Word) : State := s.store .MYB_BLKID 0 w mask s.locked

def execBlkidLock (data : Word) (s : State) : Res := s.hostDoes (MYB_BLKID_LOCK.on data) (s.writeBlkid data allBits)

/-! ### Block reset (R403 to R405) -/

/-- Block reset is held from now on: READY falls, the time bus goes dead, PPS_OUT is low and no gate holds an egress queue (R86). The
tiles' DISC falls at once, as R405 says, and not after the four periods of R73 (DESIGN CHOICE, log entry 40). -/
def State.holdReset (s : State) (cause : Nat) : State :=
  let s1 := (s.setFlag MYB_STATUS_READY 0 false).setF MYB_STATUS_RESET_CAUSE 0 cause
  { s1 with
    inReset := true
    time := { s1.time with
      ppsHigh := false
      egress := []
      tiles := s1.time.tiles.filterMap (fun (e : Nat × Tile) =>
        if { e.2 with disc := false } = ({} : Tile) then none else some (e.1, { e.2 with disc := false })) } }

/-- The state once every register and memory is initialised. The salt pans, host memory, the widths of the ports and the tiles'
receivers lie outside the block; what has gone out stays gone out. A field of MYB_CAPS that has fallen waits for a self-test (R32). -/
def State.afterReset (s : State) : State :=
  let z : State := { State.reset with
    inReset := false
    salt := s.salt
    host := s.host
    memBad := s.memBad
    taps := { State.reset.taps with ports := s.taps.ports }
    board := { State.reset.board with fallen := s.board.fallen }
    time := { State.reset.time with tiles := s.time.tiles }
    out := s.out
    hostResp := s.hostResp
    freeCtr := s.freeCtr
    pending := s.pending }
  ((z.setReg .MYB_CAPS 0 (s.getReg .MYB_CAPS 0)).setF MYB_STATUS_RESET_CAUSE 0 (s.getF MYB_STATUS_RESET_CAUSE 0)).setFlag
    MYB_STATUS_REF_LOCK 0 true

/-- The pins MYB_PWR_OK and CHIP_RST_N as they are driven. -/
def State.setPins (s : State) (pwrOk chipRstN : Bool) : State :=
  { s with board := { s.board with pwrOk := pwrOk, chipRstN := chipRstN } }

/-- RESET_ASSERT: the pins take these levels, and a low one holds the reset. -/
def execResetAssert (pwrOk chipRstN : Bool) (s : State) : Res :=
  .next ((if !pwrOk then s.holdReset 1 else if !chipRstN then s.holdReset 2 else s).setPins pwrOk chipRstN)

/-- MYB_CTRL written. -/
def State.writeMybCtrl (s : State) (w mask : Word) : State :=
  if bitOf (w &&& mask) 63 then s.holdReset 3 else s

def execBlockReset (data : Word) (s : State) : Res := s.hostDoes (bitOf data 63) (s.writeMybCtrl data allBits)

/-- The last source of the reset has released and the PLL has locked: neither pin is low any more. The lock, and the microsecond after a write of
BLOCK_RESET, are over when the command comes (log entry 66). -/
def execBlockResetRelease (s : State) : Res := .next (if s.inReset && s.board.pwrOk && s.board.chipRstN then s.afterReset else s)

def execBlockReady (s : State) : Res := s.event (!s.ready) (s.setFlag MYB_STATUS_READY 0 true)

/-! ### The reference clock (R400) -/

/-- The PLL has lost lock or REF_CLK shows no edge. -/
def State.loseRef (s : State) : State :=
  let s1 := ((s.setFlag MYB_STATUS_REF_LOST 0 true).setFlag MYB_STATUS_REF_LOCK 0 false).raise vecTime
  if s1.flag TB_CTRL_RUN 0 then s1.alarm s1.sysTenant 0x830F 0x0F02 [] else s1

def execRefLost (s : State) : Res := s.event true s.loseRef

def execPllRelock (s : State) : Res := s.event true (s.setFlag MYB_STATUS_REF_LOCK 0 true)

/-! ### Units mapped out (R32, R103, R406) -/

/-- Context `c` under the failure of its core (R103). -/
def State.failCtx (s : State) (c : Nat) : State :=
  let st := s.cxState c
  if st == 0 then s
  else
    let s0 := s.leaveYield c
    let x := s0.ctx c
    let s1 := (s0.setCtx c { x with pc := x.boundary, latch := none }).setFlag CX_STATUS_CORE_FAIL c true
    let s2 := if st == 7 then s1 else (s1.endFlow c).setF CX_STATUS_PRIOR c st
    (s2.setF CX_STATUS_STATE c 7).raiseTenant (s.tenantOf c) IRQ_TCAUSE_CORE_FAIL

/-- Core `k` mapped out: its contexts stop, a load that names it is abandoned, and it gets no budget. -/
def State.mapOutCore (s : State) (k : Nat) : State :=
  if s.flag CORE_STAT_MAPPED_OUT k then s
  else
    let s1 := ((s.setFlag CORE_STAT_MAPPED_OUT k true).lowerCaps .core k).setF CORE_STAT_BUDGET k 0
    let s2 := match s1.load with
      | some d => if d.core == k then (if d.body then s1.dropImages d else s1).endLoad d 6 2 else s1
      | none => s1
    ((List.range 4).map (4 * k + ·)).foldl (fun z c => z.failCtx c) s2

/-- The unit `n` of a kind mapped out. -/
def State.mapOut (s : State) : MapKind → Nat → State
  | .core, n => s.mapOutCore n
  | .bank, n => s.mapOutBank n
  | .imago, n => s.mapOutImago n
  | .exportLane, n => s.failExportLane n
  | .mirrorLane, n => s.dropMirrorLane n

/-- How many units of a kind the block has. -/
def mapCount : MapKind → Nat
  | .core => 64
  | .bank => 64
  | .imago => 4
  | .exportLane => 8
  | .mirrorLane => 2

/-- The units of a mask mapped out. -/
def State.mapOutAll (s : State) (k : MapKind) (w : Nat) : State :=
  ((List.range (mapCount k)).filter (fun n => w / 2 ^ n % 2 == 1)).foldl (fun z n => z.mapOut k n) s

def execUnitMapOut (kind : MapKind) (n : Nat) (s : State) : Res := s.event (n < mapCount kind) (s.mapOut kind n)

/-! ### Self-test (R406) -/

/-- GO meets every condition. A GO while a test runs is refused too. -/
def State.bistMay (s : State) : Bool :=
  !s.flag TB_CTRL_RUN 0 && !s.flag TI_CTRL_ENABLE 0 && !s.flag EX_CFG_EN 0 && !s.flag PR_CTL_EN 0 &&
    (List.range 64).all (fun t => s.tnState t == 0) && !s.flag MYB_BIST_STAT_BUSY 0

/-- Every transmitter enters electrical idle: a frame that a port still sends after EN = 0 is lost on its wire, and the port is OFF (DESIGN
CHOICE, log entry 68). -/
def State.enterIdle (s : State) : State :=
  [0, 1, 2, 3].foldl (fun z p => if (z.exPort p).cur.isSome then (z.abortFrame p).stopPort p else z) s

/-- MYB_BIST written. -/
def State.writeBist (s : State) (w mask : Word) : State :=
  if !MYB_BIST_GO.cmd w mask then s
  else if s.bistMay then
    ({ s.setFlag MYB_BIST_STAT_BUSY 0 true with board := { s.board with bistUnits := MYB_BIST_UNITS.of (w &&& mask) } }).enterIdle
  else (s.setFlag MYB_BIST_STAT_REFUSED 0 true).raise vecBist

def execBistGo (data : Word) (s : State) : Res := s.hostDoes (MYB_BIST_GO.on data) (s.writeBist data allBits)

/-- Unit `b` of the mask is under test. -/
def State.tests (s : State) (b : Nat) : Bool := s.board.bistUnits / 2 ^ b % 2 == 1

/-- Byte `i` of the free contents drawn from `base` on. -/
def freeByte (base i : Nat) : Byte := (Config.freeWord (base + i / 8)).extractLsb' (8 * (i % 8)) 8

/-- A memory of `n` bytes of free contents. -/
def freeMem (base n : Nat) : SMap Byte :=
  (List.range n).filterMap (fun i => let b := freeByte base i; if b = 0 then none else some (i, b))

/-- A record whose slots and link entries the march test has overwritten: header, payload, and what R283 keeps beside the slots, its epoch, its
generation and GONE. It reads as whatever it reads, or as an uncorrectable error (R284). -/
def spoilRec (base : Nat) (r : Rec) : Rec :=
  let slots := 1 + (freeByte base 6).toNat % 8
  { r with
    typ := (freeByte base 0).toNat
    slots := slots
    cls := (freeByte base 5).toNat % 4
    tenant := (freeByte base 4).toNat % 64
    source := (freeByte base 2).toNat + 256 * (freeByte base 3).toNat
    seq := (Config.freeWord (base + 1)).toNat % 2 ^ 28
    stamp := (Config.freeWord (base + 2)).toNat
    err := (freeByte base 1).toNat % 3
    epoch := (freeByte base 8).toNat + 256 * (freeByte base 9).toNat
    gen := (Config.freeWord (base + 1)).toNat / 2 ^ 32
    gone := (freeByte base 7).getLsbD 0
    payload := (List.range (payloadLen slots)).map (fun i => freeByte (base + 3) i) }

/-- The cells of a queue under the march test; each record draws from a base of its own. -/
def spoilCells (base : Nat) (cs : List Cell) : List Cell :=
  cs.map (fun (c : Cell) => { c with recs := c.recs.mapIdx (fun i r => spoilRec (base + 4096 * c.idx + 64 * i) r) })

/-- The contents of the brine pool destroyed, with the link entries. -/
def State.spoilPool (s : State) : State :=
  let base := s.freeCtr
  let qs := s.qm.queues.map (fun (e : Nat × Queue) =>
    (e.1, { e.2 with
      front := spoilCells base e.2.front
      back := spoilCells base e.2.back
      desc := (freeByte (base + 2 ^ 31 + e.1) 0).toNat % 3 }))
  { s with qm := { s.qm with queues := qs.filter (fun e => e.2 != {}) }, freeCtr := s.freeCtr + 2 ^ 32 }

/-- The contents of every core's memories destroyed. -/
def State.spoilCores (s : State) : State :=
  (List.range 64).foldl
    (fun z k =>
      let base := z.freeCtr
      { z.setCore k { z.core k with scratch := freeMem base 262144, imem := freeMem (base + 65536) 131072 } with
        freeCtr := base + 131072 }) s

/-- The contents of the weight store destroyed. -/
def State.spoilStore (s : State) : State :=
  { s with imago := { s.imago with store := freeMem s.freeCtr 16777216 }, freeCtr := s.freeCtr + 2097152 }

/-- A selected unit's mask of failing parts. -/
def State.found (s : State) (b w : Nat) : Nat := if s.tests b then w else 0

/-- Unit `n` of a kind is mapped out now. -/
def State.isOut (s : State) (n : Nat) : MapKind → Bool
  | .core => s.flag CORE_STAT_MAPPED_OUT n
  | .bank => s.bankOut n
  | .imago => s.flag IM_UNIT_MAPPED_OUT n
  | .exportLane => s.ex.dead / 2 ^ n % 2 == 1
  | .mirrorLane => s.pair.failedLanes / 2 ^ n % 2 == 1

/-- The units of a kind count again after a self-test of it, unless they are mapped out (R32). -/
def State.provedUnits (s : State) (b : Nat) (k : MapKind) : State :=
  if s.tests b then
    { s.setF (capsOf k) 0 (mapCount k - ((List.range (mapCount k)).filter (fun n => s.isOut n k)).length) with
      board := { s.board with fallen := s.board.fallen.filter (fun e => e.1 != k || s.isOut e.2 k) } }
  else s

/-- MYB_CAPS after a self-test that has passed (PASS = 1): one that has found a failing unit raises no field (R32). -/
def State.provedAll (s : State) : State :=
  ((((s.provedUnits 0 .bank).provedUnits 1 .core).provedUnits 2 .imago).provedUnits 3 .exportLane).provedUnits 4 .mirrorLane

/-- The transmitters that were enabled while the test ran start now. -/
def State.leaveIdle (s : State) : State :=
  let s1 := if s.flag EX_CFG_EN 0 then s.exportOn else s
  if s1.pairState == 0 then s1 else s1.setF PR_LINK_LANES 0 s1.goodLanes

/-- Self-test ends with the failures that it found. -/
def State.endBist (s : State) (r : BistResult) : State :=
  let banks := s.found 0 r.banks.toNat
  let cores := s.found 1 r.cores.toNat
  let imago := s.found 2 r.imago.toNat
  let exp := s.found 3 r.exportLanes.toNat
  let mir := s.found 4 r.mirrorLanes.toNat
  let failed := (banks != 0).toNat + (cores != 0).toNat * 2 + (imago != 0).toNat * 4 + (exp != 0).toNat * 8 + (mir != 0).toNat * 16
  let s1 := if s.tests 0 then s.spoilPool else s
  let s2 := if s.tests 1 then s1.spoilCores else s1
  let s3a := if s.tests 2 then s2.spoilStore else s2
  let s3 := if failed == 0 then s3a.provedAll else s3a
  let s4 := (((((s3.mapOutAll .bank banks).mapOutAll .core cores).mapOutAll .imago imago).mapOutAll .exportLane exp).mapOutAll
    .mirrorLane mir)
  let s5 := (s4.setF MYB_BIST_BANKS_BANKS 0 banks).setF MYB_BIST_CORES_CORES 0 cores
  let s6 := ((s5.setF MYB_BIST_MISC_IMAGO 0 imago).setF MYB_BIST_MISC_EXPORT 0 exp).setF MYB_BIST_MISC_MIRROR 0 mir
  let s7 := ((s6.setF MYB_BIST_STAT_FAILED 0 failed).setFlag MYB_BIST_STAT_PASS 0 (failed == 0)).setFlag MYB_BIST_STAT_BUSY 0 false
  (s7.leaveIdle.setFlag MYB_BIST_STAT_DONE 0 true).raise vecBist

/-- A test of the cores or of the imago units waits through microseconds in which its allowance is 0 (R414). -/
def State.bistPaced (s : State) : Bool :=
  (!s.tests 1 || s.getF PW_ALLOC_CORE 0 != 0) && (!s.tests 2 || s.getF PW_ALLOC_IMAGO 0 != 0)

def execBistDone (r : BistResult) (s : State) : Res := s.event (s.flag MYB_BIST_STAT_BUSY 0 && s.bistPaced) (s.endBist r)

/-! ### Interrupt registers (R407, R408) -/

/-- IRQ_MASK`i` written: a vector that is enabled while it is pending sends one message. -/
def State.writeIrqMask (s : State) (i : Nat) (w mask : Word) : State :=
  let old := s.getReg .IRQ_MASK i
  let s1 := s.store .IRQ_MASK i w mask false
  let rise := s1.getReg .IRQ_MASK i &&& ~~~old &&& s1.getReg .IRQ_PEND i
  ((List.range 64).filter (bitOf rise)).foldl (fun z b => z.emit (.msi (64 * i + b))) s1

def execIrqMaskWrite (i : Nat) (data : Word) (s : State) : Res := s.hostDoes (i < 4) (s.writeIrqMask i data allBits)

/-- IRQ_PEND`i` written: a tenant's bit that is cleared while a cause stands rises again at once. -/
def State.writeIrqPend (s : State) (i : Nat) (w mask : Word) : State :=
  let old := s.getReg .IRQ_PEND i
  let s1 := s.store .IRQ_PEND i w mask false
  if i == 1 then
    let fell := old &&& ~~~(s1.getReg .IRQ_PEND i)
    ((List.range 64).filter (fun t => bitOf fell t && s1.getReg .IRQ_TCAUSE t != 0)).foldl (fun z t => z.raise (64 + t)) s1
  else s1

/-! ### The power arbiter (R411 to R414), in 125 mW units -/

/-- The lanes that are not in electrical idle; while a self-test runs there are none (R406). -/
def State.lanesUp (s : State) : Nat :=
  if s.flag MYB_BIST_STAT_BUSY 0 then 0
  else (((List.range 4).map (fun p => s.getF EX_PORT_LANES p)) ++ [s.getF PR_LINK_LANES 0]).foldl
    (fun n w => n + ((List.range 8).filter (fun b => w / 2 ^ b % 2 == 1)).length) 0

/-- The fixed allowance in mW; the lanes' part is rounded up, so that every result is a multiple of 125 mW. -/
def State.fixedMw (s : State) : Nat :=
  16000 + cdiv (7000 * s.getF MYB_CAPS_POOL_BANKS_OK 0) (64 * 125) * 125 + cdiv (1100 * s.lanesUp) 125 * 125

/-- What the arbiter computes (R411): fixed, p, g, unused, all in mW, and SHORT. -/
structure Alloc where
  fixed : Nat
  p : Nat
  g : Nat
  unused : Nat
  short : Bool
  deriving DecidableEq, Repr

/-- The allowances of R411 for the latest grant. -/
def State.allot (s : State) : Alloc :=
  let fixed := s.fixedMw
  let base := fixed + s.getF PW_CFG_GUARD 0 * 125
  let avail := s.board.grant * 125
  if avail < base then ⟨fixed, 0, 0, 0, true⟩
  else
    let f := avail - base
    let p := min (s.getF PW_CFG_CORE_MAX 0 * 125) (f - s.getF PW_CFG_IMAGO_MIN 0 * 125)
    let g := min 22000 ((f - p) / 125 * 125)
    ⟨fixed, p, g, f - p - g, false⟩

/-- The issue budget B of R105 for P in mW. -/
def budgetOf (p : Nat) : Nat := min 1600 (1600 * p / 9600)

/-- The duty D of R348 for G in mW. -/
def dutyOf (g : Nat) : Nat := min 1600 (1600 * g / 22000)

/-- The usable cores. -/
def State.usable (s : State) : List Nat := (List.range 64).filter (fun k => !s.flag CORE_STAT_MAPPED_OUT k)

/-- The pin PM_DRAW in units of 125 mW: fixed, cores and imago units as PW_ALLOC shows them (R411), 24 in reset and 0 without power
(R405). -/
def State.pmDraw (s : State) : Nat :=
  if !s.board.pwrOk then 0 else if s.inReset then 24 else s.getF PW_ALLOC_FIXED 0 + s.getF PW_ALLOC_CORE 0 + s.getF PW_ALLOC_IMAGO 0

/-- New allowances are in force: PW_GRANT, PW_ALLOC and DUTY, and the entry into shortage (R414). -/
def State.grantNow (s : State) (a : Alloc) : State :=
  let was := s.flag PW_ALLOC_SHORT 0
  let s1 := (s.setF PW_GRANT_GRANT 0 s.board.grant).setF PW_ALLOC_FIXED 0 (a.fixed / 125)
  let s2 := ((s1.setF PW_ALLOC_CORE 0 (a.p / 125)).setF PW_ALLOC_IMAGO 0 (a.g / 125)).setF PW_ALLOC_UNUSED 0 (a.unused / 125)
  let s3 := [0, 1, 2, 3].foldl (fun z u => z.setF IM_UNIT_DUTY u (dutyOf a.g)) (s2.setFlag PW_ALLOC_SHORT 0 a.short)
  if a.short && !was then
    (s3.raise vecPower).alarm s3.sysTenant 0x830F 0x0F01 (leBytes 2 s.board.grant ++ leBytes 2 (a.fixed / 125))
  else s3

/-- The cores' budgets for a whole microsecond; what the last one used is past. -/
def State.newBudgets (s : State) (b : Nat) : State :=
  (List.range 64).foldl
    (fun z k => (z.setCore k { z.core k with used := 0, usedBy := [], cuts := [] }).setF CORE_STAT_BUDGET k
      (if s.flag CORE_STAT_MAPPED_OUT k then 0 else b)) s

/-- The hold timer counts the microseconds down (R68). -/
def State.holdMicro (s : State) : State := if s.time.holdRun then s.decF TB_STATUS_HOLD_LEFT 0 1 else s

/-- The sensor reader counts the ticks since it started its last sample. -/
def State.sampleMicro (s : State) : State :=
  { s with board := { s.board with sampTicks := if s.flag PW_SAMP_EN 0 then s.board.sampTicks + 1 else 0 } }

/-- A tick of the microsecond clock: the arbiter first, then the units that run on it. -/
def State.micro (s : State) : State :=
  let a := s.allot
  let s1 := (s.grantNow a).newBudgets (budgetOf a.p)
  let s2 := { s1 with
    us := s1.us + 1
    taps := { s1.taps with ingested := 0 }
    imago := { s1.imago with further := none }
    board := { s1.board with latest := [s.board.grant, a.fixed / 125, a.p / 125, a.g / 125] } }
  (s2.holdMicro.exportMicro.leaseMicro).sampleMicro

def execMicrosecondTick (s : State) : Res := s.event true s.micro

/-- A grant arrives: values above 560 read as 560. -/
def State.takeGrant (s : State) (units : Nat) : State := { s with board := { s.board with grant := min 560 units } }

def execPmGrant (units : Nat) (s : State) : Res := s.event true (s.takeGrant units)

/-- A core under a cut with `l` cycles left in the microsecond: at most floor(B × L ÷ 1,600) further cycles. -/
def State.cutCore (s : State) (b l k : Nat) : State :=
  let x := s.core k
  let old := s.getF CORE_STAT_BUDGET k
  let further := b * l / 1600
  let start := (x.cuts.head?.map (·.budget)).getD old
  (s.setCore k { x with cuts := ⟨further, start, x.used, x.usedBy⟩ :: x.cuts }).setF CORE_STAT_BUDGET k (min old (x.used + further))

/-- The imago units under a cut: what each may use in the rest of the microsecond, counted from the cut. -/
def State.cutImago (s : State) (d l : Nat) : State :=
  let n := d * l / 1600
  { s with imago := { s.imago with further := some (match s.imago.further with | some m => min m n | none => n) } }

/-- A grant with PM_CUT (R412); one that is above the grant in force is a rise and waits for the tick. -/
def State.cut (s : State) (units l : Nat) : State :=
  let s1 := (s.takeGrant units).incF PW_GRANT_CUTS 0
  if s.getF PW_GRANT_GRANT 0 < s1.board.grant then s1
  else
    let a := s1.allot
    let s2 := (s1.grantNow a).cutImago (dutyOf a.g) (min l 1600)
    s2.usable.foldl (fun z k => z.cutCore (budgetOf a.p) (min l 1600) k) s2

def execPmCut (units cyclesLeft : Nat) (s : State) : Res := s.event true (s.cut units cyclesLeft)

/-! ### The sensor reader (R415 to R419) -/

/-- The PMBus commands of a sample (R415): READ_VIN, READ_IIN, READ_PIN, READ_TEMPERATURE_1 and STATUS_WORD. -/
def sensorCommands : List Nat := [0x88, 0x89, 0x97, 0x8D, 0x79]

/-- A sample starts: the hub is asked for the device's five readings. -/
def State.startSample (s : State) : State :=
  sensorCommands.foldl (fun z k => z.emit (.sensorRead (s.getF PW_SAMP_PMBUS_ADDR 0) k))
    { s with board := { s.board with sampling := true, sampTicks := 0, sampAt := s.us, shown := s.board.latest } }

def execSensorSampleStart (s : State) : Res :=
  s.event (s.flag PW_SAMP_EN 0 && !s.board.sampling && decide (s.getF PW_SAMP_PERIOD_US 0 ≤ s.board.sampTicks)) s.startSample

/-- A LINEAR11 word is negative (R417). -/
def linearNeg (w : Nat) : Bool := w / 1024 % 2 == 1

/-- A LINEAR11 word in thousandths, truncated (R417); a negative value converts to 0. -/
def linearMilli (w : Nat) : Nat :=
  let n := w / 2048 % 32
  let y := w % 1024
  if linearNeg w then 0
  else if n < 16 then y * 1000 * 2 ^ n
  else y * 1000 / 2 ^ (32 - n)

/-- A converted value in 32 bits; the spec gives no value for one that does not fit. -/
def State.fit32 (s : State) (v : Nat) : Nat × State :=
  if v < 2 ^ 32 then (v, s)
  else
    let (w, s1) := s.draw
    (w.toNat % 2 ^ 32, s1)

/-- POWER_SAMPLE (R418), from the words that PW_SENSE and PW_SENSE2 hold. -/
def State.powerSample (s : State) (failed : Bool) : State :=
  let vin := s.getF PW_SENSE_VIN 0
  let iin := s.getF PW_SENSE_IIN 0
  let pin := s.getF PW_SENSE_PIN 0
  let range := linearNeg vin || linearNeg iin || linearNeg pin
  let (mv, s1) := s.fit32 (linearMilli vin)
  let (ma, s2) := s1.fit32 (linearMilli iin)
  let head := leBytes 1 (failed.toNat + 2 * range.toNat) ++ leBytes 1 0 ++ leBytes 2 vin ++ leBytes 2 iin ++ leBytes 2 pin ++
    leBytes 4 mv ++ leBytes 4 (satTo 32 (linearMilli pin))
  let more := leBytes 4 ma ++ leBytes 2 (s.getF PW_SENSE2_TEMP 0) ++ leBytes 2 (s.getF PW_SENSE_STATUS 0) ++
    (s.board.shown.map (leBytes 2)).flatten
  if s.flag PW_SAMP_DETAIL 0 then s2.form (s2.unitRec 0x31 2 2 s2.sysTenant 0x830F (head ++ more))
  else s1.form (s1.unitRec 0x31 1 2 s1.sysTenant 0x830F head)

/-- A third failure in a row: ALARM SENSOR_FAIL and POWER; the count starts again. -/
def State.missSample (s : State) : State :=
  let s1 := s.incF PW_SENSE2_FAILS 0
  if s1.board.misses + 1 < 3 then { s1 with board := { s1.board with misses := s1.board.misses + 1 } }
  else
    (({ s1 with board := { s1.board with misses := 0 } }).raise vecPower).alarm s1.sysTenant 0x830F 0x0F03
      (leBytes 1 (s1.getF PW_SAMP_PMBUS_ADDR 0) ++ leBytes 3 0 ++ leBytes 4 (s1.getF PW_SENSE2_FAILS 0))

/-- A sample ends with the hub's reply, or fails. -/
def State.endSampling (s : State) (reply : Option Sensor) : State :=
  let s1 := ({ s with board := { s.board with sampling := false } }).incF PW_SENSE2_SAMPLES 0
  let s2 := match reply with
    | some r =>
      let z := ((s1.setF PW_SENSE_VIN 0 r.vin.toNat).setF PW_SENSE_IIN 0 r.iin.toNat).setF PW_SENSE_PIN 0 r.pin.toNat
      let z1 := (z.setF PW_SENSE_STATUS 0 r.status.toNat).setF PW_SENSE2_TEMP 0 r.temp.toNat
      { z1 with board := { z1.board with misses := 0 } }
    | none => s1.missSample
  if s2.flag TB_CTRL_RUN 0 then s2.powerSample reply.isNone else s2

/-- SENSOR_SAMPLE_END: a reply that comes more than 5 ms after the start of the sample is none (R416). -/
def execSensorSampleEnd (reply : Option Sensor) (s : State) : Res :=
  s.event s.board.sampling (s.endSampling (if s.us ≤ s.board.sampAt + 5000 then reply else none))

/-! ### Lane trims (R402) -/

/-- Lane `n` is in electrical idle: export lanes 0–7, mirror lanes 8 and 9. While a self-test runs every lane is (R406). -/
def State.laneIdle (s : State) (n : Nat) : Bool :=
  if s.flag MYB_BIST_STAT_BUSY 0 then true
  else if n < 8 then (List.range 4).all (fun p => s.getF EX_PORT_LANES p / 2 ^ n % 2 == 0)
  else s.getF PR_LINK_LANES 0 / 2 ^ (n - 8) % 2 == 0

/-- BD_LTRIM`n` written; it is discarded unless the lane is idle. -/
def State.writeLtrim (s : State) (n : Nat) (w mask : Word) : State :=
  if s.laneIdle n then s.store .BD_LTRIM n w mask false else s

end Sys2Proof.Machine
end

