-- ==== Sys2Proof/Machine/StepEffect.lean ====
section
/-! DEFINITION. A step takes effect (R62, R65, R69, R87, R88, R153, R181, R224, R316). -/

namespace Sys2Proof.Machine

/-- What a step does to an ARMED gate (R87); of the gates that it makes due, the lowest acts in the step's tick. -/
def State.stepGate (s : State) (g : Nat) : State :=
  let x := s.gate g
  if s.gateState g != 1 || x.late.isSome then s
  else if x.signed then s.setF SG_STAT_STATE g 6
  else if s.holdsNow (s.lead x) false x.lo x.hi 0 then s.fallLate g
  else s

/-- The new state of a context timer under a step (R153). -/
def State.stepTimer (s : State) (y : Timer) : Timer :=
  if y.state != 1 then y
  else if y.signed then { y with state := 4 }
  else if s.holdsNow 0 false y.lo y.hi 0 then { y with state := 3 }
  else y

/-- What a step does to the timers of context `c`. -/
def State.stepCtx (s : State) (c : Nat) : State :=
  let x := s.ctx c
  let y := [0, 1, 2, 3].foldl (fun (z : Ctx) i => z.setTimer i (s.stepTimer (z.timer i))) x
  (s.setCtx c y).wakeTimers c

/-- What a step does to a harvest of the calendar (R181): a signed-difference harvest is cancelled, and its rake is skipped. -/
def State.stepHarvest (s : State) (r : HvReq) : State :=
  if !r.timed || r.late then s
  else if r.signed then
    let s1 := (s.setCal (s.taps.cal.filter (fun x => x.num != r.num))).setF HV_STAT2_CANCELLED 0 r.num
    if r.rake then s1.skipRake else s1
  else if s.holdsNow 0 false r.lo r.hi 0 then
    s.setCal (s.taps.cal.map (fun (x : HvReq) => if x.num == r.num then { x with late := true, tick := s.rawNow } else x))
  else s

/-- An INTERVAL window ends at a step (R316). -/
def State.stepWindow (s : State) (t : Nat) : State :=
  if s.getF WN_STAT_STATE t == 1 && (s.window t).align == 0 then s.closeAndOpen t 0 else s

/-- The time engine's own part of a step: the new entry, the accumulator of SN mode, TIME_STATUS STEP and the word to the partner. -/
def State.stepTime (s : State) (k : Commit) : State :=
  let amount : Int := (k.ofs : Int) - (s.fabNow : Int)
  let old := s.epoch
  let s1 := (s.setCommit none).enterHistory k.ofs k.incr k.epoch
  let s2 := { s1 with
    time := { s1.time with
      sec := BitVec.ofNat 48 (k.ofs / second40)
      ns := k.ofs % second40 / 2 ^ 40
      frac := k.ofs % 2 ^ 40
      tx := s1.time.tx.map (fun (e : Nat × TxPost) => if e.2.posted then (e.1, { e.2 with stepped := true }) else e) } }
  (s2.timeStatus 2 old s.primaryPort amount).sendTime

/-- A step takes effect: time first, then every comparator, then the windows; the step that adopts a partner's time completes R391. -/
def State.applyStep (s : State) (k : Commit) : State :=
  let s1 := s.stepTime k
  let s2 := (s1.time.gates.map (·.1)).foldl (fun z g => z.stepGate g) s1
  let s3 := (s2.ctxs.map (·.1)).foldl (fun z c => z.stepCtx c) s2
  let s4 := s3.taps.cal.foldl (fun z r => z.stepHarvest r) s3
  let s5 := (List.range 64).foldl (fun z t => z.stepSeqr t) s4
  let s6 := (List.range 64).foldl (fun z t => z.stepWindow t) s5
  if s6.joining && k.adopt then s6.pairSet (fun (p : PairUnit) => { p with adopted := true }) else s6

def execStepEffect (s : State) : Res :=
  match s.time.commit with
  | some k => s.event (k.step && s.running && s.rawNow == k.at_) (s.applyStep k)
  | none => .next s

end Sys2Proof.Machine
end

