-- ==== Sys2Proof/Machine/HostPort.lean ====
section
/-! DEFINITION. The register window: which register an offset names, what a read gives and what a write does, for the host and for the
contexts' loads and stores (R8 to R16, R92 to R94, R117, R118, R136 to R138, R423 to R430). -/

namespace Sys2Proof.Machine

/-! ### Offsets (chapter Register index) -/

/-- The index that an offset has in a region, if it starts an entry. -/
def Region.index (g : Region) (off : Nat) : Option Nat :=
  let d := off - g.base
  let i := if g.s1 = 0 then 0 else d / g.s1
  let r := d - g.s1 * i
  let j := if g.s2 = 0 then 0 else r / g.s2
  if g.base ≤ off ∧ i < g.n1 ∧ j < g.n2 ∧ r = g.s2 * j then some (g.n2 * i + j) else none

/-- The register and index at an offset. -/
def locateIn : List Region → Nat → Option (Reg × Nat)
  | [], _ => none
  | g :: gs, off => match g.index off with
    | some i => some (g.reg, i)
    | none => locateIn gs off

/-- The register and index at an offset of the window. -/
def locate (off : Nat) : Option (Reg × Nat) := locateIn Reg.regions off

/-- The entry that an indirect window shows: the one that its select register names. -/
def State.entryOf (s : State) (r : Reg) (i : Nat) : Nat :=
  match r with
  | .SG_STAT => s.getF SG_SEL_GATE 0
  | .QM_QCFG => s.getF QM_QSEL_QUEUE 0
  | .QM_QSTAT => s.getF QM_QSEL_QUEUE 0
  | .QM_SRCMAP => s.getF QM_SRCSEL_SOURCE 0
  | .TI_SEQVAL => s.getF TI_SEQSEL_SOURCE 0
  | .TS_PROG0 => 64 * s.getF TS_PSEL_TENANT 0 + i
  | .TS_PROG1 => 64 * s.getF TS_PSEL_TENANT 0 + i
  | .LG_PGWORD => 8 * s.getF LG_PGSEL_GROUP 0 + i
  | _ => i

/-! ### Tenant pages (R118, R428, R429) -/

/-- Antenna `a` is granted to tenant `t` (R96, R117). -/
def State.antGranted (s : State) (t a : Nat) : Bool :=
  decide (a < 512) && (match s.portOf a with | some p => s.portOwner p == some t | none => false)

/-- The 64-bit word at offset 8 × `k` of tenant `t`'s page. -/
def State.pageWord (s : State) (t k : Nat) : Nat :=
  let first := s.getF TN_PAGE_FIRST t
  let w := (s.window t).last
  let voided := s.getF WN_LAST_OUTCOME t == 8
  if !s.flag TN_CFG_PAGE_EN t then 0
  else if k == 0 then 0x5047504E
  else if k == 1 then s.getF HV_STAT_NUM 0
  else if k == 2 then (s.getReg .HV_TICK 0).toNat
  else if k == 3 then
    s.taps.shadowEpoch % 2 ^ 16 + t * 2 ^ 16 + first * 2 ^ 32 +
      ((List.range 120).filter (fun j => s.antGranted t (first + j))).length * 2 ^ 48
  else if k == 8 then s.getF WN_LAST_GEN t + s.getF WN_LAST_OUTCOME t * 2 ^ 32
  else if k == 9 then s.getF WN_LASTCNT_RECORDS t + s.getF WN_LASTCNT_DIGEST t * 2 ^ 32
  else if k == 10 then (if voided then 0 else w.c1 % 2 ^ 32 + w.c2 % 2 ^ 32 * 2 ^ 32)
  else if k == 11 then (if voided then 0 else w.c3 % 2 ^ 32 + w.slots % 2 ^ 32 * 2 ^ 32)
  else if k == 12 then (if voided then 0 else w.opened % 2 ^ 64)
  else if 128 ≤ k && k < 248 then
    (if s.antGranted t (first + (k - 128)) then (s.getReg .HV_OVF (first + (k - 128))).toNat else 0)
  else if 512 ≤ k && k < 8192 then
    (if s.antGranted t (first + (k - 512) / 64) then (s.getReg .HV_SHADOW (64 * first + (k - 512))).toNat else 0)
  else 0

/-! ### Reads -/

/-- TN_STATUS.NEED as it reads: the image size that a PREEMPT would require; a FREE tenant has none (its reset value). -/
def State.needShown (s : State) (t : Nat) : Nat := if s.tnState t == 0 then 0 else s.imageNeed t

/-- What a 64-bit read of a register gives, and the state after it: TB_SNAP_SHORT and MB_HDR latch (R89, R121), and what is computed at
each read is computed. -/
def State.readReg (s : State) (r : Reg) (i : Nat) : Word × State :=
  match r with
  | .TB_SNAP_SHORT => (s.snapLatch.2, s.snapLatch.1)
  | .MB_HDR => (s.getReg .MB_HDR i, s.latchMailbox i)
  | .CX_PC => (putBits 0 CX_PC_PC.hi CX_PC_PC.lo (s.ctx i).pc.toNat, s)
  | .TN_STATUS => (putBits (s.getReg .TN_STATUS i) TN_STATUS_NEED.hi TN_STATUS_NEED.lo (s.needShown i), s)
  | .HT_CTL => ((s.showPending i).getReg .HT_CTL i, s.showPending i)
  | .CTR_LIVE => (s.liveValue i, s)
  | .PI_TIME => (s.imageWord r i, s)
  | .PI_TEN => (s.imageWord r i, s)
  | .PI_LIVE => (s.imageWord r i, s)
  | .PI_SOFT => (s.imageWord r i, s)
  | _ => (s.getReg r (s.entryOf r i), s)

/-- An entry of the queue count array (R290). -/
def State.countEntry (s : State) (q : Nat) : Nat :=
  s.getF QM_QSTAT_QERR q * 2 ^ 31 + s.getF QM_QSTAT_MARK_LOST q * 2 ^ 30 + (s.isRemote q).toNat * 2 ^ 29 +
    s.getF QM_QSTAT_FROZEN q * 2 ^ 28 + s.getF QM_QSTAT_COUNT q

/-- What a 64-bit read at an aligned offset gives (R424, R425). -/
def State.readOff (s : State) (off : Nat) : Word × State :=
  if 0xC00000 ≤ off then (BitVec.ofNat 64 (s.pageWord ((off - 0xC00000) / 65536) (off % 65536 / 8)), s)
  else if 0x580000 ≤ off && off < 0x5A0000 then
    let k := (off - 0x580000) / 8
    (BitVec.ofNat 64 (s.countEntry (2 * k) + s.countEntry (2 * k + 1) * 2 ^ 32), s)
  else match locate off with
    | some (r, i) => s.readReg r i
    | none => (0, s)

/-- What a read of 8 or 4 bytes gives; a half of a register performs the register's latch (R426). -/
def State.readWindow (s : State) (off : Nat) (wide : Bool) : Word × State :=
  let (w, s1) := s.readOff (off / 8 * 8)
  if wide then (w, s1)
  else (BitVec.ofNat 64 (if off % 8 = 0 then w.toNat % 2 ^ 32 else w.toNat / 2 ^ 32), s1)

/-! ### Writes -/

/-- SP_SIZE written: a CELLS that is no multiple of 256 is reserved (R302), and RING_FULL follows CELLS. -/
def State.writeSpSize (s : State) (t : Nat) (w mask : Word) : State :=
  let m := if SP_SIZE_CELLS.of w % 256 = 0 then mask else mask &&& ~~~(fieldMask SP_SIZE_CELLS.hi SP_SIZE_CELLS.lo)
  let s1 := s.store .SP_SIZE t w m false
  s1.setFlag SP_LEVEL_RING_FULL t ((s1.ring t).ents.length == s1.getF SP_SIZE_CELLS t)

/-- TN_CFG written; a change is told to the partner (R379). -/
def State.writeTnCfg (s : State) (t : Nat) (w mask : Word) : State :=
  let s1 := s.store .TN_CFG t w mask false
  if s1.getReg .TN_CFG t == s.getReg .TN_CFG t then s1 else s1.sendTenant t

/-- CX_CFG written, unless the context is LOADING, RUNNABLE, WAITING or STOPPED. -/
def State.writeCxCfg (s : State) (c : Nat) (w mask : Word) : State :=
  let st := s.cxState c
  if st == 2 || st == 3 || st == 4 || st == 7 then s else s.store .CX_CFG c w mask false

/-- A live counter preset by a 64-bit write (R178); other widths do not reach it (R14). -/
def State.writeLive (s : State) (i : Nat) (w mask : Word) : State := if mask == allBits then s.preset i w else s

/-- A write of the bits `mask` of `w` to entry `i` of a register: the register's own effect, or that of its field types (R8). -/
def State.writeReg (s : State) (r : Reg) (i : Nat) (w mask : Word) : State :=
  match r with
  | .MYB_BLKID => s.writeBlkid w mask
  | .MYB_CTRL => s.writeMybCtrl w mask
  | .MYB_BIST => s.writeBist w mask
  | .IRQ_PEND => s.writeIrqPend i w mask
  | .IRQ_MASK => s.writeIrqMask i w mask
  | .TB_CTRL => s.writeTbCtrl w mask
  | .TB_INCR => s.writeTbIncr w mask
  | .TB_PRJ_CMD => s.writePrjCmd w mask
  | .TB_PORT_TIME => s.writePortTime i w mask
  | .TB_RX_PTR => s.writeRxHead w mask
  | .TB_TX_POST => s.writeTxPost w mask
  | .SG_CMD => s.writeSgCmd w mask
  | .LD_CMD => s.writeLdCmd w mask
  | .TN_CFG => s.writeTnCfg i w mask
  | .TN_CMD => s.writeTnCmd i w mask
  | .TN_GATES => s.writeGates i w mask
  | .TN_CTX_MASK => s.writeCtxMask (i / 4) (i % 4) w mask
  | .CX_CFG => s.writeCxCfg i w mask
  | .MB_ACK => s.writeMbAck i w mask
  | .HV_CMD => s.writeHvCmd w mask
  | .RK_PTR => s.writeRakeHead w mask
  | .AN_TAG => s.writeAnTag i w mask
  | .AN_PCFG => s.writePcfg i w mask
  | .HT_ADDR => s.writeHtAddr i w mask
  | .HT_CRED => s.writeHtCred i w mask
  | .TS_CTL => s.writeTsCtl i w mask
  | .TS_CMD => s.writeTsCmd i w mask
  | .TS_PROG0 => s.writeTsProg .TS_PROG0 i w mask
  | .TS_PROG1 => s.writeTsProg .TS_PROG1 i w mask
  | .SC_PART => s.writePart i w mask
  | .SC_CMD => s.writeScCmd w mask
  | .SC_FLAGCLR => s.writeFlagClr w mask
  | .SC_HOSTADD => s.writeHostAdd w mask
  | .SC_RGRANT => s.writeRgrant i w mask
  | .SC_WCFG => s.writeWatch i w mask
  | .LG_ADDR => s.writeLgConfig .LG_ADDR i w mask
  | .LG_LEN => s.writeLgConfig .LG_LEN i w mask
  | .LG_CFG => s.writeLgConfig .LG_CFG i w mask
  | .LG_TIMING => s.writeLgConfig .LG_TIMING i w mask
  | .LG_CURSOR => s.writeLgHeld .LG_CURSOR i w mask
  | .LG_PBASE_LO => s.writeLgHeld .LG_PBASE_LO i w mask
  | .LG_PBASE_HI => s.writeLgHeld .LG_PBASE_HI i w mask
  | .LG_CMD => s.writeLgCmd i w mask
  | .QM_BANK => s.mapOutBanks (w &&& mask) 64
  | .QM_CMD => s.writeQmCmd w mask
  | .QM_QCFG => s.writeQcfg w mask
  | .QT_LIMIT => (s.store .QT_LIMIT i w mask false).showFull i
  | .XL_INV => s.writeXlInv w mask
  | .SP_SIZE => s.writeSpSize i w mask
  | .SP_PEAK => s.writeSpPeak i w mask
  | .DS_CMD => s.writeDsCmd i w mask
  | .WN_CFG => s.writeWnCfg i w mask
  | .WN_GEN => s.writeWnGen i w mask
  | .WN_CMD => s.writeWnCmd i w mask
  | .EX_CFG => s.writeExCfg w mask
  | .EX_STREAM => s.writeExStream i w mask
  | .IM_TCFG => s.writeImTcfg i w mask
  | .GV_LEVEL => s.writeGvLevel i w mask
  | .HM_CTL => s.writeHmCtl i w mask
  | .LS_CFG => s.writeLsCfg w mask
  | .LS_ENT => s.writeLsEnt i w mask
  | .PR_CTL => s.writePrCtl w mask
  | .PR_CMD => s.writePrCmd w mask
  | .PR_OWN => s.writePrOwn i w mask
  | .PR_TEN => s.writePrTen i w mask
  | .SOFT_PAGE => s.writeSoft i w mask
  | .BD_LTRIM => s.writeLtrim i w mask
  | .CTR_LIVE => s.writeLive i w mask
  | _ => s.store r (s.entryOf r i) w mask false

/-- After a 32-bit write, the fields of a register that cross bit 32 and whose bits a write only clears or only sets hold free values, whatever
they held before (R15: undefined); a field of type RW has taken its free value by the write itself. -/
def State.undefine (s : State) (r : Reg) (i : Nat) (lanes : Lanes) : State :=
  let fs := r.fields.filter (fun f => f.crosses && (f.acc == .w1c || f.acc == .w1s))
  if lanes == .full || fs.isEmpty then s
  else
    let (free, s1) := s.draw
    s1.setReg r i (fs.foldl (fun w f => putBits w f.hi f.lo (bitsOf free f.hi f.lo)) (s1.getReg r i))

/-- A write of 8 or 4 bytes at an offset that is aligned: a field that crosses bit 32 becomes undefined under a 32-bit write (R15), and
an offset that names no register takes nothing (R424). -/
def State.writeOff (s : State) (off : Nat) (lanes : Lanes) (data : Word) : State :=
  match locate off with
  | some (r, i) =>
    let (w, mask, s1) := s.written r lanes data
    (s1.writeReg r i w mask).undefine r (s.entryOf r i) lanes
  | none => s

/-- The kind of host access error that an access is (R14, R410): 0 none, 1 WIDTH, 2 ALIGN, 3 PAGE_WRITE. -/
def accessError (off : Nat) (wide write : Bool) : Nat :=
  if (if wide then off % 8 else off % 4) != 0 then 2
  else if !wide && 0x400000 ≤ off && off < 0x580000 then 1
  else if write && 0xC00000 ≤ off then 3
  else 0

/-- A host access error counted (R410). -/
def State.hostError (s : State) (off kind : Nat) : State :=
  (((s.setF MYB_HOSTERR_KIND 0 kind).setF MYB_HOSTERR_LAST 0 off).incF MYB_HOSTERR_COUNT 0).raise vecHostErr

/-- All ones across the width of an access (R14). -/
def onesOf (wide : Bool) : Word := if wide then BitVec.allOnes 64 else 0x00000000FFFFFFFF

/-- REGISTER_WRITE: a host write of a register, or of one half of it. -/
def execRegisterWrite (off : BitVec 24) (lanes : Lanes) (data : Word) (s : State) : Res :=
  let kind := accessError off.toNat (lanes == .full) true
  if off.toNat % 8 != 0 then s.hostDoes true (s.hostError off.toNat 2)
  else if kind != 0 then s.hostDoes true (s.hostError (off.toNat + if lanes == .hi then 4 else 0) kind)
  else s.hostDoes true (s.writeOff off.toNat lanes data)

/-- HOST_ACCESS_ERROR: an access that is refused; a read of it returns all ones. -/
def execHostAccessError (off : BitVec 24) (wide write : Bool) (s : State) : Res :=
  let kind := accessError off.toNat wide write
  if write then s.hostDoes (kind != 0) (s.hostError off.toNat kind)
  else s.hostReads (kind != 0) { s.hostError off.toNat kind with hostResp := some (onesOf wide) }

/-- TENANT_PAGE_READ: the word or half word at an offset of tenant `t`'s page. -/
def execTenantPageRead (t off : Nat) (wide : Bool) (s : State) : Res :=
  let a := 0xC00000 + 65536 * t + off
  s.hostReadsPart (decide (t < 64) && decide (off < 65536) && accessError a wide false == 0) (if wide then .full else .lo)
    (s.readWindow a wide).1 s

/-! ### Loads and stores of a context (R92 to R94, R136 to R138) -/

/-- A context of tenant `t` may read an offset (R93, R423). -/
def State.mayRead (s : State) (t off : Nat) : Bool :=
  t == s.sysTenant ||
    (decide (0x010000 ≤ off) && decide (off < 0x020000)) ||
    (decide (0x021000 + 0x100 * t ≤ off) && decide (off < 0x021100 + 0x100 * t)) ||
    (decide (0x028000 ≤ off) && decide (off < 0x02C000) && s.ownerOf ((off - 0x028000) / 64) == some t) ||
    (decide (0x02C000 + 0x100 * t ≤ off) && decide (off < 0x02C100 + 0x100 * t)) ||
    (decide (0x400000 ≤ off) && decide (off < 0x448000) && s.countable t ((off - 0x400000) / 8)) ||
    (decide (0x480000 ≤ off) && decide (off < 0x4C8000) && s.countable t ((off - 0x480000) / 8)) ||
    (decide (0x500000 ≤ off) && decide (off < 0x560000) && s.readReach t ((off - 0x500000) / 8 % 16384)) ||
    (decide (0xC00000 + 65536 * t ≤ off) && decide (off < 0xC10000 + 65536 * t))

/-- A context of tenant `t` may write an offset (R93). -/
def State.mayWrite (s : State) (t off : Nat) : Bool :=
  t == s.sysTenant && ((decide (0x010000 ≤ off) && decide (off < 0x020000)) || (decide (0x0A7000 ≤ off) && decide (off < 0x0A8000)))

/-- An access of `n` bytes is one that the register window takes (R137). -/
def widthOk (off n : Nat) : Bool := n == 8 || (n == 4 && !(decide (0x400000 ≤ off) && decide (off < 0x580000)))

/-- A loaded value of `n` bytes extended under SX (R136). -/
def extend (sx : Bool) (n v : Nat) : Word :=
  if sx then (BitVec.ofInt 64 ((BitVec.ofNat (8 * n) v).toInt)) else BitVec.ofNat 64 v

/-- The targets of R92. -/
inductive Target where
  | scratch (a : Nat)
  | window (off : Nat)
  | space (va : Nat)
  | none
  deriving DecidableEq, Repr

/-- The target of address `a` for context `c`. -/
def State.targetOf (s : State) (c a : Nat) : Target :=
  if a < s.scrLen c then .scratch a
  else if 2 ^ 32 ≤ a && a < 2 ^ 32 + 2 ^ 24 then .window (a - 2 ^ 32)
  else if 2 ^ 48 ≤ a && a < 2 ^ 49 then .space (a - 2 ^ 48)
  else .none

/-- LD goes on with a value. -/
def State.loaded (s : State) (c : Nat) (f : FmtM) (n v : Nat) : Exec := (s.writeG c f.rd (extend f.sx n v)).goOn c

/-- LD at address `a` with `n` bytes. -/
def State.load_ (s : State) (c : Nat) (f : FmtM) (a n : Nat) : Exec :=
  let t := s.tenantOf c
  if a % n != 0 then .trap 0x0003 a s
  else match s.targetOf c a with
    | .scratch x => s.loaded c f n (leNat (s.scrBytes c x n))
    | .window off =>
      if !widthOk off n || !s.mayRead t off then .trap 0x0004 a s
      else
        let (v, s1) := s.readWindow off (n == 8)
        s1.loaded c f n v.toNat
    | .space va =>
      match s.xlRead t va n false with
      | .ok bs => s.loaded c f n (leNat bs)
      | .error 7 => .trap 0x0006 va s
      | .error _ => .trap 0x0005 va s
    | .none => .trap 0x0004 a s

/-- ST of the low `n` bytes of `v` at address `a`. A store that meets an uncorrectable memory error goes on, and its error is reported
later (R138). -/
def State.store_ (s : State) (c a n : Nat) (v : Word) : Exec :=
  let t := s.tenantOf c
  let bs := leBytes n v.toNat
  if a % n != 0 then .trap 0x0003 a s
  else match s.targetOf c a with
    | .scratch x => (s.scrWrite c x bs).goOn c
    | .window off =>
      if !widthOk off n || !s.mayWrite t off then .trap 0x0004 a s
      else if n == 8 then (s.writeOff off .full v).goOn c
      else if off % 8 == 0 then (s.writeOff off .lo (v &&& 0x00000000FFFFFFFF)).goOn c
      else (s.writeOff (off - 4) .hi (v <<< 32)).goOn c
    | .space va =>
      match s.translate t va n true false with
      | .ok p =>
        let s1 := s.outWrite p bs
        if s.outBad p.hostMem p.addr n then
          (s1.setCtx c { s1.ctx c with lateErrs := (s1.ctx c).lateErrs ++ [va] }).goOn c
        else s1.goOn c
      | .error 7 => .trap 0x0006 va s
      | .error _ => .trap 0x0005 va s
    | .none => .trap 0x0004 a s

/-- The address of a format-M instruction: ra + immediate, modulo 2^64. -/
def Ctx.addr (x : Ctx) (f : FmtM) : Nat := (x.gr f.ra + immM x.high f.imm).toNat

/-- LD (R136). -/
def execLd (c : Nat) (f : FmtM) (s : State) : Res :=
  s.issue c 1 (encM 0x14 f) false true (fun s1 => s1.load_ c f ((s1.ctx c).addr f) (2 ^ f.size.toNat))

/-- ST (R136). -/
def execSt (c : Nat) (f : FmtM) (s : State) : Res :=
  s.issue c 1 (encM 0x15 f) f.sx true (fun s1 => s1.store_ c ((s1.ctx c).addr f) (2 ^ f.size.toNat) ((s1.ctx c).gr f.rd))

end Sys2Proof.Machine
end

