-- ==== Sys2Proof/Machine/Dispatch.lean ====
section
/-! DEFINITION. The dispatch of the commands: one arm for each constructor, one direct call of its meaning. -/

namespace Sys2Proof.Machine

/-- The effect of a command on everything but the queue. -/
def exec (i : Instr) (s : State) : Host.Outcome State Fault Refusal :=
  match i with
  | .registerWrite off lanes data => Sys2Proof.Machine.execRegisterWrite off lanes data s
  | .hostAccessError off wide write => Sys2Proof.Machine.execHostAccessError off wide write s
  | .blkidLock data => Sys2Proof.Machine.execBlkidLock data s
  | .unitMapOut kind n => Sys2Proof.Machine.execUnitMapOut kind n s
  | .tick => Sys2Proof.Machine.execTick s
  | .tbRun data => Sys2Proof.Machine.execTbRun data s
  | .timeStart => Sys2Proof.Machine.execTimeStart s
  | .tbIncrWrite data => Sys2Proof.Machine.execTbIncrWrite data s
  | .incrChangeEffect => Sys2Proof.Machine.execIncrChangeEffect s
  | .projectionCommit data => Sys2Proof.Machine.execProjectionCommit data s
  | .projectionCancel data => Sys2Proof.Machine.execProjectionCancel data s
  | .projectionEffect => Sys2Proof.Machine.execProjectionEffect s
  | .stepEffect => Sys2Proof.Machine.execStepEffect s
  | .historyEntryExpire => Sys2Proof.Machine.execHistoryEntryExpire s
  | .qualityWrite data => Sys2Proof.Machine.execQualityWrite data s
  | .holdEnter data => Sys2Proof.Machine.execHoldEnter data s
  | .holdExit data => Sys2Proof.Machine.execHoldExit data s
  | .holdTimerExpire => Sys2Proof.Machine.execHoldTimerExpire s
  | .pathGenChange port cls => Sys2Proof.Machine.execPathGenChange port cls s
  | .linkDlyWrite slot lanes data => Sys2Proof.Machine.execLinkDlyWrite slot lanes data s
  | .ppsPulse => Sys2Proof.Machine.execPpsPulse s
  | .ppsPulseEnd => Sys2Proof.Machine.execPpsPulseEnd s
  | .timeWord bad => Sys2Proof.Machine.execTimeWord bad s
  | .timeWordLoss tile => Sys2Proof.Machine.execTimeWordLoss tile s
  | .snapRead lanes => Sys2Proof.Machine.execSnapRead lanes s
  | .ptpRx port raw frac frame => Sys2Proof.Machine.execPtpRx port raw frac frame s
  | .rxRingHeadWrite data => Sys2Proof.Machine.execRxRingHeadWrite data s
  | .txPost data => Sys2Proof.Machine.execTxPost data s
  | .txWithdraw data => Sys2Proof.Machine.execTxWithdraw data s
  | .txDepart slot raw frac => Sys2Proof.Machine.execTxDepart slot raw frac s
  | .sgArm data => Sys2Proof.Machine.execSgArm data s
  | .sgCancel data => Sys2Proof.Machine.execSgCancel data s
  | .gateFire gate scheduled waiting => Sys2Proof.Machine.execGateFire gate scheduled waiting s
  | .gateDelayedLaunch gate delayNs => Sys2Proof.Machine.execGateDelayedLaunch gate delayNs s
  | .egressOpenExpire port queue => Sys2Proof.Machine.execEgressOpenExpire port queue s
  | .timerFire c timer => Sys2Proof.Machine.execTimerFire c timer s
  | .ctxMaskWrite t j data => Sys2Proof.Machine.execCtxMaskWrite t j data s
  | .tnGatesWrite t data => Sys2Proof.Machine.execTnGatesWrite t data s
  | .activate t => Sys2Proof.Machine.execActivate t s
  | .preempt t => Sys2Proof.Machine.execPreempt t s
  | .preemptQuiesced t => Sys2Proof.Machine.execPreemptQuiesced t s
  | .chrysalisTrailerWritten t => Sys2Proof.Machine.execChrysalisTrailerWritten t s
  | .chrysalisFault t cause va => Sys2Proof.Machine.execChrysalisFault t cause va s
  | .retrySave t => Sys2Proof.Machine.execRetrySave t s
  | .restore t hold => Sys2Proof.Machine.execRestore t hold s
  | .restoreImageLoaded t => Sys2Proof.Machine.execRestoreImageLoaded t s
  | .restoreFault t cause va => Sys2Proof.Machine.execRestoreFault t cause va s
  | .release t => Sys2Proof.Machine.execRelease t s
  | .tenantReset t => Sys2Proof.Machine.execTenantReset t s
  | .tenantResetComplete t => Sys2Proof.Machine.execTenantResetComplete t s
  | .loaderGo data => Sys2Proof.Machine.execLoaderGo data s
  | .loadHeaderRead => Sys2Proof.Machine.execLoadHeaderRead s
  | .loadComplete => Sys2Proof.Machine.execLoadComplete s
  | .loadFault cause va pos => Sys2Proof.Machine.execLoadFault cause va pos s
  | .loaderResume data => Sys2Proof.Machine.execLoaderResume data s
  | .loaderAbandon data => Sys2Proof.Machine.execLoaderAbandon data s
  | .mbAck m data => Sys2Proof.Machine.execMbAck m data s
  | .mbHdrRead m lanes => Sys2Proof.Machine.execMbHdrRead m lanes s
  | .storeMemerrReport c => Sys2Proof.Machine.execStoreMemerrReport c s
  | .add c f => Sys2Proof.Machine.execAdd c f s
  | .sub c f => Sys2Proof.Machine.execSub c f s
  | .and c f => Sys2Proof.Machine.execAnd c f s
  | .or c f => Sys2Proof.Machine.execOr c f s
  | .xor c f => Sys2Proof.Machine.execXor c f s
  | .andn c f => Sys2Proof.Machine.execAndn c f s
  | .sll c f => Sys2Proof.Machine.execSll c f s
  | .srl c f => Sys2Proof.Machine.execSrl c f s
  | .sra c f => Sys2Proof.Machine.execSra c f s
  | .ror c f => Sys2Proof.Machine.execRor c f s
  | .clz c f => Sys2Proof.Machine.execClz c f s
  | .ctz c f => Sys2Proof.Machine.execCtz c f s
  | .popc c f => Sys2Proof.Machine.execPopc c f s
  | .min c f => Sys2Proof.Machine.execMin c f s
  | .max c f => Sys2Proof.Machine.execMax c f s
  | .minu c f => Sys2Proof.Machine.execMinu c f s
  | .maxu c f => Sys2Proof.Machine.execMaxu c f s
  | .sext c f => Sys2Proof.Machine.execSext c f s
  | .zext c f => Sys2Proof.Machine.execZext c f s
  | .bswap c f => Sys2Proof.Machine.execBswap c f s
  | .mul c f => Sys2Proof.Machine.execMul c f s
  | .mulhu c f => Sys2Proof.Machine.execMulhu c f s
  | .mulh c f => Sys2Proof.Machine.execMulh c f s
  | .divu c f => Sys2Proof.Machine.execDivu c f s
  | .remu c f => Sys2Proof.Machine.execRemu c f s
  | .div c f => Sys2Proof.Machine.execDiv c f s
  | .rem c f => Sys2Proof.Machine.execRem c f s
  | .eq c f => Sys2Proof.Machine.execEq c f s
  | .ne c f => Sys2Proof.Machine.execNe c f s
  | .lt c f => Sys2Proof.Machine.execLt c f s
  | .ge c f => Sys2Proof.Machine.execGe c f s
  | .ltu c f => Sys2Proof.Machine.execLtu c f s
  | .geu c f => Sys2Proof.Machine.execGeu c f s
  | .tst c f => Sys2Proof.Machine.execTst c f s
  | .tstz c f => Sys2Proof.Machine.execTstz c f s
  | .feq c f => Sys2Proof.Machine.execFeq c f s
  | .flt c f => Sys2Proof.Machine.execFlt c f s
  | .fle c f => Sys2Proof.Machine.execFle c f s
  | .funord c f => Sys2Proof.Machine.execFunord c f s
  | .pand c f => Sys2Proof.Machine.execPand c f s
  | .por c f => Sys2Proof.Machine.execPor c f s
  | .pxor c f => Sys2Proof.Machine.execPxor c f s
  | .pandn c f => Sys2Proof.Machine.execPandn c f s
  | .sel c f => Sys2Proof.Machine.execSel c f s
  | .prd c f => Sys2Proof.Machine.execPrd c f s
  | .pwr c f => Sys2Proof.Machine.execPwr c f s
  | .fadd c f => Sys2Proof.Machine.execFadd c f s
  | .fsub c f => Sys2Proof.Machine.execFsub c f s
  | .fmul c f => Sys2Proof.Machine.execFmul c f s
  | .ffma c f => Sys2Proof.Machine.execFfma c f s
  | .fmin c f => Sys2Proof.Machine.execFmin c f s
  | .fmax c f => Sys2Proof.Machine.execFmax c f s
  | .fabs c f => Sys2Proof.Machine.execFabs c f s
  | .fneg c f => Sys2Proof.Machine.execFneg c f s
  | .fcvtSL c f => Sys2Proof.Machine.execFcvtSL c f s
  | .fcvtLS c f => Sys2Proof.Machine.execFcvtLS c f s
  | .fcvtBfS c f => Sys2Proof.Machine.execFcvtBfS c f s
  | .fcvtSBf c f => Sys2Proof.Machine.execFcvtSBf c f s
  | .fcvtE4S c f => Sys2Proof.Machine.execFcvtE4S c f s
  | .fcvtE5S c f => Sys2Proof.Machine.execFcvtE5S c f s
  | .fcvtSE4 c f => Sys2Proof.Machine.execFcvtSE4 c f s
  | .fcvtSE5 c f => Sys2Proof.Machine.execFcvtSE5 c f s
  | .jmpr c f => Sys2Proof.Machine.execJmpr c f s
  | .addi c f => Sys2Proof.Machine.execAddi c f s
  | .andi c f => Sys2Proof.Machine.execAndi c f s
  | .ori c f => Sys2Proof.Machine.execOri c f s
  | .xori c f => Sys2Proof.Machine.execXori c f s
  | .shi c f => Sys2Proof.Machine.execShi c f s
  | .cmpi c f => Sys2Proof.Machine.execCmpi c f s
  | .cmpiu c f => Sys2Proof.Machine.execCmpiu c f s
  | .br c f => Sys2Proof.Machine.execBr c f s
  | .call c f => Sys2Proof.Machine.execCall c f s
  | .ld c f => Sys2Proof.Machine.execLd c f s
  | .st c f => Sys2Proof.Machine.execSt c f s
  | .l c imm => Sys2Proof.Machine.execL c imm s
  | .rdtime c f => Sys2Proof.Machine.execRdtime c f s
  | .rdctr c f => Sys2Proof.Machine.execRdctr c f s
  | .emit c f => Sys2Proof.Machine.execEmit c f s
  | .deq c f => Sys2Proof.Machine.execDeq c f s
  | .peek c f => Sys2Proof.Machine.execPeek c f s
  | .depstat c f => Sys2Proof.Machine.execDepstat c f s
  | .scadd c f => Sys2Proof.Machine.execScadd c f s
  | .scwait c f => Sys2Proof.Machine.execScwait c f s
  | .scwaitComplete c => Sys2Proof.Machine.execScwaitComplete c s
  | .scrd c f => Sys2Proof.Machine.execScrd c f s
  | .atarm c f => Sys2Proof.Machine.execAtarm c f s
  | .atcan c f => Sys2Proof.Machine.execAtcan c f s
  | .harvest c f => Sys2Proof.Machine.execHarvest c f s
  | .seal c f => Sys2Proof.Machine.execSeal c f s
  | .void c f => Sys2Proof.Machine.execVoid c f s
  | .hist c f => Sys2Proof.Machine.execHist c f s
  | .sketch c f => Sys2Proof.Machine.execSketch c f s
  | .tlaunch c f => Sys2Proof.Machine.execTlaunch c f s
  | .twait c f => Sys2Proof.Machine.execTwait c f s
  | .mbpost c f => Sys2Proof.Machine.execMbpost c f s
  | .fence c f => Sys2Proof.Machine.execFence c f s
  | .yield c f => Sys2Proof.Machine.execYield c f s
  | .halt c f => Sys2Proof.Machine.execHalt c f s
  | .trap c f => Sys2Proof.Machine.execTrap c f s
  | .antennaFlush a => Sys2Proof.Machine.execAntennaFlush a s
  | .flushApply tile => Sys2Proof.Machine.execFlushApply tile s
  | .liveRead j => Sys2Proof.Machine.execLiveRead j s
  | .counterPreset j data => Sys2Proof.Machine.execCounterPreset j data s
  | .harvestRequest data => Sys2Proof.Machine.execHarvestRequest data s
  | .harvestTick number => Sys2Proof.Machine.execHarvestTick number s
  | .harvestLatch tile => Sys2Proof.Machine.execHarvestLatch tile s
  | .harvestExchange => Sys2Proof.Machine.execHarvestExchange s
  | .rakePeriod => Sys2Proof.Machine.execRakePeriod s
  | .rakeHeadWrite data => Sys2Proof.Machine.execRakeHeadWrite data s
  | .anTagWrite a data => Sys2Proof.Machine.execAnTagWrite a data s
  | .portReconfigure first width => Sys2Proof.Machine.execPortReconfigure first width s
  | .packetIngress port raw frac => Sys2Proof.Machine.execPacketIngress port raw frac s
  | .taggedPacketEnd port info => Sys2Proof.Machine.execTaggedPacketEnd port info s
  | .queueSample port lo peak peaks => Sys2Proof.Machine.execQueueSample port lo peak peaks s
  | .portSampleInterval port => Sys2Proof.Machine.execPortSampleInterval port s
  | .slotSummaryInterval port => Sys2Proof.Machine.execSlotSummaryInterval port s
  | .antennaRecordIngest tile => Sys2Proof.Machine.execAntennaRecordIngest tile s
  | .tracePacket p => Sys2Proof.Machine.execTracePacket p s
  | .seqGapLossTick => Sys2Proof.Machine.execSeqGapLossTick s
  | .creditGrant => Sys2Proof.Machine.execCreditGrant s
  | .htAddrWrite j data => Sys2Proof.Machine.execHtAddrWrite j data s
  | .tsRunStart t data => Sys2Proof.Machine.execTsRunStart t data s
  | .tsRunStop t data => Sys2Proof.Machine.execTsRunStop t data s
  | .tsForce t data => Sys2Proof.Machine.execTsForce t data s
  | .tsManual t data => Sys2Proof.Machine.execTsManual t data s
  | .sequencerEvaluate t => Sys2Proof.Machine.execSequencerEvaluate t s
  | .scPartWrite t data => Sys2Proof.Machine.execScPartWrite t data s
  | .scHostadd data => Sys2Proof.Machine.execScHostadd data s
  | .scCheck data => Sys2Proof.Machine.execScCheck data s
  | .scFlagclr data => Sys2Proof.Machine.execScFlagclr data s
  | .watchArm w data => Sys2Proof.Machine.execWatchArm w data s
  | .watchDisarm w data => Sys2Proof.Machine.execWatchDisarm w data s
  | .lgLoad t => Sys2Proof.Machine.execLgLoad t s
  | .lgRun t => Sys2Proof.Machine.execLgRun t s
  | .lgRunTimed t => Sys2Proof.Machine.execLgRunTimed t s
  | .lgHold t => Sys2Proof.Machine.execLgHold t s
  | .lgHoldAtPass t => Sys2Proof.Machine.execLgHoldAtPass t s
  | .lgHoldStopAtPass t => Sys2Proof.Machine.execLgHoldStopAtPass t s
  | .lgRelease t => Sys2Proof.Machine.execLgRelease t s
  | .lgStop t => Sys2Proof.Machine.execLgStop t s
  | .ledgerEntryPrefetch t => Sys2Proof.Machine.execLedgerEntryPrefetch t s
  | .phaseAccumFlush tile => Sys2Proof.Machine.execPhaseAccumFlush tile s
  | .phaseFlushApply tile => Sys2Proof.Machine.execPhaseFlushApply tile s
  | .ledgerEvaluate t => Sys2Proof.Machine.execLedgerEvaluate t s
  | .phaseShortTimeout t phase => Sys2Proof.Machine.execPhaseShortTimeout t phase s
  | .phaseGiveup t phase => Sys2Proof.Machine.execPhaseGiveup t phase s
  | .phaseSettleExpire t phase => Sys2Proof.Machine.execPhaseSettleExpire t phase s
  | .linkFailure port => Sys2Proof.Machine.execLinkFailure port s
  | .recordAppend r => Sys2Proof.Machine.execRecordAppend r s
  | .qcfgWrite data => Sys2Proof.Machine.execQcfgWrite data s
  | .queueReset data => Sys2Proof.Machine.execQueueReset data s
  | .freeze data => Sys2Proof.Machine.execFreeze data s
  | .thaw data => Sys2Proof.Machine.execThaw data s
  | .qmBankMapout data => Sys2Proof.Machine.execQmBankMapout data s
  | .scrubWalkStart => Sys2Proof.Machine.execScrubWalkStart s
  | .scrubWalkEnd => Sys2Proof.Machine.execScrubWalkEnd s
  | .spillStart t => Sys2Proof.Machine.execSpillStart t s
  | .spillComplete t => Sys2Proof.Machine.execSpillComplete t s
  | .drainStart t => Sys2Proof.Machine.execDrainStart t s
  | .drainComplete t => Sys2Proof.Machine.execDrainComplete t s
  | .spPeakClear t data => Sys2Proof.Machine.execSpPeakClear t data s
  | .xlInvalidate data => Sys2Proof.Machine.execXlInvalidate data s
  | .xlInvComplete => Sys2Proof.Machine.execXlInvComplete s
  | .dmaFault t k cause va => Sys2Proof.Machine.execDmaFault t k cause va s
  | .dsResume t k => Sys2Proof.Machine.execDsResume t k s
  | .dsAbandon t k => Sys2Proof.Machine.execDsAbandon t k s
  | .wnEnSet t data => Sys2Proof.Machine.execWnEnSet t data s
  | .wnEnClear t data => Sys2Proof.Machine.execWnEnClear t data s
  | .wnSeal t data => Sys2Proof.Machine.execWnSeal t data s
  | .wnVoid t data => Sys2Proof.Machine.execWnVoid t data s
  | .windowNaturalEnd t => Sys2Proof.Machine.execWindowNaturalEnd t s
  | .windowCap t => Sys2Proof.Machine.execWindowCap t s
  | .voidSettle t => Sys2Proof.Machine.execVoidSettle t s
  | .lossTallyTimeout source => Sys2Proof.Machine.execLossTallyTimeout source s
  | .lossReoffer => Sys2Proof.Machine.execLossReoffer s
  | .exportTake q => Sys2Proof.Machine.execExportTake q s
  | .frameFlushTimeout t cls => Sys2Proof.Machine.execFrameFlushTimeout t cls s
  | .frameStart p => Sys2Proof.Machine.execFrameStart p s
  | .frameEnd p => Sys2Proof.Machine.execFrameEnd p s
  | .pfcReceive p mask quanta => Sys2Proof.Machine.execPfcReceive p mask quanta s
  | .pauseExpire p prio => Sys2Proof.Machine.execPauseExpire p prio s
  | .returnFrame p dmac hdr => Sys2Proof.Machine.execReturnFrame p dmac hdr s
  | .exportRxOther p => Sys2Proof.Machine.execExportRxOther p s
  | .creditTimeout t => Sys2Proof.Machine.execCreditTimeout t s
  | .shedEvaluate => Sys2Proof.Machine.execShedEvaluate s
  | .exportLaneFailure lane => Sys2Proof.Machine.execExportLaneFailure lane s
  | .portTrained p => Sys2Proof.Machine.execPortTrained p s
  | .exportEnable data => Sys2Proof.Machine.execExportEnable data s
  | .exportDisable data => Sys2Proof.Machine.execExportDisable data s
  | .launchStart u => Sys2Proof.Machine.execLaunchStart u s
  | .launchComplete u => Sys2Proof.Machine.execLaunchComplete u s
  | .verdictEntry t => Sys2Proof.Machine.execVerdictEntry t s
  | .modelLoad t m => Sys2Proof.Machine.execModelLoad t m s
  | .modelUnload t m => Sys2Proof.Machine.execModelUnload t m s
  | .modelCopyComplete t m => Sys2Proof.Machine.execModelCopyComplete t m s
  | .weightStoreMemerr t m => Sys2Proof.Machine.execWeightStoreMemerr t m s
  | .cadenceRecompute => Sys2Proof.Machine.execCadenceRecompute s
  | .leasePeriodEnd => Sys2Proof.Machine.execLeasePeriodEnd s
  | .lsView j data => Sys2Proof.Machine.execLsView j data s
  | .lsDecide j data => Sys2Proof.Machine.execLsDecide j data s
  | .governorRefill => Sys2Proof.Machine.execGovernorRefill s
  | .gvLevelWrite t data => Sys2Proof.Machine.execGvLevelWrite t data s
  | .pairEnable data => Sys2Proof.Machine.execPairEnable data s
  | .pairDisable data => Sys2Proof.Machine.execPairDisable data s
  | .prLeave data => Sys2Proof.Machine.execPrLeave data s
  | .prYield data => Sys2Proof.Machine.execPrYield data s
  | .prTake data => Sys2Proof.Machine.execPrTake data s
  | .prAdmit data => Sys2Proof.Machine.execPrAdmit data s
  | .beatSend => Sys2Proof.Machine.execBeatSend s
  | .beatReceive b => Sys2Proof.Machine.execBeatReceive b s
  | .beatPeriodEnd => Sys2Proof.Machine.execBeatPeriodEnd s
  | .mirrorFrameReceive fr => Sys2Proof.Machine.execMirrorFrameReceive fr s
  | .mirrorRetransmit => Sys2Proof.Machine.execMirrorRetransmit s
  | .mirrorFrameClose => Sys2Proof.Machine.execMirrorFrameClose s
  | .mirrorTime offset incr epoch quality effect => Sys2Proof.Machine.execMirrorTime offset incr epoch quality effect s
  | .mirrorScAdd counter amount expAmount => Sys2Proof.Machine.execMirrorScAdd counter amount expAmount s
  | .mirrorLedger t state pass next pbase epoch boundary => Sys2Proof.Machine.execMirrorLedger t state pass next pbase epoch boundary s
  | .mirrorWindow t cur next wnCfg => Sys2Proof.Machine.execMirrorWindow t cur next wnCfg s
  | .mirrorTenant t state tnCfg stream request => Sys2Proof.Machine.execMirrorTenant t state tnCfg stream request s
  | .mirrorHome entry addr cred live jobView expelSent written => Sys2Proof.Machine.execMirrorHome entry addr cred live jobView expelSent written s
  | .mirrorGovCharge t tokens spares => Sys2Proof.Machine.execMirrorGovCharge t tokens spares s
  | .mirrorGovState t level spare => Sys2Proof.Machine.execMirrorGovState t level spare s
  | .mirrorSoft offset lo hi => Sys2Proof.Machine.execMirrorSoft offset lo hi s
  | .mirrorSnapBegin number => Sys2Proof.Machine.execMirrorSnapBegin number s
  | .mirrorSnapEnd number count => Sys2Proof.Machine.execMirrorSnapEnd number count s
  | .mirrorScState counter value exp flags lost => Sys2Proof.Machine.execMirrorScState counter value exp flags lost s
  | .mirrorAdmit instant epoch => Sys2Proof.Machine.execMirrorAdmit instant epoch s
  | .mirrorLeave => Sys2Proof.Machine.execMirrorLeave s
  | .admissionInstant => Sys2Proof.Machine.execAdmissionInstant s
  | .mirrorLaneFailure lane => Sys2Proof.Machine.execMirrorLaneFailure lane s
  | .resetAssert pwrOk chipRstN => Sys2Proof.Machine.execResetAssert pwrOk chipRstN s
  | .blockReset data => Sys2Proof.Machine.execBlockReset data s
  | .blockResetRelease => Sys2Proof.Machine.execBlockResetRelease s
  | .blockReady => Sys2Proof.Machine.execBlockReady s
  | .refLost => Sys2Proof.Machine.execRefLost s
  | .bistGo data => Sys2Proof.Machine.execBistGo data s
  | .bistDone r => Sys2Proof.Machine.execBistDone r s
  | .irqMaskWrite j data => Sys2Proof.Machine.execIrqMaskWrite j data s
  | .microsecondTick => Sys2Proof.Machine.execMicrosecondTick s
  | .pmGrant units => Sys2Proof.Machine.execPmGrant units s
  | .pmCut units cyclesLeft => Sys2Proof.Machine.execPmCut units cyclesLeft s
  | .sensorSampleStart => Sys2Proof.Machine.execSensorSampleStart s
  | .sensorSampleEnd reply => Sys2Proof.Machine.execSensorSampleEnd reply s
  | .tenantPageRead t off wide => Sys2Proof.Machine.execTenantPageRead t off wide s
  | .antennaEvent a e => Sys2Proof.Machine.execAntennaEvent a e s
  | .chipEvent n => Sys2Proof.Machine.execChipEvent n s
  | .packetDelivered port tag bytes raw frac => Sys2Proof.Machine.execPacketDelivered port tag bytes raw frac s
  | .harvestImageComplete => Sys2Proof.Machine.execHarvestImageComplete s
  | .rakeEntryComplete => Sys2Proof.Machine.execRakeEntryComplete s
  | .pllRelock => Sys2Proof.Machine.execPllRelock s

end Sys2Proof.Machine
end

