-- ==== Sys2Proof/Safety.lean ====
section
/-! DEFINITION. The terms in which statements speak: what a command leaves unchanged, the canonical form of the state, the states in
which the block works, and when a context's instruction issues. -/

namespace Sys2Proof.Machine

/-! ### What a command leaves unchanged -/

/-- The parts of the state beside the registers and the waiting commands. -/
inductive Part where
  | time | qm | win | ex | ctxs | cores | mbox | load | saves | restores | taps | funnel | seqrs | ledgers | watches
  | salt | host | memBad | imago | leases | mtx | pair | board | us | inReset | out | hostResp | freeCtr
  deriving DecidableEq, Repr

/-- The part holds the same in both states. -/
def Part.same (s t : State) : Part → Prop
  | .time => t.time = s.time
  | .qm => t.qm = s.qm
  | .win => t.win = s.win
  | .ex => t.ex = s.ex
  | .ctxs => t.ctxs = s.ctxs
  | .cores => t.cores = s.cores
  | .mbox => t.mbox = s.mbox
  | .load => t.load = s.load
  | .saves => t.saves = s.saves
  | .restores => t.restores = s.restores
  | .taps => t.taps = s.taps
  | .funnel => t.funnel = s.funnel
  | .seqrs => t.seqrs = s.seqrs
  | .ledgers => t.ledgers = s.ledgers
  | .watches => t.watches = s.watches
  | .salt => t.salt = s.salt
  | .host => t.host = s.host
  | .memBad => t.memBad = s.memBad
  | .imago => t.imago = s.imago
  | .leases => t.leases = s.leases
  | .mtx => t.mtx = s.mtx
  | .pair => t.pair = s.pair
  | .board => t.board = s.board
  | .us => t.us = s.us
  | .inReset => t.inReset = s.inReset
  | .out => t.out = s.out
  | .hostResp => t.hostResp = s.hostResp
  | .freeCtr => t.freeCtr = s.freeCtr

/-- A place in the register file: bits `[hi:lo]` of one entry of a register, or of every entry. -/
structure Spot where
  reg : Reg
  entry : Option Nat
  hi : Nat := 63
  lo : Nat := 0
  deriving DecidableEq, Repr

/-- A field of entry `i`. -/
def Fld.at_ (f : Fld) (i : Nat) : Spot := ⟨f.reg, some i, f.hi, f.lo⟩

/-- A field of every entry. -/
def Fld.all (f : Fld) : Spot := ⟨f.reg, none, f.hi, f.lo⟩

/-- The whole of entry `i` of a register. -/
def Reg.at_ (r : Reg) (i : Nat) : Spot := ⟨r, some i, 63, 0⟩

/-- Every entry of a register. -/
def Reg.all (r : Reg) : Spot := ⟨r, none, 63, 0⟩

/-- Bit `b` of entry `i` of `r` lies in the place. -/
def Spot.has (p : Spot) (r : Reg) (i b : Nat) : Bool :=
  decide (p.reg = r) && p.entry.all (· == i) && decide (p.lo ≤ b) && decide (b ≤ p.hi)

/-- From `s` to `t` nothing changes but the listed places of the register file and the listed parts of the state; what waits in the
command queue stays. -/
structure Only (ws : List Spot) (ps : List Part) (s t : State) : Prop where
  regs : ∀ r i b, (∀ p ∈ ws, p.has r i b = false) → (t.getReg r i).getLsbD b = (s.getReg r i).getLsbD b
  parts : ∀ p, p ∉ ps → p.same s t
  pending : t.pending = s.pending

/-- The command `c` completes in `s`: it answers a next state that satisfies `post` and that differs from `s` in the listed places and parts
alone. -/
def Does (c : Instr) (s : State) (ws : List Spot) (ps : List Part) (post : State → Prop) : Prop :=
  ∃ t, exec c s = .next t ∧ Only ws ps s t ∧ post t

/-- The command `c` has no effect in `s`: it answers `s` itself. -/
def Idle (c : Instr) (s : State) : Prop := exec c s = .next s

/-- Some listed place covers a field of entry `i`. -/
def lists (ws : List Spot) (f : Fld) (i : Nat) : Bool :=
  ws.any (fun p => decide (p.reg = f.reg) && p.entry.all (· == i) && decide (p.lo ≤ f.lo) && decide (f.hi ≤ p.hi))

/-! ### What shared effects may change -/

/-- What a count may change: the central counters and their overflow bits (R175, R177). -/
def counterSpots : List Spot := [Reg.all .CTR_LIVE, Reg.all .CTR_OVF]

/-- What the offer of a record to the queue manager may change (R281 to R298, R327 to R329, R342): COUNT and the flags of queues, cells
and shares, refusals and sheds, the counters of block events. -/
def formSpots : List Spot :=
  [ EX_SHSTAT_SHED.all, QM_ERR_POOL.all, QM_ERR_QERR.all, QM_POOL_FREE.all, QM_QSTAT_COUNT.all, QM_QSTAT_FROZEN.all,
    QM_QSTAT_INCARN.all, QM_QSTAT_MARK_LOST.all, QM_QSTAT_MARK_SET.all, QM_QSTAT_QERR.all, QM_QSTAT_RESIDENT.all,
    QT_USE_FULL.all, QT_USE_REFUSED.all, QT_USE_RESIDENT.all ] ++ counterSpots

/-- The queues, the window counts and tallies, what a sequencer counts, and the free values drawn. -/
def formParts : List Part := [.freeCtr, .qm, .win, .seqrs]

/-- What raising an interrupt may change (R407): its pending bit, and the message that goes out. -/
def irqSpots : List Spot := [Reg.all .IRQ_PEND]

/-- A tenant's interrupt (R407): its cause bits too. -/
def tenantIrqSpots : List Spot := [Reg.all .IRQ_PEND, Reg.all .IRQ_TCAUSE]

/-! ### The canonical form -/

/-- The register file in canonical form: keys rise strictly, and no entry holds its register's reset value. -/
def regsWf (m : SMap Word) : Prop :=
  m.Pairwise (fun a b => a.1 < b.1) ∧ ∀ (r : Reg) (i : Nat), (r.key i, r.resetVal i) ∉ m

/-- The state is canonical: the register file, the salt pans and host memory list no entry that an unlisted one would stand for, in rising
order (a byte that nothing has written reads 0). -/
def State.Canonical (s : State) : Prop := regsWf s.regs ∧ smWf 0 s.salt = true ∧ smWf 0 s.host = true

/-! ### Instructions -/

/-- Context `c` may issue, its PC lies in its instruction range, and instruction memory holds the word of `i` there (R124). -/
structure Fetches (s : State) (c need : Nat) (i : Instr) : Prop where
  issues : s.canIssue c need = true
  inside : s.pcOut c = false
  word : encodeEhrile i = some (s.fetchWord c)

/-- A context after an instruction that goes on in sequence: PC + 4, the latch empty (R127). -/
def Ctx.next (x : Ctx) : Ctx := { x with pc := x.pc + 4, latch := none }

/-- The instruction `i` of context `c` completes in `s`. After its issue (`State.begin`) it changes the listed places and parts alone and
satisfies `post`; the context is `x` but for its flow trace, and every other context is as before. -/
def Runs (i : Instr) (c : Nat) (s : State) (ws : List Spot) (ps : List Part) (x : Ctx) (post : State → Prop) : Prop :=
  ∃ t, exec i s = .next t ∧ { t.ctx c with flow := {} } = { x with flow := {} } ∧ (∀ d, d ≠ c → t.ctx d = s.ctx d) ∧
    Only ws (.ctxs :: ps) (s.begin c) t ∧ post t

/-- The instruction `i` of context `c` completes in `s` and leaves the context as `x`; nothing else changes after its issue. -/
def Sets (i : Instr) (c : Nat) (s : State) (x : Ctx) : Prop := Runs i c s [] [] x (fun _ => True)

/-- What a trap of context `c` may change (R103, R166, R169). -/
def trapSpots (s : State) (c : Nat) : List Spot :=
  formSpots ++ [CX_TRAP_CAUSE.at_ c, CX_TRAP_INFO.at_ c, CX_STATUS_STATE.at_ c, IRQ_TCAUSE_TRAP.at_ (s.tenantOf c), Reg.all .IRQ_PEND]

/-- The instruction `i` of context `c` traps in `s`: CX_TRAP takes the cause and INFO, the context is TRAPPED and else is `x`, and the tenant's
TRAP cause is set and raised; the places `ws` may change too, and `post` holds. -/
def TrapsWith (i : Instr) (c : Nat) (s : State) (cause info : Nat) (x : Ctx) (ws : List Spot) (post : State → Prop) : Prop :=
  Runs i c s (ws ++ trapSpots s c) (.out :: formParts) x (fun t =>
    t.getF CX_TRAP_CAUSE c = cause ∧ t.getF CX_TRAP_INFO c = info % 2 ^ 48 ∧ t.cxState c = 6 ∧
    t.flag IRQ_TCAUSE_TRAP (s.tenantOf c) = true ∧ t.arrBit .IRQ_PEND (64 + s.tenantOf c) = true ∧ post t)

/-- A trap that changes nothing else: the context stands at the boundary of the instruction (the PC of its L when there is one) with its
registers as before (R167). -/
def Traps (i : Instr) (c : Nat) (s : State) (cause info : Nat) : Prop :=
  TrapsWith i c s cause info { s.ctx c with pc := (s.ctx c).boundary, latch := none } [] (fun _ => True)

end Sys2Proof.Machine
end

