-- ==== Sys2Proof/WellFormed.lean ====
section
/-! DEFINITION. Well-formed commands: every number that names a unit of the block lies in the range that the manual gives that
unit. -/

namespace Sys2Proof

/-- How many units of a kind the block has (R32, R90, R281, R347, R332, R376). -/
def MapKind.limit : MapKind → Nat
  | .core => 64
  | .bank => 64
  | .imago => 4
  | .exportLane => 8
  | .mirrorLane => 2

/-- The command names units that exist. -/
def Instr.wf : Instr → Bool
  | .registerWrite _ _ _ => true
  | .hostAccessError _ _ _ => true
  | .blkidLock _ => true
  | .tick => true
  | .tbRun _ => true
  | .timeStart => true
  | .tbIncrWrite _ => true
  | .incrChangeEffect => true
  | .projectionCommit _ => true
  | .projectionCancel _ => true
  | .projectionEffect => true
  | .stepEffect => true
  | .historyEntryExpire => true
  | .qualityWrite _ => true
  | .holdEnter _ => true
  | .holdExit _ => true
  | .holdTimerExpire => true
  | .ppsPulse => true
  | .ppsPulseEnd => true
  | .snapRead _ => true
  | .rxRingHeadWrite _ => true
  | .txPost _ => true
  | .txWithdraw _ => true
  | .sgArm _ => true
  | .sgCancel _ => true
  | .loaderGo _ => true
  | .loadHeaderRead => true
  | .loadComplete => true
  | .loaderResume _ => true
  | .loaderAbandon _ => true
  | .harvestRequest _ => true
  | .harvestExchange => true
  | .rakePeriod => true
  | .rakeHeadWrite _ => true
  | .seqGapLossTick => true
  | .creditGrant => true
  | .scHostadd _ => true
  | .scCheck _ => true
  | .scFlagclr _ => true
  | .qcfgWrite _ => true
  | .queueReset _ => true
  | .freeze _ => true
  | .thaw _ => true
  | .qmBankMapout _ => true
  | .scrubWalkStart => true
  | .scrubWalkEnd => true
  | .xlInvalidate _ => true
  | .xlInvComplete => true
  | .lossReoffer => true
  | .shedEvaluate => true
  | .exportEnable _ => true
  | .exportDisable _ => true
  | .cadenceRecompute => true
  | .leasePeriodEnd => true
  | .governorRefill => true
  | .pairEnable _ => true
  | .pairDisable _ => true
  | .prLeave _ => true
  | .prYield _ => true
  | .prTake _ => true
  | .prAdmit _ => true
  | .beatSend => true
  | .beatPeriodEnd => true
  | .mirrorFrameReceive _ => true
  | .mirrorRetransmit => true
  | .mirrorFrameClose => true
  | .mirrorTime _ _ _ _ _ => true
  | .mirrorSoft _ _ _ => true
  | .mirrorSnapBegin _ => true
  | .mirrorSnapEnd _ _ => true
  | .mirrorAdmit _ _ => true
  | .mirrorLeave => true
  | .admissionInstant => true
  | .resetAssert _ _ => true
  | .blockReset _ => true
  | .blockResetRelease => true
  | .blockReady => true
  | .refLost => true
  | .bistGo _ => true
  | .bistDone _ => true
  | .microsecondTick => true
  | .sensorSampleStart => true
  | .sensorSampleEnd _ => true
  | .harvestImageComplete => true
  | .rakeEntryComplete => true
  | .pllRelock => true
  | .unitMapOut kind n => decide (n < kind.limit)
  | .pathGenChange port cls => decide (port < 512) && decide (cls < 16)
  | .linkDlyWrite slot _ _ => decide (slot < 512)
  | .timeWord bad => bad.all (fun x => decide (x < 32))
  | .timeWordLoss tile => decide (tile < 32)
  | .flushApply tile => decide (tile < 32)
  | .harvestLatch tile => decide (tile < 32)
  | .antennaRecordIngest tile => decide (tile < 32)
  | .phaseAccumFlush tile => decide (tile < 32)
  | .phaseFlushApply tile => decide (tile < 32)
  | .ptpRx port _ frac _ => decide (port < 512) && decide (frac < 65536)
  | .packetIngress port _ frac => decide (port < 512) && decide (frac < 65536)
  | .packetDelivered port _ _ _ frac => decide (port < 512) && decide (frac < 65536)
  | .txDepart slot _ frac => decide (slot < 128) && decide (frac < 65536)
  | .gateFire gate _ _ => decide (gate < 4096)
  | .gateDelayedLaunch gate _ => decide (gate < 4096)
  | .egressOpenExpire port queue => decide (port < 512) && decide (queue < 8)
  | .timerFire c timer => decide (c < 256) && decide (timer < 4)
  | .ctxMaskWrite t i _ => decide (t < 64) && decide (i < 4)
  | .tnGatesWrite t _ => decide (t < 64)
  | .activate t => decide (t < 64)
  | .preempt t => decide (t < 64)
  | .preemptQuiesced t => decide (t < 64)
  | .chrysalisTrailerWritten t => decide (t < 64)
  | .retrySave t => decide (t < 64)
  | .restore t _ => decide (t < 64)
  | .restoreImageLoaded t => decide (t < 64)
  | .restoreFault t cause _ => decide (t < 64) && decide (1 ≤ cause) && decide (cause ≤ 8)
  | .release t => decide (t < 64)
  | .tenantReset t => decide (t < 64)
  | .tenantResetComplete t => decide (t < 64)
  | .tsRunStart t _ => decide (t < 64)
  | .tsRunStop t _ => decide (t < 64)
  | .tsForce t _ => decide (t < 64)
  | .tsManual t _ => decide (t < 64)
  | .sequencerEvaluate t => decide (t < 64)
  | .scPartWrite t _ => decide (t < 64)
  | .lgLoad t => decide (t < 64)
  | .lgRun t => decide (t < 64)
  | .lgRunTimed t => decide (t < 64)
  | .lgHold t => decide (t < 64)
  | .lgHoldAtPass t => decide (t < 64)
  | .lgHoldStopAtPass t => decide (t < 64)
  | .lgRelease t => decide (t < 64)
  | .lgStop t => decide (t < 64)
  | .ledgerEntryPrefetch t => decide (t < 64)
  | .ledgerEvaluate t => decide (t < 64)
  | .phaseShortTimeout t _ => decide (t < 64)
  | .phaseGiveup t _ => decide (t < 64)
  | .phaseSettleExpire t _ => decide (t < 64)
  | .spillStart t => decide (t < 64)
  | .spillComplete t => decide (t < 64)
  | .drainStart t => decide (t < 64)
  | .drainComplete t => decide (t < 64)
  | .spPeakClear t _ => decide (t < 64)
  | .wnEnSet t _ => decide (t < 64)
  | .wnEnClear t _ => decide (t < 64)
  | .wnSeal t _ => decide (t < 64)
  | .wnVoid t _ => decide (t < 64)
  | .windowNaturalEnd t => decide (t < 64)
  | .windowCap t => decide (t < 64)
  | .voidSettle t => decide (t < 64)
  | .creditTimeout t => decide (t < 64)
  | .verdictEntry t => decide (t < 64)
  | .gvLevelWrite t _ => decide (t < 64)
  | .mirrorLedger t _ _ _ _ _ _ => decide (t < 64)
  | .mirrorWindow t _ _ _ => decide (t < 64)
  | .mirrorTenant t _ _ _ _ => decide (t < 64)
  | .mirrorGovCharge t _ _ => decide (t < 64)
  | .mirrorGovState t _ _ => decide (t < 64)
  | .chrysalisFault t cause _ => decide (t < 64) && decide (1 ≤ cause) && decide (cause ≤ 8)
  | .loadFault cause va _ => decide (1 ≤ cause) && decide (cause ≤ 8) && decide (va < 2 ^ 48)
  | .mbAck m _ => decide (m < 256)
  | .mbHdrRead m _ => decide (m < 256)
  | .storeMemerrReport c => decide (c < 256)
  | .add c _ => decide (c < 256)
  | .sub c _ => decide (c < 256)
  | .and c _ => decide (c < 256)
  | .or c _ => decide (c < 256)
  | .xor c _ => decide (c < 256)
  | .andn c _ => decide (c < 256)
  | .sll c _ => decide (c < 256)
  | .srl c _ => decide (c < 256)
  | .sra c _ => decide (c < 256)
  | .ror c _ => decide (c < 256)
  | .clz c _ => decide (c < 256)
  | .ctz c _ => decide (c < 256)
  | .popc c _ => decide (c < 256)
  | .min c _ => decide (c < 256)
  | .max c _ => decide (c < 256)
  | .minu c _ => decide (c < 256)
  | .maxu c _ => decide (c < 256)
  | .sext c _ => decide (c < 256)
  | .zext c _ => decide (c < 256)
  | .bswap c _ => decide (c < 256)
  | .mul c _ => decide (c < 256)
  | .mulhu c _ => decide (c < 256)
  | .mulh c _ => decide (c < 256)
  | .divu c _ => decide (c < 256)
  | .remu c _ => decide (c < 256)
  | .div c _ => decide (c < 256)
  | .rem c _ => decide (c < 256)
  | .eq c _ => decide (c < 256)
  | .ne c _ => decide (c < 256)
  | .lt c _ => decide (c < 256)
  | .ge c _ => decide (c < 256)
  | .ltu c _ => decide (c < 256)
  | .geu c _ => decide (c < 256)
  | .tst c _ => decide (c < 256)
  | .tstz c _ => decide (c < 256)
  | .feq c _ => decide (c < 256)
  | .flt c _ => decide (c < 256)
  | .fle c _ => decide (c < 256)
  | .funord c _ => decide (c < 256)
  | .pand c _ => decide (c < 256)
  | .por c _ => decide (c < 256)
  | .pxor c _ => decide (c < 256)
  | .pandn c _ => decide (c < 256)
  | .sel c _ => decide (c < 256)
  | .prd c _ => decide (c < 256)
  | .pwr c _ => decide (c < 256)
  | .fadd c _ => decide (c < 256)
  | .fsub c _ => decide (c < 256)
  | .fmul c _ => decide (c < 256)
  | .ffma c _ => decide (c < 256)
  | .fmin c _ => decide (c < 256)
  | .fmax c _ => decide (c < 256)
  | .fabs c _ => decide (c < 256)
  | .fneg c _ => decide (c < 256)
  | .fcvtSL c _ => decide (c < 256)
  | .fcvtLS c _ => decide (c < 256)
  | .fcvtBfS c _ => decide (c < 256)
  | .fcvtSBf c _ => decide (c < 256)
  | .fcvtE4S c _ => decide (c < 256)
  | .fcvtE5S c _ => decide (c < 256)
  | .fcvtSE4 c _ => decide (c < 256)
  | .fcvtSE5 c _ => decide (c < 256)
  | .jmpr c _ => decide (c < 256)
  | .addi c _ => decide (c < 256)
  | .andi c _ => decide (c < 256)
  | .ori c _ => decide (c < 256)
  | .xori c _ => decide (c < 256)
  | .shi c _ => decide (c < 256)
  | .cmpi c _ => decide (c < 256)
  | .cmpiu c _ => decide (c < 256)
  | .br c _ => decide (c < 256)
  | .call c _ => decide (c < 256)
  | .ld c _ => decide (c < 256)
  | .st c _ => decide (c < 256)
  | .l c _ => decide (c < 256)
  | .rdtime c _ => decide (c < 256)
  | .rdctr c _ => decide (c < 256)
  | .emit c _ => decide (c < 256)
  | .deq c _ => decide (c < 256)
  | .scadd c _ => decide (c < 256)
  | .scwait c _ => decide (c < 256)
  | .scwaitComplete c => decide (c < 256)
  | .scrd c _ => decide (c < 256)
  | .atarm c _ => decide (c < 256)
  | .atcan c _ => decide (c < 256)
  | .harvest c _ => decide (c < 256)
  | .seal c _ => decide (c < 256)
  | .void c _ => decide (c < 256)
  | .hist c _ => decide (c < 256)
  | .sketch c _ => decide (c < 256)
  | .tlaunch c _ => decide (c < 256)
  | .twait c _ => decide (c < 256)
  | .mbpost c _ => decide (c < 256)
  | .fence c _ => decide (c < 256)
  | .yield c _ => decide (c < 256)
  | .halt c _ => decide (c < 256)
  | .trap c _ => decide (c < 256)
  | .peek c f => decide (f.ctl ≠ 3) && decide (c < 256)
  | .depstat c f => decide (f.ctl = 3) && decide (c < 256)
  | .antennaFlush a => decide (a < 512)
  | .anTagWrite a _ => decide (a < 512)
  | .liveRead i => decide (i < 36864)
  | .counterPreset i _ => decide (i < 36864)
  | .harvestTick number => decide (number < 2 ^ 32)
  | .portReconfigure first width => decide (first < 512) && decide (first + width ≤ 512)
  | .taggedPacketEnd port _ => decide (port < 512)
  | .queueSample port _ _ _ => decide (port < 512)
  | .portSampleInterval port => decide (port < 512)
  | .slotSummaryInterval port => decide (port < 512)
  | .linkFailure port => decide (port < 512)
  | .tracePacket p => decide (p.len < 65536)
  | .htAddrWrite i _ => decide (i < 256)
  | .lsView i _ => decide (i < 256)
  | .lsDecide i _ => decide (i < 256)
  | .watchArm w _ => decide (w < 512)
  | .watchDisarm w _ => decide (w < 512)
  | .recordAppend r => decide (r.cls < 4) && decide (r.tenant < 64) && decide (r.source < 65536) && decide (r.typ < 256)
  | .dmaFault t k cause _ => decide (t < 64) && decide (k < 16) && decide (1 ≤ cause) && decide (cause ≤ 8)
  | .dsResume t k => decide (t < 64) && decide (k < 16)
  | .dsAbandon t k => decide (t < 64) && decide (k < 16)
  | .lossTallyTimeout source => decide (source < 65536)
  | .exportTake q => decide (q < 32768)
  | .frameFlushTimeout t cls => decide (t < 64) && decide (cls < 4)
  | .frameStart p => decide (p < 4)
  | .frameEnd p => decide (p < 4)
  | .returnFrame p _ _ => decide (p < 4)
  | .exportRxOther p => decide (p < 4)
  | .portTrained p => decide (p < 4)
  | .pfcReceive p _ quanta => decide (p < 4) && decide (quanta.length = 8)
  | .pauseExpire p prio => decide (p < 4) && decide (prio < 8)
  | .exportLaneFailure lane => decide (lane < 8)
  | .launchStart u => decide (u < 5)
  | .launchComplete u => decide (u < 5)
  | .modelLoad t m => decide (t < 64) && decide (m < 4)
  | .modelUnload t m => decide (t < 64) && decide (m < 4)
  | .modelCopyComplete t m => decide (t < 64) && decide (m < 4)
  | .weightStoreMemerr t m => decide (t < 64) && decide (m < 4)
  | .beatReceive b => decide (b.state < 7)
  | .mirrorScAdd counter _ _ => decide (counter < 16384)
  | .mirrorScState counter _ _ _ _ => decide (counter < 16384)
  | .mirrorHome entry _ _ _ _ _ _ => decide (entry < 256)
  | .mirrorLaneFailure lane => decide (lane < 2)
  | .irqMaskWrite i _ => decide (i < 4)
  | .pmGrant units => decide (units < 1024)
  | .pmCut units cyclesLeft => decide (units < 1024) && decide (cyclesLeft ≤ 1600)
  | .tenantPageRead t off _ => decide (t < 64) && decide (off < 65536)
  | .antennaEvent a e => decide (a < 512) && e.ok
  | .chipEvent n => decide (n < 3584)

end Sys2Proof
end

