-- ==== Sys2Proof/Certificates/Slice0/Obligations.lean ====
section
/-! DEFINITION. The statements for the provers. Each formalises rules of the spec; what a rule leaves to the model is said at the
statement. -/

open Sys2Proof Sys2Proof.Machine

/-! ### The block as a whole -/

/-- A step takes the command at the front of the queue and answers what that command does to the state with the rest of the queue; with no
command waiting the block idles (the model's choice, log entry 1). -/
def Obligations.StepRunsTheFrontCommand : Prop :=
  (∀ (c : Instr) (rest : List Instr) (s : State), s.pending = c :: rest → step s = exec c { s with pending := rest }) ∧
  (∀ s : State, s.pending = [] → step s = .next s)

/-- No command stops the block: each answers a next state, which keeps the queue of commands, and from which nothing that has left the block
is recalled (R399: what the block puts out leaves it once and in order).
Some clauses rest on choices of the model: log entry 82. -/
def Obligations.EveryCommandGoesOn : Prop :=
  ∀ (c : Instr) (s : State), ∃ t, exec c s = .next t ∧ t.pending = s.pending ∧ ∃ more, t.out = s.out ++ more

/-- Every step keeps the canonical form of the register file, the salt pans and host memory, so that equal contents are equal data.
Some clauses rest on choices of the model: log entry 5. -/
def Obligations.StepKeepsCanonical : Prop :=
  ∀ s t : State, s.Canonical → step s = .next t → t.Canonical

/-- The state after power-on is canonical, holds block reset, and has put nothing out.
Some clauses rest on choices of the model: log entries 5 and 88. -/
def Obligations.ResetIsCanonical : Prop :=
  State.reset.Canonical ∧ State.reset.inReset = true ∧ State.reset.out = [] ∧ State.reset.pending = []

/-- The answer to a host read of a register that holds `w`, or of its lower or upper half (R15, R426). -/
def answers (t : State) (lanes : Lanes) (w : Word) : Prop :=
  t.hostResp = some (match lanes with
    | .full => w
    | .lo => w &&& 0xFFFFFFFF
    | .hi => w >>> 32)

/-! ### Fabric time (chapter 02) -/

/-- What a tick may change beside the time engine, while the scrubber walks: the cells that its walk has reached are free (R294). -/
def walkSpots (s : State) : List Spot := if s.qm.walking then [QM_POOL_FREE.at_ 0, QT_USE_RESIDENT.all, QT_USE_FULL.all] else []

/-- The parts that go with them. -/
def walkParts (s : State) : List Part := if s.qm.walking then [.qm] else []

/-- The clock and the timers of the time engine: a tick advances the raw count by one and nothing else that software sees; a pending increment
change takes effect without a jump of fabric time, its entry beginning at the present count; an entry leaves the history 2^28 ticks
after its successor; the hold timer and the 1PPS pulse end; a whole second pulses unless a step lies in the tick where it is passed (R43, R48, R50,
R51, R68, R74). -/
def timeEngineEvents : Prop :=
  ∀ s : State, s.inReset = false →
    Does .tick s (walkSpots s) (.time :: walkParts s) (fun t => t.time.raw = s.time.raw + 1 ∧ t.time.hist = s.time.hist ∧
      t.time.pendIncr = s.time.pendIncr ∧ t.time.commit = s.time.commit ∧ t.time.gates = s.time.gates ∧ t.time.tx = s.time.tx ∧
      t.time.tiles = s.time.tiles ∧ t.time.egress = s.time.egress) ∧
    (∀ p, s.time.pendIncr.find? (fun p => p.1 == s.rawNow) = some p →
      Does .incrChangeEffect s [TB_STATUS_HIST_USED.at_ 0, TB_INCR_INCR.at_ 0, TB_STATUS_EPOCH.at_ 0] [.time, .mtx] (fun t =>
        t.newest = some { ofs := s.fabNow, raw := s.rawNow, incr := p.2, epoch := s.epoch } ∧ t.fabNow = s.fabNow ∧
        t.rawNow = s.rawNow ∧ t.getF TB_INCR_INCR 0 = p.2 % 2 ^ 48 ∧ t.getF TB_STATUS_EPOCH 0 = s.epoch)) ∧
    (∀ e x, s.time.hist.getLast? = some e → e.succ = some x → x + 2 ^ 28 ≤ s.rawNow →
      Does .historyEntryExpire s [TB_STATUS_HIST_USED.at_ 0] [.time] (fun t => t.time = { s.time with hist := s.time.hist.dropLast } ∧
        t.getF TB_STATUS_HIST_USED 0 = (s.time.hist.length - 1) % 512)) ∧
    (s.time.holdRun = true → s.getF TB_STATUS_HOLD_LEFT 0 = 0 →
      Does .holdTimerExpire s [] [.time] (fun t => t.time = { s.time with holdRun := false })) ∧
    (s.flag TB_CTRL_PPS_EN 0 = true → s.running = true → s.ppsDue = true →
      Does .ppsPulse s [] [.time] (fun t => t.time = { s.time with ppsHigh := true, ppsLeft := 156250 })) ∧
    (∀ r b, r = s.rawNow + s.getF BD_PPS_ADVANCE 0 → s.entryAny (r - 1) = some b → b.at r 0 ≠ (s.entryDue r).at r 0 → Idle .ppsPulse s) ∧
    (s.time.ppsHigh = true → s.time.ppsLeft = 0 →
      Does .ppsPulseEnd s [] [.time] (fun t => t.time = { s.time with ppsHigh := false }))

/-- In SN mode a tick adds the increment in force to the accumulator, which carries at one second (R47). -/
def snAccumulatorTick : Prop :=
  ∀ (s : State) (e : HistEntry), s.inReset = false → s.running = true → s.cpMode = false → s.newest = some e → e.incr ≤ second40 →
    s.time.ns < 1000000000 → s.time.frac < 2 ^ 40 →
    Does .tick s (walkSpots s) (.time :: walkParts s) (fun t => t.time.ns < 1000000000 ∧ t.time.frac < 2 ^ 40 ∧
      (t.time.sec.toNat * second40 + t.time.ns * 2 ^ 40 + t.time.frac) % (2 ^ 48 * second40) =
        (s.time.sec.toNat * second40 + s.time.ns * 2 ^ 40 + s.time.frac + e.incr) % (2 ^ 48 * second40))

/-- The time engine: its events, and the tick of the accumulator.
Some clauses rest on choices of the model: log entries 43, 75 and 79. -/
def Obligations.TimeEngine : Prop := timeEngineEvents ∧ snAccumulatorTick

/-- Time starts at the first 256-tick boundary after RUN: fabric time is 0, the epoch is 0, the increment is the one that TB_INCR holds, the
first history entry forms, the quality is FREE and RUNNING reads 1 (R46, R50). -/
def timeStarts : Prop :=
  ∀ s : State, s.inReset = false → s.flag TB_CTRL_RUN 0 = true → s.running = false → s.rawNow = s.startDue → s.time.hist = [] →
    Does .timeStart s (formSpots ++ [TB_STATUS_RUNNING.at_ 0, TB_STATUS_HOLD.at_ 0, TB_STATUS_EPOCH.at_ 0, TB_STATUS_HIST_USED.at_ 0,
        TB_INCR_INCR.at_ 0, TB_CTRL_QUALITY.at_ 0]) (formParts ++ [.time, .mtx]) (fun t =>
      t.running = true ∧ t.fabNow = 0 ∧ t.epoch = 0 ∧ t.quality = 0 ∧ t.getF TB_INCR_INCR 0 = s.getF TB_INCR_INCR 0 ∧
      t.time.hist = [{ ofs := 0, raw := s.rawNow, incr := s.getF TB_INCR_INCR 0, epoch := 0 }] ∧ t.getF TB_STATUS_HIST_USED 0 = 1)

/-- What a write of TB_CTRL may change beside its own fields: the state of R68 and its refusals. -/
def ctrlSpots : List Spot :=
  formSpots ++ irqSpots ++ [TB_CTRL_QUALITY.at_ 0, TB_STATUS_HOLD.at_ 0, TB_STATUS_HOLD_LEFT.at_ 0, TB_STATUS_PENDING.at_ 0,
    TB_STATUS_PENDING_STEP.at_ 0, TB_REJ_REJ.at_ 0, TB_REJ_REJ_COUNT.at_ 0, TB_REJ_REASON.at_ 0]

/-- A word for TB_CTRL that asks for no change of quality: QUALITY holds the present state or a reserved code. -/
abbrev keepsQuality (s : State) (data : Word) : Prop := TB_CTRL_QUALITY.of data = s.quality ∨ 3 ≤ TB_CTRL_QUALITY.of data

/-- Writes of TB_CTRL (R46, R68, R431). RUN sets RUN once and for all, notes the raw count and takes MODE and PPS_EN from the same word.
HOLD_ENTER enters HOLDOVER from ACQUIRING and LOCKED, removing a pending commit with reason 7, and restarts the hold timer in HOLDOVER.
HOLD_EXIT leaves HOLDOVER for ACQUIRING once the hold timer has expired, and is refused with reason 10 before. A QUALITY write sets the
state outside HOLDOVER and is refused with reason 7 in it. -/
def tbCtrlWrites : Prop :=
  ∀ (s : State) (data : Word), s.ready = true →
    (TB_CTRL_RUN.on data = true → s.flag TB_CTRL_RUN 0 = false →
      Does (.tbRun data) s (ctrlSpots ++ [TB_CTRL_RUN.at_ 0, TB_CTRL_MODE.at_ 0, TB_CTRL_PPS_EN.at_ 0]) (formParts ++ [.time, .mtx, .out])
        (fun t => t.flag TB_CTRL_RUN 0 = true ∧ t.time.runAt = s.rawNow ∧ t.cpMode = TB_CTRL_MODE.on data ∧
          t.flag TB_CTRL_PPS_EN 0 = TB_CTRL_PPS_EN.on data ∧ t.running = s.running)) ∧
    (TB_CTRL_HOLD_ENTER.on data = true → TB_CTRL_HOLD_EXIT.on data = false → keepsQuality s data → s.quality = 1 ∨ s.quality = 2 →
      Does (.holdEnter data) s (ctrlSpots ++ [TB_CTRL_RUN.at_ 0, TB_CTRL_MODE.at_ 0, TB_CTRL_PPS_EN.at_ 0])
        (formParts ++ [.time, .mtx, .out]) (fun t => t.quality = 3 ∧ t.flag TB_STATUS_HOLD 0 = true ∧ t.time.holdRun = true ∧
          t.getF TB_STATUS_HOLD_LEFT 0 = s.getF TB_POLICY_HOLD_MIN 0 ∧ t.time.commit = none ∧
          (s.time.commit ≠ none → t.flag TB_REJ_REJ 0 = true ∧ t.getF TB_REJ_REASON 0 = 7))) ∧
    (TB_CTRL_HOLD_ENTER.on data = true → TB_CTRL_HOLD_EXIT.on data = false → keepsQuality s data → s.quality = 3 →
      Does (.holdEnter data) s [TB_STATUS_HOLD_LEFT.at_ 0, TB_CTRL_RUN.at_ 0, TB_CTRL_MODE.at_ 0, TB_CTRL_PPS_EN.at_ 0] [.time] (fun t =>
        t.time.holdRun = true ∧ t.getF TB_STATUS_HOLD_LEFT 0 = s.getF TB_POLICY_HOLD_MIN 0)) ∧
    (TB_CTRL_HOLD_EXIT.on data = true → TB_CTRL_HOLD_ENTER.on data = false → keepsQuality s data → s.quality = 3 →
      Does (.holdExit data) s (ctrlSpots ++ [TB_CTRL_RUN.at_ 0, TB_CTRL_MODE.at_ 0, TB_CTRL_PPS_EN.at_ 0])
        (formParts ++ [.time, .mtx, .out]) (fun t =>
          (s.time.holdRun = false → t.quality = 1 ∧ t.flag TB_STATUS_HOLD 0 = false) ∧
          (s.time.holdRun = true → t.quality = 3 ∧ t.flag TB_REJ_REJ 0 = true ∧ t.getF TB_REJ_REASON 0 = 10))) ∧
    (TB_CTRL_QUALITY.of data ≤ 2 → TB_CTRL_QUALITY.of data ≠ s.quality → TB_CTRL_HOLD_ENTER.on data = false →
      TB_CTRL_HOLD_EXIT.on data = false → s.running = true →
      Does (.qualityWrite data) s (ctrlSpots ++ [TB_CTRL_RUN.at_ 0, TB_CTRL_MODE.at_ 0, TB_CTRL_PPS_EN.at_ 0])
        (formParts ++ [.time, .mtx, .out]) (fun t =>
          (s.quality ≠ 3 → t.quality = TB_CTRL_QUALITY.of data ∧ t.flag TB_STATUS_HOLD 0 = false) ∧
          (s.quality = 3 → t.quality = 3 ∧ t.flag TB_REJ_REJ 0 = true ∧ t.getF TB_REJ_REASON 0 = 7)))

/-- An increment passes SLEW: above 0, and no further from INCR_NOM than floor(INCR_NOM × SLEW_PPM ÷ 10^6) (R59). -/
abbrev passesSlew (s : State) (incr : Nat) : Prop :=
  0 < incr ∧ ((incr : Int) - s.getF TB_LIMITS_INCR_NOM 0).natAbs ≤
    s.getF TB_LIMITS_INCR_NOM 0 * s.getF TB_LIMITS_SLEW_PPM 0 / 1000000

/-- The history can hold one more entry at raw count `at_` beside `more` that are accepted and wait: an entry is kept until 2^28 ticks after its
successor takes effect, and 256 entries are kept at most (R51). -/
abbrev historyHolds (s : State) (at_ more : Nat) : Prop :=
  (s.time.hist.filter (fun e => e.succ.all (fun x => decide (at_ < x + 2 ^ 28)))).length + more + 1 ≤ 256

/-- The increments that wait for another boundary than the one at which a write of TB_INCR would take effect now. -/
def otherIncrs (s : State) : List (Nat × Nat) := s.time.pendIncr.filter (fun p => p.1 != s.incrDue)

/-- What a refused correction changes (R60, R89, R407). -/
def refusalSpots : List Spot := irqSpots ++ [TB_REJ_REJ.at_ 0, TB_REJ_REJ_COUNT.at_ 0, TB_REJ_REASON.at_ 0]

/-- TB_REJ records a refusal with a reason. -/
def refusedWith (s t : State) (reason : Nat) : Prop :=
  t.flag TB_REJ_REJ 0 = true ∧ t.getF TB_REJ_REASON 0 = reason ∧ t.getF TB_REJ_REJ_COUNT 0 = (s.getF TB_REJ_REJ_COUNT 0 + 1) % 65536

/-- A write of TB_INCR sets the starting increment before time starts; afterwards CP mode refuses it with reason MODE (1), and in SN mode the checks
HOLDOVER (7), PENDING (9, while a step is pending), SLEW (4) and HISTORY (8) refuse it in that order; one that passes them all waits for the
first 256-tick boundary at least 8 ticks away, and a later write that waits for the same boundary takes its place (R48, R58, R59). -/
def tbIncrWrite : Prop :=
  ∀ (s : State) (data : Word), s.ready = true →
    (s.running = false →
      Does (.tbIncrWrite data) s [TB_INCR_INCR.at_ 0] [] (fun t => t.getF TB_INCR_INCR 0 = TB_INCR_INCR.of data)) ∧
    (s.running = true → s.cpMode = true → Does (.tbIncrWrite data) s refusalSpots [.out] (fun t => refusedWith s t 1)) ∧
    (s.running = true → s.cpMode = false → s.quality = 3 → Does (.tbIncrWrite data) s refusalSpots [.out] (fun t => refusedWith s t 7)) ∧
    (s.running = true → s.cpMode = false → s.quality ≠ 3 →
      (∀ k, s.time.commit = some k → k.step = true → Does (.tbIncrWrite data) s refusalSpots [.out] (fun t => refusedWith s t 9)) ∧
      ((∀ k, s.time.commit = some k → k.step = false) →
        (¬ passesSlew s (TB_INCR_INCR.of data) → Does (.tbIncrWrite data) s refusalSpots [.out] (fun t => refusedWith s t 4)) ∧
        (passesSlew s (TB_INCR_INCR.of data) → ¬ historyHolds s s.incrDue (otherIncrs s).length →
          Does (.tbIncrWrite data) s refusalSpots [.out] (fun t => refusedWith s t 8)) ∧
        (passesSlew s (TB_INCR_INCR.of data) → historyHolds s s.incrDue (otherIncrs s).length →
          Does (.tbIncrWrite data) s [] [.time] (fun t =>
            t.time = { s.time with pendIncr := otherIncrs s ++ [(s.incrDue, TB_INCR_INCR.of data)] } ∧ s.rawNow + 8 ≤ s.incrDue ∧
            s.incrDue < s.rawNow + 8 + 256 ∧ s.incrDue % 256 = 0))))

/-- Fabric time at AT under the entry then in force: the newest one, with the increments that take effect by then. -/
def fabAtCommit (s : State) : Nat := (s.entryAhead s.stagedAt).at s.stagedAt 0

/-- The checks of R60 in their order, each with the reason of its failure. -/
def commitChecks (s : State) (step : Bool) (epoch : Nat) : List (Prop × Nat) :=
  [ (s.flag TB_CTRL_RUN 0 = true, 11),
    (s.time.commit = none, 9),
    (s.quality ≠ 3, 7),
    (step = true ∨ s.cpMode = true, 1),
    (s.stagedAt % 256 = 0, 2),
    (s.rawNow + 512 ≤ s.stagedAt, 3),
    (step = true → s.getF TB_PRJ_OFS_NSF_NS 0 < 10 ^ 9, 12),
    (passesSlew s (s.getF TB_PRJ_INCR_INCR 0), 4),
    (step = true → 1 ≤ (epoch + 2 ^ 16 - s.epoch) % 2 ^ 16 ∧ (epoch + 2 ^ 16 - s.epoch) % 2 ^ 16 ≤ 32767, 6),
    (step = true → s.getF TB_POLICY_STEP_THRESH 0 * 2 ^ 40 ≤ ((s.stagedOfs : Int) - fabAtCommit s).natAbs, 5),
    (historyHolds s s.stagedAt s.time.pendIncr.length, 8) ]

/-- COMMIT takes the staged values when every check of R60 passes, and is refused with the reason of the first that fails; CANCEL before AT removes
the pending commit, and later has no effect; COMMIT with CANCEL in one word is discarded whole (R60, R63). -/
def commitAndCancel : Prop :=
  ∀ (s : State) (data : Word), s.ready = true →
    (TB_PRJ_CMD_COMMIT.on data = true → TB_PRJ_CMD_CANCEL.on data = false →
      (∀ c ∈ commitChecks s (TB_PRJ_CMD_STEP.on data) (TB_PRJ_CMD_STEP_EPOCH.of data), c.1) →
      Does (.projectionCommit data) s [TB_STATUS_PENDING.at_ 0, TB_STATUS_PENDING_STEP.at_ 0] [.time] (fun t =>
        t.time = { s.time with commit := some { step := TB_PRJ_CMD_STEP.on data, at_ := s.stagedAt, ofs := s.stagedOfs,
                                                incr := s.getF TB_PRJ_INCR_INCR 0, epoch := TB_PRJ_CMD_STEP_EPOCH.of data } } ∧
        t.flag TB_STATUS_PENDING 0 = true ∧ t.flag TB_STATUS_PENDING_STEP 0 = TB_PRJ_CMD_STEP.on data)) ∧
    (TB_PRJ_CMD_COMMIT.on data = true → TB_PRJ_CMD_CANCEL.on data = false →
      ∀ (n : Nat) (c : Prop × Nat), (commitChecks s (TB_PRJ_CMD_STEP.on data) (TB_PRJ_CMD_STEP_EPOCH.of data))[n]? = some c → ¬ c.1 →
        (∀ d ∈ (commitChecks s (TB_PRJ_CMD_STEP.on data) (TB_PRJ_CMD_STEP_EPOCH.of data)).take n, d.1) →
        Does (.projectionCommit data) s refusalSpots [.out] (fun t => refusedWith s t c.2)) ∧
    (TB_PRJ_CMD_CANCEL.on data = true → TB_PRJ_CMD_COMMIT.on data = false → ∀ k, s.time.commit = some k →
      (s.rawNow < k.at_ →
        Does (.projectionCancel data) s [TB_STATUS_PENDING.at_ 0, TB_STATUS_PENDING_STEP.at_ 0] [.time] (fun t =>
          t.time = { s.time with commit := none } ∧ t.flag TB_STATUS_PENDING 0 = false ∧ t.flag TB_STATUS_PENDING_STEP 0 = false)) ∧
      (k.at_ ≤ s.rawNow → Idle (.projectionCancel data) s)) ∧
    (TB_PRJ_CMD_CANCEL.on data = true → TB_PRJ_CMD_COMMIT.on data = true →
      Idle (.projectionCommit data) s ∧ Idle (.projectionCancel data) s)

/-- The host commands of the time engine: TB_CTRL, TB_INCR, COMMIT and CANCEL.
Some clauses rest on choices of the model: log entries 44 and 79. -/
def Obligations.TimeCommands : Prop := tbCtrlWrites ∧ tbIncrWrite ∧ commitAndCancel

/-- A projection takes effect at AT: fabric time stays continuous there, the epoch is kept, and the staged increment is in force (R61). -/
def projectionEffect : Prop :=
  ∀ (s : State) (k : Commit), s.inReset = false → s.running = true → s.time.commit = some k → k.step = false → s.rawNow = k.at_ →
    Does .projectionEffect s (formSpots ++ [TB_STATUS_PENDING.at_ 0, TB_STATUS_PENDING_STEP.at_ 0, TB_STATUS_HIST_USED.at_ 0,
        TB_INCR_INCR.at_ 0, TB_STATUS_EPOCH.at_ 0]) (formParts ++ [.time, .mtx]) (fun t =>
      t.fabNow = s.fabNow ∧ t.epoch = s.epoch ∧ t.time.commit = none ∧ t.getF TB_INCR_INCR 0 = k.incr % 2 ^ 48 ∧
      t.newest = some { ofs := s.fabNow, raw := s.rawNow, incr := k.incr, epoch := s.epoch })

/-- A step takes effect at AT: TB_STATUS shows the staged epoch, the commit is gone, the staged time and increment are in force, the new entry
begins there, and every posted transmit slot is marked as stepped (R50, R62, R65, R80). Stated of a block in which no gate, context,
harvest, sequencer or window waits for the step and that is not JOINING; what a step does to those is stated next. -/
def stepEffectOnTime : Prop :=
  ∀ (s : State) (k : Commit), s.inReset = false → s.running = true → s.time.commit = some k → k.step = true → s.rawNow = k.at_ →
    s.time.gates = [] → s.ctxs = [] → s.taps.cal = [] → s.joining = false → (∀ t < 64, s.runState t = 0 ∧ s.getF WN_STAT_STATE t ≠ 1) →
    Does .stepEffect s (formSpots ++ [TB_STATUS_PENDING.at_ 0, TB_STATUS_PENDING_STEP.at_ 0, TB_STATUS_HIST_USED.at_ 0,
        TB_INCR_INCR.at_ 0, TB_STATUS_EPOCH.at_ 0]) (formParts ++ [.time, .mtx]) (fun t =>
      t.fabNow = k.ofs ∧ t.epoch = k.epoch % 65536 ∧ t.time.commit = none ∧ t.getF TB_INCR_INCR 0 = k.incr % 2 ^ 48 ∧
      t.newest = some { ofs := k.ofs, raw := s.rawNow, incr := k.incr, epoch := k.epoch } ∧
      (∀ i, (s.txSlot i).posted = true → (t.txSlot i).stepped = true))

/-- The time at which a step puts the block has reached a full-stamp target, `lead` ticks ahead of it. -/
abbrev stepReaches (k : Commit) (lead lo hi : Nat) : Prop := fullTarget lo hi ≤ fullOf (k.ofs + lead * k.incr)

/-- Gate `g` is ARMED with a target that ARM has copied, and has not become due LATE before. -/
abbrev armedGate (s : State) (g : Nat) : Prop := s.gateState g = 1 ∧ (s.gate g).copied = true ∧ (s.gate g).late = none

/-- What a step leaves of the gates, the timers, the calendar, the sequencers and the windows that it finds (R69, R87, R153, R181, R224, R316).
Gates: a signed-difference gate that is ARMED ends EPOCH; a magnitude gate stays ARMED while its target is to come; of those that the step passes
(the gates being listed in rising order, as every change of one keeps them, and none having fired in this tick), the lowest acts LATE in the step's tick and each other one is due LATE in its turn. Timers: a signed-difference timer that is ARMED ends EPOCH, a
magnitude timer whose target the step passes ends LATE and stays ARMED otherwise, and a TWAIT that waits for one that has ended completes.
Calendar: a signed-difference harvest is taken out, and its number is in HV_STAT2.CANCELLED; a magnitude harvest is due now, LATE, when the step
passes its target, and stays as it is otherwise. Sequencers: a signed-difference TIME comparator that is armed has its bit in TS_STAT.EPOCH, the
state being the same. Windows: an open INTERVAL window ends with outcome BOUNDARY and the next generation opens, unless R389 holds it back. -/
def stepEffectOnWaiting : Prop :=
  ∀ (s : State) (k : Commit), s.inReset = false → s.running = true → s.time.commit = some k → k.step = true → s.rawNow = k.at_ →
    ∃ t, exec .stepEffect s = .next t ∧ t.fabNow = k.ofs ∧ t.epoch = k.epoch % 65536 ∧
      (∀ g, armedGate s g →
        ((s.gate g).signed = true → t.gateState g = 6) ∧
        ((s.gate g).signed = false → ¬ stepReaches k (s.lead (s.gate g)) (s.gate g).lo (s.gate g).hi →
          t.gateState g = 1 ∧ t.gate g = s.gate g) ∧
        ((s.gate g).signed = false → stepReaches k (s.lead (s.gate g)) (s.gate g).lo (s.gate g).hi →
          s.time.gates.Pairwise (fun a b => a.1 < b.1) → s.time.lastGate = none →
          ((∀ h, h < g → armedGate s h → (s.gate h).signed = false → ¬ stepReaches k (s.lead (s.gate h)) (s.gate h).lo (s.gate h).hi) →
            t.gateState g = 3 ∧ t.time.lastGate = some g) ∧
          ((∃ h, h < g ∧ armedGate s h ∧ (s.gate h).signed = false ∧ stepReaches k (s.lead (s.gate h)) (s.gate h).lo (s.gate h).hi) →
            t.gateState g = 1 ∧ (t.gate g).late = some s.rawNow))) ∧
      (∀ c i, i < 4 → ((s.ctx c).timer i).state = 1 →
        ((∀ mask rd pd, (s.ctx c).wait ≠ .twait mask rd pd) →
          (((s.ctx c).timer i).signed = true → ((t.ctx c).timer i).state = 4) ∧
          (((s.ctx c).timer i).signed = false → stepReaches k 0 ((s.ctx c).timer i).lo ((s.ctx c).timer i).hi → ((t.ctx c).timer i).state = 3) ∧
          (((s.ctx c).timer i).signed = false → ¬ stepReaches k 0 ((s.ctx c).timer i).lo ((s.ctx c).timer i).hi →
            (t.ctx c).timer i = (s.ctx c).timer i)) ∧
        (∀ mask rd pd, (s.ctx c).wait = .twait mask rd pd → s.cxState c = 4 → mask / 2 ^ i % 2 = 1 →
          ((s.ctx c).timer i).signed = true ∨ stepReaches k 0 ((s.ctx c).timer i).lo ((s.ctx c).timer i).hi →
          t.cxState c = 3 ∧ (t.ctx c).wait = .none ∧ ((t.ctx c).timer i).state = 0)) ∧
      ((s.taps.cal.map (·.num)).Nodup → ∀ r ∈ s.taps.cal, r.timed = true → r.late = false →
        (r.signed = true → (∀ x ∈ t.taps.cal, x.num ≠ r.num) ∧
          ((∀ x ∈ s.taps.cal, x.timed = true → x.late = false → x.signed = true → x = r) →
            t.getF HV_STAT2_CANCELLED 0 = r.num % 2 ^ HV_STAT2_CANCELLED.width)) ∧
        (r.signed = false → stepReaches k 0 r.lo r.hi → { r with late := true, tick := s.rawNow } ∈ t.taps.cal) ∧
        (r.signed = false → ¬ stepReaches k 0 r.lo r.hi → r ∈ t.taps.cal)) ∧
      (∀ n j, n < 64 → j < 4 → s.runState n = 1 → t.getF TS_STAT_STATE n = s.getF TS_STAT_STATE n ∧
        (s.getF TS_PROG0_KIND (s.cmpIdx n j) = 6 → s.disarmed n j = false → s.timeMode n j = true →
          (t.getReg .TS_STAT n).getLsbD (46 + j) = true)) ∧
      (∀ n, n < 64 → s.getF WN_STAT_STATE n = 1 → (s.window n).align = 0 →
        t.getF WN_LAST_OUTCOME n = 0 ∧ t.getF WN_LAST_GEN n = s.openGen n % 2 ^ WN_LAST_GEN.width ∧
        (s.heldBack n = false → t.getF WN_STAT_STATE n = 1 ∧ t.openGen n = s.getF WN_GEN_NEXT n) ∧
        (s.heldBack n = true → t.getF WN_STAT_STATE n = 0))

/-- Time starts, and projections and steps take effect.
Some clauses rest on choices of the model: log entries 41, 42 and 79. -/
def Obligations.TimeTakesEffect : Prop := timeStarts ∧ projectionEffect ∧ stepEffectOnTime ∧ stepEffectOnWaiting

/-- Path generations and link delays (R82, R83): a change of path advances PATH_GEN, notes the class and makes LINK_DLY invalid; a LINK_DLY write
with the present PATH_GEN is stored and made valid, one with another generation is refused with reason 13 (the entry of a lane slot of no
enabled port is taken as that of a first slot: the model's choice, log entry 103). -/
def pathsAndDelays : Prop :=
  (∀ (s : State) (port cls : Nat), s.inReset = false →
    (s.flag TB_UPSTREAM_PRI_VALID 0 = true → s.getF TB_UPSTREAM_PRI_PORT 0 ≠ port) →
    (s.flag TB_UPSTREAM_SEC_VALID 0 = true → s.getF TB_UPSTREAM_SEC_PORT 0 ≠ port) →
    Does (.pathGenChange port cls) s
      [TB_PORT_TIME_PATH_GEN.at_ port, TB_PORT_TIME_PATH_CLASS.at_ port, TB_PORT_TIME_DLY_VALID.at_ port] [.taps] (fun t =>
        t.getF TB_PORT_TIME_PATH_GEN port = (s.getF TB_PORT_TIME_PATH_GEN port + 1) % 2 ^ TB_PORT_TIME_PATH_GEN.width ∧
        t.getF TB_PORT_TIME_PATH_CLASS port = cls % 2 ^ TB_PORT_TIME_PATH_CLASS.width ∧
        t.flag TB_PORT_TIME_DLY_VALID port = false)) ∧
  (∀ (s : State) (port cls : Nat), s.inReset = false → s.flag TB_UPSTREAM_PRI_VALID 0 = true → s.getF TB_UPSTREAM_PRI_PORT 0 = port →
    s.quality = 1 ∨ s.quality = 2 →
    Does (.pathGenChange port cls) s
      (ctrlSpots ++ [TB_PORT_TIME_PATH_GEN.at_ port, TB_PORT_TIME_PATH_CLASS.at_ port, TB_PORT_TIME_DLY_VALID.at_ port])
      (formParts ++ [.time, .mtx, .taps, .out]) (fun t => t.quality = 3 ∧ t.time.holdRun = true ∧
        t.getF TB_STATUS_HOLD_LEFT 0 = s.getF TB_POLICY_HOLD_MIN 0 ∧ t.time.commit = none)) ∧
  (∀ (s : State) (slot : Nat) (data : Word), s.ready = true → TB_PORT_TIME_PATH_GEN.of data = s.getF TB_PORT_TIME_PATH_GEN slot →
    Does (.linkDlyWrite slot .full data) s
      [TB_PORT_TIME_PTP_EN.at_ slot, TB_PORT_TIME_LINK_DLY.at_ slot, TB_PORT_TIME_DLY_VALID.at_ slot] [.taps] (fun t =>
        t.getF TB_PORT_TIME_LINK_DLY slot = TB_PORT_TIME_LINK_DLY.of data ∧ t.flag TB_PORT_TIME_DLY_VALID slot = true ∧
        t.flag TB_PORT_TIME_PTP_EN slot = TB_PORT_TIME_PTP_EN.on data)) ∧
  (∀ (s : State) (slot : Nat) (data : Word), s.ready = true → TB_PORT_TIME_PATH_GEN.of data ≠ s.getF TB_PORT_TIME_PATH_GEN slot →
    Does (.linkDlyWrite slot .full data) s
      (irqSpots ++ [TB_PORT_TIME_PTP_EN.at_ slot, TB_REJ_REJ.at_ 0, TB_REJ_REJ_COUNT.at_ 0, TB_REJ_REASON.at_ 0]) [.out] (fun t =>
        t.flag TB_REJ_REJ 0 = true ∧ t.getF TB_REJ_REASON 0 = 13 ∧
        t.getF TB_PORT_TIME_LINK_DLY slot = s.getF TB_PORT_TIME_LINK_DLY slot))

/-- The time bus (R71 to R73): in the last eight ticks of a period the word for the next period goes out; a tile that receives it
soundly holds it and counts no missed period, one that does not keeps its old word, BUS_ERR counting the failure. A tile without a good
word for four periods is no longer disciplined. -/
def timeBus : Prop :=
  (∀ (s : State) (bad : List Nat), s.inReset = false → s.running = true → 248 ≤ s.rawNow % 256 →
    Does (.timeWord bad) s [TB_STATUS_BUS_ERR.at_ 0] [.time, .out] (fun t =>
      t.out = s.out ++ [.timeWord (s.wordFor ((s.rawNow / 256 + 1) * 256))] ∧
      (∀ n < 32, n ∉ bad → (t.tile n).word = s.wordFor ((s.rawNow / 256 + 1) * 256) ∧ (t.tile n).missed = 0 ∧
        (t.tile n).disc = (s.wordFor ((s.rawNow / 256 + 1) * 256)).getLsbD 0) ∧
      (∀ n < 32, n ∈ bad → (t.tile n).word = (s.tile n).word ∧ (t.tile n).missed = min 4 ((s.tile n).missed + 1)) ∧
      (∀ n, 32 ≤ n → t.tile n = s.tile n) ∧ t.time.raw = s.time.raw ∧ t.time.hist = s.time.hist)) ∧
  (∀ (s : State) (bad : List Nat), s.inReset = false → s.running = false → 248 ≤ s.rawNow % 256 →
    Does (.timeWord bad) s [TB_STATUS_BUS_ERR.at_ 0] [.time, .out, .freeCtr] (fun t => ∃ w,
      t.out = s.out ++ [.timeWord w] ∧ wordRaw w = (s.rawNow / 256 + 1) * 256 % 2 ^ 80 ∧
      (s.flag TB_CTRL_RUN 0 = true → (s.rawNow / 256 + 1) * 256 = s.startDue → w = s.wordFor s.startDue) ∧
      (∀ n < 32, n ∉ bad → (t.tile n).word = w) ∧ (∀ n < 32, n ∈ bad → (t.tile n).word = (s.tile n).word))) ∧
  (∀ (s : State) (n : Nat), Does (.timeWordLoss n) s [] [.time] (fun t =>
    (t.tile n).word = (s.tile n).word ∧ (t.tile n).missed = min 4 ((s.tile n).missed + 1) ∧
    ((t.tile n).disc = true ↔ (s.tile n).disc = true ∧ (s.tile n).missed < 3) ∧ (∀ m, m ≠ n → t.tile m = s.tile m)))

/-- A read of TB_SNAP_SHORT, or of one half of it, answers the short stamp of the tick, or that half, and latches the raw count, the full stamp
and the epoch of the same tick in the other snapshot registers (R89, R426); before READY a read answers all ones and latches nothing (R404). -/
def snapshotRead : Prop :=
  ∀ (s : State) (lanes : Lanes),
    (s.ready = true → s.running = true →
      Does (.snapRead lanes) s [TB_SNAP_RAW_RAW_LO.at_ 0, TB_SNAP_HI_RAW_HI.at_ 0, TB_SNAP_HI_SECONDS.at_ 0, TB_SNAP_LO_EPOCH.at_ 0,
          TB_SNAP_LO_NS.at_ 0, TB_SNAP_LO_FRAC.at_ 0] [.hostResp] (fun t =>
        answers t lanes (BitVec.ofNat 64 (shortOf s.fabNow)) ∧
        t.getF TB_SNAP_HI_RAW_HI 0 * 2 ^ 64 + t.getF TB_SNAP_RAW_RAW_LO 0 = s.rawNow ∧
        t.getF TB_SNAP_HI_SECONDS 0 = secOf s.fabNow ∧ t.getF TB_SNAP_LO_NS 0 = nsOf s.fabNow ∧
        t.getF TB_SNAP_LO_FRAC 0 = fracOf s.fabNow ∧ t.getF TB_SNAP_LO_EPOCH 0 = s.epoch)) ∧
    (s.ready = false → Does (.snapRead lanes) s [] [.hostResp] (fun t => answers t lanes (BitVec.allOnes 64)))

/-- What spreads time in the block: paths and delays, the time bus, and the snapshot.
Some clauses rest on choices of the model: log entries 40, 71, 103 and 104. -/
def Obligations.TimeDistribution : Prop := pathsAndDelays ∧ timeBus ∧ snapshotRead

/-- PTP reception (R76 to R78): a frame of another domain counts in FOREIGN, one that meets a full ring in DROP; any other is written at TAIL, the
bytes behind its end as zeros, and TAIL advances; each counts as a port stamp (the model's choices, log entries 105 and 106). The host moves HEAD as far as TAIL and no further. -/
def ptpReception : Prop :=
  (∀ (s : State) (port raw frac : Nat) (frame : List Byte), s.inReset = false → s.flag TB_PTP_CFG_ENABLE 0 = true →
    s.flag TB_PORT_TIME_PTP_EN port = true → isPtp frame = true →
    (((frame.drop 18).headD 0).toNat ≠ s.getF TB_PTP_CFG_DOMAIN 0 →
      Does (.ptpRx port raw frac frame) s [TB_RX_PTR_FOREIGN.at_ 0, Reg.all .CTR_LIVE, Reg.all .CTR_OVF] [.taps] (fun t =>
        t.getF TB_RX_PTR_FOREIGN 0 = (s.getF TB_RX_PTR_FOREIGN 0 + 1) % 2 ^ TB_RX_PTR_FOREIGN.width)) ∧
    (((frame.drop 18).headD 0).toNat = s.getF TB_PTP_CFG_DOMAIN 0 →
      (s.getF TB_RX_PTR_TAIL 0 + 256 - s.getF TB_RX_PTR_HEAD 0) % 256 = 128 →
      Does (.ptpRx port raw frac frame) s [TB_RX_PTR_DROP.at_ 0, Reg.all .CTR_LIVE, Reg.all .CTR_OVF] [.taps] (fun t =>
        t.getF TB_RX_PTR_DROP 0 = (s.getF TB_RX_PTR_DROP 0 + 1) % 2 ^ TB_RX_PTR_DROP.width)) ∧
    (((frame.drop 18).headD 0).toNat = s.getF TB_PTP_CFG_DOMAIN 0 →
      (s.getF TB_RX_PTR_TAIL 0 + 256 - s.getF TB_RX_PTR_HEAD 0) % 256 ≠ 128 →
      Does (.ptpRx port raw frac frame) s
        ([TB_RX_PTR_TAIL.at_ 0, Reg.all .CTR_LIVE, Reg.all .CTR_OVF] ++
          (List.range 16).map (fun i => Reg.at_ .RX_RING (s.getF TB_RX_PTR_TAIL 0 % 128 * 16 + i))) [.taps] (fun t =>
        t.getF TB_RX_PTR_TAIL 0 = (s.getF TB_RX_PTR_TAIL 0 + 1) % 256 ∧
        t.getWords .RX_RING (s.getF TB_RX_PTR_TAIL 0 % 128 * 16) 16 = s.rxEntry port raw frac frame))) ∧
  (∀ (s : State) (data : Word), s.ready = true →
    ((TB_RX_PTR_HEAD.of data + 256 - s.getF TB_RX_PTR_HEAD 0) % 256 ≤
        (s.getF TB_RX_PTR_TAIL 0 + 256 - s.getF TB_RX_PTR_HEAD 0) % 256 →
      Does (.rxRingHeadWrite data) s [TB_RX_PTR_HEAD.at_ 0] [] (fun t => t.getF TB_RX_PTR_HEAD 0 = TB_RX_PTR_HEAD.of data)) ∧
    (¬ (TB_RX_PTR_HEAD.of data + 256 - s.getF TB_RX_PTR_HEAD 0) % 256 ≤
        (s.getF TB_RX_PTR_TAIL 0 + 256 - s.getF TB_RX_PTR_HEAD 0) % 256 → Idle (.rxRingHeadWrite data) s))

/-- Control transmit slots (R79 to R81): GO clears DONE and WD and posts the slot, one that is still posted anew (the model's choice, log entry 109),
which departs at once with LAUNCH 0 and waits for a gate
otherwise; WITHDRAW of a posted slot sets WD and DONE; a departure sets DONE, stores the stamp and epoch of departure, counts the frame, frees the
slot and puts out the frame with its check sequence. No frame starts on a port in the GUARD ns before the target of another gate of that port that
is ARMED, or has acted, in time or LATE, before its target (R87). -/
def transmitSlots : Prop :=
  (∀ (s : State) (data : Word) (i : Nat), s.ready = true → TB_TX_POST_SLOT.of data = i → TB_TX_POST_GO.on data = true →
    TB_TX_POST_WITHDRAW.on data = false →
    Does (.txPost data) s [TX_CTL_DONE.at_ i, TX_CTL_WD.at_ i] [.time] (fun t =>
      t.flag TX_CTL_DONE i = false ∧ t.flag TX_CTL_WD i = false ∧ (t.txSlot i).posted = true ∧ (t.txSlot i).stepped = false ∧
      ((t.txSlot i).launched = true ↔ s.getF TX_CTL_LAUNCH i = 0) ∧ (∀ j, j ≠ i → t.txSlot j = s.txSlot j) ∧
      t.time = { s.time with tx := t.time.tx })) ∧
  (∀ (s : State) (data : Word) (i : Nat), s.ready = true → TB_TX_POST_SLOT.of data = i → TB_TX_POST_GO.on data = false →
    TB_TX_POST_WITHDRAW.on data = true → (s.txSlot i).posted = true →
    Does (.txWithdraw data) s [TX_CTL_DONE.at_ i, TX_CTL_WD.at_ i] [.time] (fun t =>
      t.flag TX_CTL_WD i = true ∧ t.flag TX_CTL_DONE i = true ∧ (t.txSlot i).posted = false ∧
      (∀ j, j ≠ i → t.txSlot j = s.txSlot j) ∧ t.time = { s.time with tx := t.time.tx })) ∧
  (∀ (s : State) (i raw frac : Nat), s.inReset = false → s.running = true → (s.txSlot i).posted = true → (s.txSlot i).launched = true →
    s.guarded (s.txSlot i).port (s.txSlot i).byGate raw frac = false →
    Does (.txDepart i raw frac) s [TX_CTL_DONE.at_ i, TX_CTL_EPX.at_ i, TX_CTL_INS_ERR.at_ i, TX_CTL_TX_EPOCH.at_ i, Reg.at_ .TX_STAMP i,
        TB_TX_STAT_INS_ERR.at_ 0, TB_TX_STAT_SENT.at_ 0] [.time, .taps, .out] (fun t =>
      let td := antennaFab ((s.tile (tileOf (s.txSlot i).port)).wordAt raw) raw frac + s.getF TB_LANE_ADJ_TX_ADJ (s.txSlot i).port * 2 ^ 24
      t.flag TX_CTL_DONE i = true ∧ t.flag TX_CTL_EPX i = (s.txSlot i).stepped ∧
      t.flag TX_CTL_INS_ERR i = (s.txFrame i (s.txSlot i).port td).2.1 ∧
      t.getReg .TX_STAMP i = BitVec.ofNat 64 (shortOf td) ∧
      t.getF TB_TX_STAT_SENT 0 = (s.getF TB_TX_STAT_SENT 0 + 1) % 2 ^ TB_TX_STAT_SENT.width ∧ (t.txSlot i).posted = false ∧
      t.out = s.out ++ [.ctlFrame (s.txSlot i).port
        ((s.txFrame i (s.txSlot i).port td).1 ++ leBytes 4 (crc32 (s.txFrame i (s.txSlot i).port td).1))])) ∧
  (∀ (s : State) (i raw frac : Nat) (e : Nat × Gate), s.running = true → e ∈ s.time.gates → e.2.port = (s.txSlot i).port →
    (s.txSlot i).byGate ≠ some e.1 → s.gateState e.1 ∈ [1, 2, 3] →
    targetGap e.2.signed e.2.lo e.2.hi (s.fabAt raw frac) < 0 →
    -(e.2.guard_ * 65536 : Nat) ≤ targetGap e.2.signed e.2.lo e.2.hi (s.fabAt raw frac) → Idle (.txDepart i raw frac) s)

/-- PTP frames received and sent.
Some clauses rest on choices of the model: log entries 42, 44, 105, 106 and 109. -/
def Obligations.PtpFrames : Prop := ptpReception ∧ transmitSlots

/-- Sluice gates (R85 to R87): ARM copies the staged target and configuration and, when the target has not passed, leaves the gate ARMED with a
clear status; a target that has passed ends MISSED with NO_LATE, and acts LATE otherwise, at once, or in its turn when a gate has fired in this tick or a lower one is due in it.
CANCEL before the firing tick ends CANCELLED. The lowest gate that is due fires, one a tick: FIRED and counted, or LATE with the ticks that it has
waited for its turn. A launch held up by a frame adds its whole delay to LATE (the model's choice, log entry 42); an egress queue closes at its close time. -/
def sluiceGates : Prop :=
  (∀ (s : State) (data : Word) (g : Nat), s.ready = true → SG_CMD_GATE.of data = g → SG_CMD_ARM.on data = true →
    SG_CMD_CANCEL.on data = false →
    let x : Gate := { s.stagedGate with copied := true, epoch := s.epoch }
    (s.passed (s.lead x) x.signed x.lo x.hi x.epoch = false →
      Does (.sgArm data) s [Reg.at_ .SG_STAT g] [.time] (fun t => t.getReg .SG_STAT g = putBits 0 SG_STAT_STATE.hi SG_STAT_STATE.lo 1 ∧
        t.gate g = x ∧ (∀ h, h ≠ g → t.gate h = s.gate h))) ∧
    (s.passed (s.lead x) x.signed x.lo x.hi x.epoch = true → x.noLate = true →
      Does (.sgArm data) s [Reg.at_ .SG_STAT g, SG_COUNT_LATE.at_ 0] [.time, .taps] (fun t => t.gateState g = 4 ∧
        t.getF SG_COUNT_LATE 0 = (s.getF SG_COUNT_LATE 0 + 1) % 2 ^ SG_COUNT_LATE.width)) ∧
    (s.passed (s.lead x) x.signed x.lo x.hi x.epoch = true → x.noLate = false → s.time.lastGate = none →
      (∀ e ∈ s.time.gates, e.1 < g → s.gateDue e.1 = false) →
      Does (.sgArm data) s [Reg.at_ .SG_STAT g, SG_COUNT_LATE.at_ 0] [.time, .taps, .out, .freeCtr] (fun t => t.gateState g = 3 ∧
        t.time.lastGate = some g ∧ t.getF SG_COUNT_LATE 0 = (s.getF SG_COUNT_LATE 0 + 1) % 2 ^ SG_COUNT_LATE.width)) ∧
    (s.passed (s.lead x) x.signed x.lo x.hi x.epoch = true → x.noLate = false →
      (s.time.lastGate ≠ none ∨ ∃ e ∈ s.time.gates, e.1 < g ∧ s.gateDue e.1 = true) →
      Does (.sgArm data) s [Reg.at_ .SG_STAT g] [.time] (fun t => t.gateState g = 1 ∧ t.gate g = { x with late := some s.rawNow }))) ∧
  (∀ (s : State) (data : Word) (g : Nat), s.ready = true → SG_CMD_GATE.of data = g → SG_CMD_ARM.on data = false →
    SG_CMD_CANCEL.on data = true → s.gateState g = 1 → s.gateDue g = false →
    Does (.sgCancel data) s [SG_STAT_STATE.at_ g] [] (fun t => t.gateState g = 5)) ∧
  (∀ (s : State) (g : Nat) (scheduled waiting : Bool), s.inReset = false → s.gateDue g = true → s.time.lastGate = none →
    (∀ e ∈ s.time.gates, e.1 < g → s.gateDue e.1 = false) →
    Does (.gateFire g scheduled waiting) s
      ([SG_STAT_STATE.at_ g, SG_STAT_SLIP.at_ g, SG_STAT_LATE.at_ g, SG_STAT_NOFRAME.at_ g] ++
        [if (s.gate g).late = none then SG_COUNT_FIRED.at_ 0 else SG_COUNT_LATE.at_ 0])
      [.time, .taps, .out] (fun t => t.time.lastGate = some g ∧
        ((s.gate g).late = none → t.gateState g = 2 ∧ t.getF SG_STAT_SLIP g = s.slipOf (s.gate g) % 2 ^ SG_STAT_SLIP.width ∧
          t.getF SG_COUNT_FIRED 0 = (s.getF SG_COUNT_FIRED 0 + 1) % 2 ^ SG_COUNT_FIRED.width) ∧
        (∀ r, (s.gate g).late = some r → t.gateState g = 3 ∧ t.getF SG_STAT_SLIP g = (s.rawNow - r) % 2 ^ SG_STAT_SLIP.width ∧
          t.getF SG_COUNT_LATE 0 = (s.getF SG_COUNT_LATE 0 + 1) % 2 ^ SG_COUNT_LATE.width) ∧
        ((s.gate g).action ≠ 0 → t.out = s.out ++ [.egress (s.gate g).action (s.gate g).port (s.gate g).queue]) ∧
        ((s.gate g).action = 0 → (s.txSlot (s.gate g).slot).posted = true → s.getF TX_CTL_LAUNCH (s.gate g).slot = 1 →
          (t.txSlot (s.gate g).slot).launched = true ∧ (t.txSlot (s.gate g).slot).port = (s.gate g).port))) ∧
  (∀ (s : State) (g ns : Nat), s.inReset = false → s.gateState g = 2 ∨ s.gateState g = 3 →
    Does (.gateDelayedLaunch g ns) s [SG_STAT_LATE.at_ g] [] (fun t =>
      t.getF SG_STAT_LATE g = min (s.getF SG_STAT_LATE g + ns) (2 ^ 32 - 1))) ∧
  (∀ (s : State) (port q u : Nat), s.inReset = false → s.egressOf port q = .until u → u ≤ s.fabNow →
    Does (.egressOpenExpire port q) s [] [.time] (fun t => t.egressOf port q = .closed ∧ t.time.gates = s.time.gates ∧
      t.time.tx = s.time.tx ∧ t.time.hist = s.time.hist))

/-! ### Grants, the loader, mailboxes (chapter 03) -/

/-- A context timer fires when its comparator holds (R153): it is FIRED, or, where the context waits for it, TWAIT completes: rd gets the
states of the timers, PD 1, the completed timers of its mask return to IDLE and the context is RUNNABLE (R155). -/
def timerFires : Prop :=
  ∀ (s : State) (c i : Nat), s.inReset = false → i < 4 → ((s.ctx c).timer i).state = 1 →
    s.holdsNow 0 ((s.ctx c).timer i).signed ((s.ctx c).timer i).lo ((s.ctx c).timer i).hi ((s.ctx c).timer i).epoch = true →
    (s.cxState c ≠ 4 → Does (.timerFire c i) s [] [.ctxs] (fun t =>
      t.ctx c = (s.ctx c).setTimer i { (s.ctx c).timer i with state := 2 } ∧ ∀ d, d ≠ c → t.ctx d = s.ctx d)) ∧
    (∀ mask rd pd, s.cxState c = 4 → pd < 8 → (s.ctx c).wait = .twait mask rd pd → mask / 2 ^ i % 2 = 1 →
      Does (.timerFire c i) s [CX_STATUS_STATE.at_ c] [.ctxs] (fun t => t.cxState c = 3 ∧ (t.ctx c).wait = .none ∧
        (t.ctx c).pr pd = true ∧ ((t.ctx c).timer i).state = 0 ∧
        (t.ctx c).gr (BitVec.ofNat 5 rd) =
          (if BitVec.ofNat 5 rd = 0 then 0 else ((s.ctx c).setTimer i { (s.ctx c).timer i with state := 2 }).timerStates) ∧
        ∀ d, d ≠ c → t.ctx d = s.ctx d))

/-- Sluice gates and the timers of contexts.
Some clauses rest on choices of the model: log entries 41, 42 and 87. -/
def Obligations.GatesAndTimers : Prop := sluiceGates ∧ timerFires

/-- A write of TN_CTX_MASK (R98): a bit set grants an OFF context, which becomes IDLE in that tenant; a bit cleared takes away a context of the
tenant that is IDLE, HALTED or TRAPPED, which becomes OFF without an image; every other bit is without effect. -/
def contextGrants : Prop :=
  ∀ (s : State) (t i : Nat) (data : Word), s.ready = true → t < 64 → i < 4 →
    Does (.ctxMaskWrite t i data) s [Reg.at_ .TN_CTX_MASK (4 * t + i), CX_STATUS_STATE.all, CX_STATUS_TENANT.all, CX_STATUS_IMAGE_VALID.all,
        CX_STATUS_DEP.all, CX_STATUS_PRIOR.all] [.ctxs, .cores] (fun u =>
      (∀ n < 64, data.getLsbD n = true → bitOf (s.getReg .TN_CTX_MASK (4 * t + i)) n = false → s.cxState (64 * i + n) = 0 →
        u.cxState (64 * i + n) = 1 ∧ u.tenantOf (64 * i + n) = t ∧ bitOf (u.getReg .TN_CTX_MASK (4 * t + i)) n = true) ∧
      (∀ n < 64, data.getLsbD n = false → bitOf (s.getReg .TN_CTX_MASK (4 * t + i)) n = true → s.resting (64 * i + n) = true →
        u.cxState (64 * i + n) = 0 ∧ u.flag CX_STATUS_IMAGE_VALID (64 * i + n) = false ∧
        bitOf (u.getReg .TN_CTX_MASK (4 * t + i)) n = false) ∧
      (∀ n < 64, bitOf (s.getReg .TN_CTX_MASK (4 * t + i)) n = data.getLsbD n →
        u.cxState (64 * i + n) = s.cxState (64 * i + n) ∧ bitOf (u.getReg .TN_CTX_MASK (4 * t + i)) n = data.getLsbD n) ∧
      (∀ n < 64, data.getLsbD n = true → bitOf (s.getReg .TN_CTX_MASK (4 * t + i)) n = false → s.cxState (64 * i + n) ≠ 0 →
        u.cxState (64 * i + n) = s.cxState (64 * i + n) ∧ u.tenantOf (64 * i + n) = s.tenantOf (64 * i + n) ∧
        bitOf (u.getReg .TN_CTX_MASK (4 * t + i)) n = false) ∧
      (∀ n < 64, data.getLsbD n = false → bitOf (s.getReg .TN_CTX_MASK (4 * t + i)) n = true → s.resting (64 * i + n) = false →
        u.cxState (64 * i + n) = s.cxState (64 * i + n) ∧ bitOf (u.getReg .TN_CTX_MASK (4 * t + i)) n = true) ∧
      (∀ c, c / 64 ≠ i → u.cxState c = s.cxState c ∧ u.ctx c = s.ctx c))

/-- A write of TN_GATES is discarded whole unless the tenant is FREE, the range ends at gate 4,095 or before, and it meets no other tenant's
range (R97). -/
def gateRangeWrite : Prop :=
  ∀ (s : State) (t : Nat) (data : Word), s.ready = true → t < 64 →
    (s.tnState t = 0 → TN_GATES_BASE.of data + TN_GATES_COUNT.of data ≤ 4096 →
      (TN_GATES_COUNT.of data = 0 ∨ s.gatesMeet t (TN_GATES_BASE.of data) (TN_GATES_COUNT.of data) = false) →
      Does (.tnGatesWrite t data) s [TN_GATES_BASE.at_ t, TN_GATES_COUNT.at_ t] [] (fun u =>
        u.getF TN_GATES_BASE t = TN_GATES_BASE.of data ∧ u.getF TN_GATES_COUNT t = TN_GATES_COUNT.of data)) ∧
    (s.tnState t ≠ 0 → Idle (.tnGatesWrite t data) s) ∧
    (4096 < TN_GATES_BASE.of data + TN_GATES_COUNT.of data → Idle (.tnGatesWrite t data) s) ∧
    (TN_GATES_COUNT.of data ≠ 0 → s.gatesMeet t (TN_GATES_BASE.of data) (TN_GATES_COUNT.of data) = true → Idle (.tnGatesWrite t data) s)

/-- What a tenant is granted: contexts and gate ranges. -/
def Obligations.TenantGrants : Prop := contextGrants ∧ gateRangeWrite

/-- A word for LD_CMD that asks for one command alone. -/
def oneLoaderCommand (f : Fld) (data : Word) : Prop :=
  [LD_CMD_GO, LD_CMD_RESUME, LD_CMD_ABANDON].all (fun g => decide (Fld.on data g = decide (g = f))) = true

/-- A context that a load has left without an image (R101, R103, R148, R153): IDLE, its dependence and its timers gone. -/
def emptyCtx (t : State) (c : Nat) : Prop :=
  t.cxState c = 1 ∧ t.flag CX_STATUS_IMAGE_VALID c = false ∧ t.flag CX_STATUS_DEP c = false ∧ (t.ctx c).dep = none ∧
    (t.ctx c).dvoid = false ∧ (t.ctx c).timers = []

/-- The loader's commands (R101, R102). GO with no descriptor held and every named context granted and at rest takes one: BUSY, POS 0, its stream
RUNNING; with one held it ends at once with REASON 7, and for contexts that may not be loaded with REASON 1. RESUME of a faulted load whose
header was read goes on from POS, what was read before POS being kept. ABANDON of a faulted load ends it with REASON 6, its contexts without an
image when they were LOADING. -/
def loaderCommands : Prop :=
  ∀ (s : State) (data : Word), s.ready = true →
    (∀ d : LoadDesc, oneLoaderCommand LD_CMD_GO data → s.load = none → d = { src := s.getF LD_SRC_ADDR 0, tenant := s.getF LD_CFG_TENANT 0, core := s.getF LD_CFG_CORE 0, mask := s.getF LD_CFG_CTX_MASK 0, start := s.flag LD_CFG_START 0 } →
      (s.loadable d = true →
        Does (.loaderGo data) s [LD_STAT_BUSY.at_ 0, LD_STAT_FAULT.at_ 0, LD_STAT_POS.at_ 0, DS_STAT_STATE.at_ (ds d.tenant 8),
            DS_STAT_POS.at_ (ds d.tenant 8)] [.load] (fun t => t.load = some d ∧ t.flag LD_STAT_BUSY 0 = true ∧
          t.getF LD_STAT_POS 0 = 0 ∧ t.flag LD_STAT_FAULT 0 = false ∧ t.dsState d.tenant 8 = 1)) ∧
      (s.loadable d = false →
        Does (.loaderGo data) s (irqSpots ++ [LD_STAT_REASON.at_ 0, LD_STAT_DONE.at_ 0]) [.out] (fun t =>
          t.getF LD_STAT_REASON 0 = 1 ∧ t.flag LD_STAT_DONE 0 = true))) ∧
    (oneLoaderCommand LD_CMD_GO data → s.load ≠ none →
      Does (.loaderGo data) s (irqSpots ++ [LD_STAT_REASON.at_ 0, LD_STAT_DONE.at_ 0]) [.out] (fun t =>
        t.getF LD_STAT_REASON 0 = 7 ∧ t.flag LD_STAT_DONE 0 = true)) ∧
    (∀ d, oneLoaderCommand LD_CMD_RESUME data → s.load = some d → d.body = true → s.flag LD_STAT_FAULT 0 = true →
      Does (.loaderResume data) s [LD_STAT_BUSY.at_ 0, LD_STAT_FAULT.at_ 0, LD_STAT_POS.at_ 0, DS_STAT_STATE.at_ (ds d.tenant 8),
          DS_STAT_POS.at_ (ds d.tenant 8)] [.load] (fun t =>
        t.load = some { d with got := d.got.take (s.getF LD_STAT_POS 0 / 64 * 64 - 64) } ∧ t.flag LD_STAT_FAULT 0 = false ∧ t.getF LD_STAT_POS 0 = s.getF LD_STAT_POS 0 / 64 * 64 ∧ t.dsState d.tenant 8 = 1)) ∧
    (∀ d, oneLoaderCommand LD_CMD_ABANDON data → s.load = some d → d.body = false → s.flag LD_STAT_FAULT 0 = true →
      Does (.loaderAbandon data) s (irqSpots ++ [LD_STAT_BUSY.at_ 0, LD_STAT_FAULT.at_ 0, LD_STAT_REASON.at_ 0, LD_STAT_DONE.at_ 0,
          DS_STAT_STATE.at_ (ds d.tenant 8), DS_STAT_LAST.at_ (ds d.tenant 8)]) [.load, .out] (fun t =>
        t.load = none ∧ t.flag LD_STAT_BUSY 0 = false ∧ t.getF LD_STAT_REASON 0 = 6 ∧ t.flag LD_STAT_DONE 0 = true ∧
        t.dsState d.tenant 8 = 0 ∧ t.getF DS_STAT_LAST (ds d.tenant 8) = 2)) ∧
    (∀ d, oneLoaderCommand LD_CMD_ABANDON data → s.load = some d → d.body = true → s.flag LD_STAT_FAULT 0 = true →
      Does (.loaderAbandon data) s (irqSpots ++ [LD_STAT_BUSY.at_ 0, LD_STAT_FAULT.at_ 0, LD_STAT_REASON.at_ 0, LD_STAT_DONE.at_ 0,
          DS_STAT_STATE.at_ (ds d.tenant 8), DS_STAT_LAST.at_ (ds d.tenant 8), CX_STATUS_STATE.all, CX_STATUS_IMAGE_VALID.all,
          CX_STATUS_DEP.all]) [.load, .out, .ctxs] (fun t =>
        t.load = none ∧ t.getF LD_STAT_REASON 0 = 6 ∧ (∀ c ∈ d.ctxs, emptyCtx t c) ∧ (∀ c, c ∉ d.ctxs → t.ctx c = s.ctx c)))

/-- The steps of a load (R101, R102). After the header the contexts are LOADING, or the descriptor ends with the reason of the first check that
fails; the image is what follows the header that was read then, what had been read before a fault included. An image that passes its checks
leaves the contexts with its ID, valid, at ENTRY and everything else clear, RUNNABLE with START and IDLE without; one that fails them
leaves them IDLE without an image. A fault stalls the load at its position. -/
def loadSteps : Prop :=
  ∀ (s : State) (d : LoadDesc), s.inReset = false → s.load = some d → s.flag LD_STAT_FAULT 0 = false →
    (∀ hdr, d.body = false → s.xlBytes d.tenant d.src 64 = .ok hdr → s.loadRefusal d hdr = 0 →
      Does .loadHeaderRead s [LD_STAT_BUSY.at_ 0, LD_STAT_POS.at_ 0, DS_STAT_POS.at_ (ds d.tenant 8), CX_STATUS_STATE.all] [.load] (fun t =>
        t.load = some { d with body := true, hdr := hdr, got := [] } ∧ t.getF LD_STAT_POS 0 = 64 ∧ (∀ c ∈ d.ctxs, t.cxState c = 2) ∧
        (∀ c, c ∉ d.ctxs → t.cxState c = s.cxState c))) ∧
    (∀ hdr, d.body = false → s.xlBytes d.tenant d.src 64 = .ok hdr → s.loadRefusal d hdr ≠ 0 →
      Does .loadHeaderRead s (irqSpots ++ [LD_STAT_BUSY.at_ 0, LD_STAT_FAULT.at_ 0, LD_STAT_REASON.at_ 0, LD_STAT_DONE.at_ 0,
          DS_STAT_STATE.at_ (ds d.tenant 8), DS_STAT_LAST.at_ (ds d.tenant 8)]) [.load, .out] (fun t =>
        t.load = none ∧ t.getF LD_STAT_REASON 0 = s.loadRefusal d hdr ∧ t.flag LD_STAT_DONE 0 = true ∧ t.dsState d.tenant 8 = 0)) ∧
    (∀ more text data, d.body = true →
      s.xlBytes d.tenant (d.src + 64 + d.got.length) (fieldAt d.hdr 12 4 + fieldAt d.hdr 16 4 - d.got.length) = .ok more →
      text = (d.got ++ more).take (fieldAt d.hdr 12 4) → data = ((d.got ++ more).drop (fieldAt d.hdr 12 4)).take (fieldAt d.hdr 16 4) →
      (imageFails d.hdr text data = 0 →
        Does .loadComplete s (irqSpots ++ [LD_STAT_BUSY.at_ 0, LD_STAT_FAULT.at_ 0, LD_STAT_POS.at_ 0, LD_STAT_DONE.at_ 0,
            DS_STAT_STATE.at_ (ds d.tenant 8), DS_STAT_LAST.at_ (ds d.tenant 8), DS_STAT_POS.at_ (ds d.tenant 8), CX_STATUS_STATE.all,
            CX_STATUS_IMAGE_VALID.all, CX_STATUS_IMAGE_ID.all, CX_STATUS_DEP.all]) [.load, .out, .cores, .ctxs] (fun t =>
          t.load = none ∧ t.flag LD_STAT_DONE 0 = true ∧ t.getF DS_STAT_LAST (ds d.tenant 8) = 1 ∧
          (∀ c ∈ d.ctxs, t.ctx c = { pc := BitVec.ofNat 64 (fieldAt d.hdr 20 4) } ∧
            t.imageOf c = fieldAt d.hdr 8 4 % 2 ^ CX_STATUS_IMAGE_ID.width ∧ t.flag CX_STATUS_IMAGE_VALID c = true ∧
            t.cxState c = (if d.start then 3 else 1)))) ∧
      (imageFails d.hdr text data ≠ 0 →
        Does .loadComplete s (irqSpots ++ [LD_STAT_BUSY.at_ 0, LD_STAT_FAULT.at_ 0, LD_STAT_POS.at_ 0, LD_STAT_DONE.at_ 0,
            LD_STAT_REASON.at_ 0, DS_STAT_STATE.at_ (ds d.tenant 8), DS_STAT_LAST.at_ (ds d.tenant 8), DS_STAT_POS.at_ (ds d.tenant 8),
            CX_STATUS_STATE.all, CX_STATUS_IMAGE_VALID.all, CX_STATUS_DEP.all]) [.load, .out, .cores, .ctxs] (fun t => t.load = none ∧
          t.getF LD_STAT_REASON 0 = imageFails d.hdr text data ∧ (∀ c ∈ d.ctxs, emptyCtx t c)))) ∧
    (∀ cause va pos, Does (.loadFault cause va pos) s (formSpots ++ irqSpots ++ [LD_STAT_BUSY.at_ 0, LD_STAT_FAULT.at_ 0, LD_STAT_POS.at_ 0,
        DS_STAT_STATE.at_ (ds d.tenant 8), DS_STAT_POS.at_ (ds d.tenant 8), DS_FAULT_CAUSE.at_ (ds d.tenant 8), DS_FAULT_ADDR.at_ (ds d.tenant 8)])
        (formParts ++ [.out, .load]) (fun t => t.flag LD_STAT_FAULT 0 = true ∧ (∃ got, t.load = some { d with got := got }) ∧
          (d.body = false → t.load = some d) ∧ t.dsState d.tenant 8 = 2 ∧
          t.getF DS_FAULT_CAUSE (ds d.tenant 8) = cause % 2 ^ DS_FAULT_CAUSE.width ∧
          t.getF DS_FAULT_ADDR (ds d.tenant 8) = va % 2 ^ DS_FAULT_ADDR.width))

/-- The loader: its commands and its steps.
Some clauses rest on choices of the model: log entries 13 and 52. -/
def Obligations.ProgramLoader : Prop := loaderCommands ∧ loadSteps

/-- Mailboxes (R120, R121). An acknowledgement whose SEQ is the shown one clears READY, and a parked result whose window is crystallised is shown
at once: its bytes, LEN and SEQ + 1. Another SEQ is without effect. A read of MB_HDR, or of one half of it, answers the header or that half and latches the shown result (R426). -/
def mailboxHostSide : Prop :=
  ∀ (s : State) (m : Nat) (data : Word), s.ready = true → m < 256 →
    (MB_ACK_ACK.on data = true → s.flag MB_HDR_READY m = true → MB_ACK_SEQ.of data = s.getF MB_HDR_SEQ m → (s.mailbox m).parked = none →
      Does (.mbAck m data) s [MB_HDR_READY.at_ m] [] (fun t => t.flag MB_HDR_READY m = false)) ∧
    (∀ p : Parked, MB_ACK_ACK.on data = true → s.flag MB_HDR_READY m = true → MB_ACK_SEQ.of data = s.getF MB_HDR_SEQ m →
      (s.mailbox m).parked = some p → p.sealed = true →
      Does (.mbAck m data) s (tenantIrqSpots ++ [MB_HDR_READY.at_ m, MB_HDR_PARKED.at_ m, MB_HDR_LEN.at_ m, MB_HDR_SEQ.at_ m]) [.mbox, .out]
        (fun t => t.flag MB_HDR_READY m = true ∧ t.flag MB_HDR_PARKED m = false ∧ (t.mailbox m).parked = none ∧
          t.getF MB_HDR_LEN m = p.len % 2 ^ MB_HDR_LEN.width ∧ t.getF MB_HDR_SEQ m = (s.getF MB_HDR_SEQ m + 1) % 2 ^ MB_HDR_SEQ.width ∧
          (t.mailbox m).shown = padTo 48 (padTo p.len p.data))) ∧
    (MB_ACK_SEQ.of data ≠ s.getF MB_HDR_SEQ m ∨ MB_ACK_ACK.on data = false → Idle (.mbAck m data) s) ∧
    ∀ lanes, Does (.mbHdrRead m lanes) s ((List.range 6).map (fun i => Reg.at_ .MB_DATA (6 * m + i))) [.hostResp] (fun t =>
      answers t lanes (s.getReg .MB_HDR m) ∧ ∀ i < 6, t.getReg .MB_DATA (6 * m + i) =
        BitVec.ofNat 64 (leNat (((s.mailbox m).shown.drop (8 * i)).take 8)))

/-- A store's memory error that is not yet reported traps the context that made it with MEMERR (R138), also when it has halted or trapped in the
meantime (the model's choice, log entry 13): TRAPPED, cause 6, INFO the address,
the context's PC at the instruction that follows the last completed one, which is the YIELD for a context inside one (R164). Stated of a context without flow trace. -/
def storeErrorReport : Prop :=
  ∀ (s : State) (c a : Nat) (as : List Nat), s.inReset = false → s.cxState c ∈ [3, 4, 5, 6] → (s.ctx c).lateErrs = a :: as →
    s.tracesFlow c = false →
    Does (.storeMemerrReport c) s (tenantIrqSpots ++ [CX_STATUS_STATE.at_ c, CX_TRAP_CAUSE.at_ c, CX_TRAP_INFO.at_ c]) [.ctxs, .cores, .out] (fun t =>
      t.cxState c = 6 ∧ t.getF CX_TRAP_CAUSE c = 6 ∧ t.getF CX_TRAP_INFO c = a % 2 ^ CX_TRAP_INFO.width ∧ (t.ctx c).wait = .none ∧
      (t.ctx c).lateErrs = [] ∧ (∀ d, d ≠ c → t.ctx d = s.ctx d) ∧
      ((s.ctx c).latch = none → s.inYield c = false → (t.ctx c).pc = if s.cxState c = 4 then (s.ctx c).pc - 4 else (s.ctx c).pc) ∧
      ((s.ctx c).latch = none → s.inYield c = true → s.cxState c = 3 → (t.ctx c).pc = (s.ctx c).pc - 4))

/-- The host side of a mailbox, and the late report of a store that met a memory error.
Some clauses rest on choices of the model: log entries 4 and 13. -/
def Obligations.MailboxAndStoreErrors : Prop := mailboxHostSide ∧ storeErrorReport

/-! ### Tenants (chapter 03) -/

/-- What a tenant command's end may change: its state, DONE and REASON (R99). -/
def tnSpots (t : Nat) : List Spot := [TN_STATUS_STATE.at_ t, TN_STATUS_DONE.at_ t, TN_STATUS_REASON.at_ t]

/-- ACTIVATE of a FREE tenant (R99, R233, R318): ACTIVE, DONE, every counter of its partition zero without flags, and its window opens when
EN is 1 and nothing holds it back. Of a tenant in another state it is refused with REASON 1. -/
def Obligations.ActivateTenant : Prop :=
  ∀ (s : State) (t : Nat), s.ready = true → t < 64 →
    (s.tnState t = 0 →
      Does (.activate t) s (tnSpots t ++ [Reg.all .SC_COUNT, Reg.all .SC_EXP, Reg.all .SC_AUX, SC_TSTAT_POISONED.at_ t, SC_TSTAT_MIG_TRUNC.at_ t,
          WN_GEN_CUR.at_ t, WN_GEN_NEXT.at_ t, WN_STAT_STATE.at_ t]) [.mtx, .pair, .win] (fun u =>
        u.tnState t = 1 ∧ u.flag TN_STATUS_DONE t = true ∧ u.getF TN_STATUS_REASON t = s.getF TN_STATUS_REASON t ∧
        (∀ n ∈ s.counters t, u.getReg .SC_COUNT n = 0 ∧ u.getReg .SC_EXP n = 0 ∧ u.getReg .SC_AUX n = 0) ∧
        (s.getF WN_STAT_STATE t = 0 → s.flag WN_CFG_EN t = true → s.heldBack t = false →
          u.getF WN_STAT_STATE t = 1 ∧ u.openGen t = s.getF WN_GEN_NEXT t))) ∧
    (s.tnState t ≠ 0 → Does (.activate t) s (tnSpots t) [] (fun u => u.tnState t = s.tnState t ∧ u.getF TN_STATUS_REASON t = 1 ∧
      u.flag TN_STATUS_DONE t = true))

/-- PREEMPT of an ACTIVE tenant whose region suffices (R106): PREEMPTING, every granted context that is not OFF is STOPPED, a RUNNING
sequencer is SUSPENDED, and these contexts are those of the save (R109). A check that fails is reported in REASON and nothing else happens. -/
def preemptTenant : Prop :=
  ∀ (s : State) (t : Nat), s.ready = true → t < 64 →
    (s.preemptFails t = 0 →
      Does (.preempt t) s (formSpots ++ tenantIrqSpots ++ [TN_STATUS_STATE.at_ t, TS_STAT_RUNSTATE.at_ t, CX_STATUS_PRIOR.all,
          CX_STATUS_STATE.all, CX_TRAP_CAUSE.all, CX_TRAP_INFO.all, IM_TSTAT_ERRORS.all, IM_TSTAT_QUEUED.all, IM_UNIT_BUSY.all, IM_UNIT_LAUNCHES.all,
          IM_UNIT_TENANT.all]) (formParts ++ [.cores, .ctxs, .imago, .mtx, .out, .saves]) (fun u =>
        u.tnState t = 2 ∧ (u.save t).ctxs = s.ctxsOf t ∧ (∀ c ∈ s.ctxsOf t, s.cxState c ≠ 0 → u.cxState c = 7) ∧ (∀ c, c ∉ s.ctxsOf t → u.cxState c = s.cxState c) ∧
        (s.runState t = 1 → u.runState t = 2))) ∧
    (s.preemptFails t ≠ 0 → Does (.preempt t) s (tnSpots t) [] (fun u =>
      u.getF TN_STATUS_REASON t = s.preemptFails t % 2 ^ TN_STATUS_REASON.width ∧ u.flag TN_STATUS_DONE t = true ∧ u.tnState t = s.tnState t))

/-- The rest of a save (R106, R107, R111). When the launches are at rest and no weight stream runs inside its descriptor (the whole copy, for a
LOADING model: the model's choice, log entry 62), the window ends as INTERRUPTED and stays SUSPENDED, and the image's stream starts; before that
the save waits. When the trailer is written the tenant is PREEMPTED, its contexts are OFF and the stream has ended COMPLETE. A fault leaves it
TORN with REASON 8 and the stream STALLED, and RETRY_SAVE starts the stream again. -/
def saveOfTenant : Prop :=
  ∀ (s : State) (t : Nat), t < 64 →
    (∀ m < 4, s.dsState t (3 + m) = 1 → 0 < s.weightPos t m → s.weightPos t m < (s.streamDesc t m).len → Idle (.preemptQuiesced t) s) ∧
    (s.inReset = false → s.tnState t = 2 → s.dsState t 7 ≠ 1 → s.launchesQuiet t = true →
      (∀ m < 4, s.dsState t (3 + m) = 1 → s.weightPos t m = 0 ∨ (s.streamDesc t m).len ≤ s.weightPos t m) →
      Does (.preemptQuiesced t) s (formSpots ++ tenantIrqSpots ++ [DS_STAT_STATE.all, DS_STAT_POS.all, CX_STATUS_DEP.all, IM_TSTAT_QUEUED.all,
          IM_UNIT_BUSY.all, IM_UNIT_LAUNCHES.all, IM_UNIT_TENANT.all, Reg.all .MB_HDR, WN_GEN_CUR.at_ t, WN_STAT_STATE.at_ t,
          Reg.at_ .WN_LAST t, Reg.at_ .WN_LASTCNT t]) (formParts ++ [.ctxs, .imago, .mbox, .out, .saves]) (fun u =>
        u.tnState t = 2 ∧ u.dsState t 7 = 1 ∧ u.getF DS_STAT_POS (ds t 7) = 0 ∧ (∀ m < 4, s.dsState t (3 + m) = 1 → u.dsState t (3 + m) = 3) ∧
        (s.getF WN_STAT_STATE t = 1 → u.getF WN_STAT_STATE t = 2 ∧ u.openGen t = 0 ∧ u.getF WN_LAST_OUTCOME t = 3))) ∧
    (s.inReset = false → s.saving t = true → (s.writeChry t (s.save t).image.length).2 = none →
      Does (.chrysalisTrailerWritten t) s ([TN_STATUS_STATE.at_ t, TN_STATUS_DONE.at_ t, TN_STATUS_CORE_LOST.at_ t, DS_STAT_STATE.at_ (ds t 7),
          DS_STAT_POS.at_ (ds t 7), DS_STAT_LAST.at_ (ds t 7), Reg.all .TN_CTX_MASK, CX_STATUS_STATE.all, CX_STATUS_TENANT.all,
          CX_STATUS_IMAGE_VALID.all, CX_STATUS_DEP.all, CX_STATUS_PRIOR.all]) [.ctxs, .cores, .host, .salt, .saves, .mtx] (fun u =>
        u.tnState t = 3 ∧ u.flag TN_STATUS_DONE t = true ∧ u.dsState t 7 = 0 ∧ u.getF DS_STAT_LAST (ds t 7) = 1 ∧
        (∀ c ∈ (s.save t).ctxs, u.cxState c = 0) ∧ u.salt = (s.writeChry t (s.save t).image.length).1.salt ∧
        u.host = (s.writeChry t (s.save t).image.length).1.host)) ∧
    (∀ cause va, s.inReset = false → s.saving t = true → 1 ≤ cause → cause ≤ 8 → s.chryBase t ≤ va →
      va < s.chryBase t + (s.save t).image.length →
      Does (.chrysalisFault t cause va) s (formSpots ++ irqSpots ++ tnSpots t ++ [DS_STAT_STATE.at_ (ds t 7), DS_STAT_POS.at_ (ds t 7),
          DS_FAULT_CAUSE.at_ (ds t 7), DS_FAULT_ADDR.at_ (ds t 7)]) (formParts ++ [.host, .salt, .mtx, .out]) (fun u =>
        u.tnState t = 4 ∧ u.getF TN_STATUS_REASON t = 8 ∧ u.flag TN_STATUS_DONE t = true ∧ u.dsState t 7 = 2)) ∧
    (s.ready = true → s.tnState t = 4 →
      Does (.retrySave t) s [TN_STATUS_STATE.at_ t, DS_STAT_STATE.at_ (ds t 7), DS_STAT_POS.at_ (ds t 7)] [.mtx] (fun u =>
        u.tnState t = 2 ∧ u.dsState t 7 = 1 ∧ u.getF DS_STAT_POS (ds t 7) = 0))

/-- Pre-emption of a tenant, and the save of its state.
Some clauses rest on choices of the model: log entries 13, 15 and 62. -/
def Obligations.PreemptionAndSave : Prop := preemptTenant ∧ saveOfTenant

/-- What a fault of the chrysalis stream of tenant `t` may change while an image is read. -/
def imageFaultSpots (t : Nat) : List Spot :=
  formSpots ++ irqSpots ++ tnSpots t ++ [DS_STAT_STATE.at_ (ds t 7), DS_STAT_POS.at_ (ds t 7), DS_FAULT_CAUSE.at_ (ds t 7),
    DS_FAULT_ADDR.at_ (ds t 7)]

/-- The read of an image has faulted (R99, R310): REASON 8, and the stream is STALLED with its cause and address and the interrupt. -/
def imageFaulted (u : State) (t cause va : Nat) : Prop :=
  u.getF TN_STATUS_REASON t = 8 ∧ u.flag TN_STATUS_DONE t = true ∧ u.dsState t 7 = 2 ∧
  u.getF DS_FAULT_CAUSE (ds t 7) = cause % 2 ^ DS_FAULT_CAUSE.width ∧ u.getF DS_FAULT_ADDR (ds t 7) = va % 2 ^ DS_FAULT_ADDR.width ∧
  u.arrBit .IRQ_PEND 5 = true

/-- RESTORE (R114): refused as TORN from TORN and as STATE from any state but FREE and PREEMPTED; with a sound image, enough free contexts of
the same image and a fitting layout the tenant is RESTORING, the stream runs and the targets are chosen in ascending order. A fault while the image
is read stalls the stream with its cause and address, as any other (R310), and returns the tenant to the state before, with REASON 8; an image that
fails its checks is refused with REASON 5. -/
def restoreTenant : Prop :=
  ∀ (s : State) (t : Nat), t < 64 →
    (∀ hold, s.ready = true → s.tnState t ≠ 0 → s.tnState t ≠ 3 →
      Does (.restore t hold) s (tnSpots t) [] (fun u => u.getF TN_STATUS_REASON t = (if s.tnState t = 4 then 4 else 1) ∧
        u.flag TN_STATUS_DONE t = true ∧ u.tnState t = s.tnState t)) ∧
    (∀ hold img free targets, s.ready = true → s.tnState t = 0 ∨ s.tnState t = 3 → s.readImage t = .ok img →
      free = (s.ctxsOf t).filter (fun c => s.cxState c == 1 && s.flag CX_STATUS_IMAGE_VALID c) → imgN img ≤ free.length →
      targets = free.take (imgN img) → (∀ x ∈ (List.range targets.length).zip targets, ctxField img x.1 268 4 = s.imageOf x.2) →
      s.imgLayout img targets = true →
      Does (.restore t hold) s [TN_STATUS_STATE.at_ t, DS_STAT_STATE.at_ (ds t 7), DS_STAT_POS.at_ (ds t 7)] [.restores, .mtx] (fun u =>
        u.tnState t = 5 ∧ u.dsState t 7 = 1 ∧ ∃ r, smGet none u.restores t = some r ∧ r.image = img ∧ r.hold = hold ∧ r.targets = targets ∧
          r.prev = s.tnState t)) ∧
    (∀ hold, s.ready = true → s.tnState t = 0 ∨ s.tnState t = 3 → s.readImage t = .error (5, none) →
      Does (.restore t hold) s (tnSpots t) [] (fun u => u.getF TN_STATUS_REASON t = 5 ∧ u.flag TN_STATUS_DONE t = true ∧
        u.tnState t = s.tnState t)) ∧
    (∀ hold cause va, s.ready = true → s.tnState t = 0 ∨ s.tnState t = 3 → s.readImage t = .error (8, some (cause, va)) →
      Does (.restore t hold) s (imageFaultSpots t) (formParts ++ [.out]) (fun u => imageFaulted u t cause va ∧ u.tnState t = s.tnState t)) ∧
    (∀ r cause va, s.inReset = false → s.tnState t = 5 → smGet none s.restores t = some r → 1 ≤ cause → cause ≤ 8 → s.chryBase t ≤ va →
      va < s.chryBase t + r.image.length →
      Does (.restoreFault t cause va) s (imageFaultSpots t) (formParts ++ [.restores, .mtx, .out]) (fun u => imageFaulted u t cause va ∧
        u.tnState t = r.prev % 8 ∧ smGet none u.restores t = none ∧
        u.getF DS_STAT_POS (ds t 7) = (va - s.chryBase t) / 64 * 64 % 2 ^ DS_STAT_POS.width))

/-- What a restore may change in the registers (R115, R226, R249, R278, R325): contexts, streams, the sequencer, and on a migration the tenant's
counters, ledger cursor, window and mailboxes. -/
def restoreSpots : List Spot :=
  formSpots ++ tenantIrqSpots ++ ([.CX_STATUS, .CX_TRAP, .DS_STAT, .DS_FAULT, .IM_TSTAT, .LG_CURSOR, .LG_GSTAT, .LG_PBASE_HI, .LG_PBASE_LO,
    .LG_STATUS, .MB_HDR, .SC_COUNT, .SC_EXP, .SC_AUX, .SC_TSTAT, .SC_WCFG, .SC_WPEND, .TN_STATUS, .TS_MARK, .TS_STAT, .WN_CFG, .WN_GEN,
    .WN_STAT] : List Reg).map Reg.all

/-- The parts that a restore may change. -/
def restoreParts : List Part := formParts ++ [.cores, .ctxs, .imago, .ledgers, .mbox, .mtx, .out, .restores]

/-- The end of a restore (R115): without HOLD the tenant is ACTIVE again; with HOLD it is HELD, its contexts STOPPED, until RELEASE makes
it ACTIVE. Either way DONE is set. What the load puts into the contexts, the sequencer and, on a migration, into the tenant's other units is not stated
here. -/
def restoreEnds : Prop :=
  ∀ (s : State) (t : Nat) (r : Restore), t < 64 → smGet none s.restores t = some r →
    (s.inReset = false → s.tnState t = 5 →
      Does (.restoreImageLoaded t) s restoreSpots restoreParts fun u => u.flag TN_STATUS_DONE t = true ∧
        (r.hold = false → u.tnState t = 1 ∧ smGet none u.restores t = none) ∧
        (r.hold = true → u.tnState t = 7 ∧ smGet none u.restores t = some r ∧
          ∀ c ∈ r.targets, s.cxState c = 1 → s.ownerOf c = some t → u.cxState c = 7)) ∧
    (s.ready = true → s.tnState t = 7 →
      Does (.release t) s restoreSpots restoreParts fun u => u.flag TN_STATUS_DONE t = true ∧ u.tnState t = 1 ∧
        smGet none u.restores t = none)

/-- The restore of a tenant: how it runs and how it ends.
Some clauses rest on choices of the model: log entries 16 and 63. -/
def Obligations.RestoreOfTenant : Prop := restoreTenant ∧ restoreEnds

/-- What a tenant reset may change in the registers (R116): everything that belongs to the tenant in the units that it names. -/
def tenantResetSpots : List Spot :=
  formSpots ++ tenantIrqSpots ++ ([.CX_STATUS, .DS_STAT, .HM_CTL, .HT_CTL, .HV_STAT2, .IM_TSTAT, .IM_UNIT, .LD_STAT, .LG_GSTAT, .LG_STATUS, .LS_ENT,
    .MB_HDR, .RK_STAT, .SC_COUNT, .SC_TSTAT, .SC_WCFG, .SC_WPEND, .SG_STAT, .SP_LEVEL, .SP_PEAK, .SP_SIZE, .TN_CTX_MASK, .TN_STATUS, .TS_STAT,
    .WN_GEN, .WN_LAST, .WN_LASTCNT, .WN_STAT] : List Reg).map Reg.all

/-- The parts that a tenant reset may change: no memory, no clock. -/
def tenantResetParts : List Part :=
  formParts ++ [.cores, .ctxs, .funnel, .imago, .ledgers, .load, .mbox, .mtx, .out, .restores, .saves, .taps]

/-- RESET of a tenant that is not FREE (R116): RESETTING, its contexts OFF, its window closed, its partition POISONED, its save and restore
abandoned, its sequencer DISABLED; when the reset completes the tenant is FREE and DONE is set.
Some clauses rest on choices of the model: log entry 64. -/
def Obligations.ResetTenant : Prop :=
  ∀ (s : State) (t : Nat), t < 64 →
    (s.ready = true → s.tnState t ≠ 0 →
      Does (.tenantReset t) s tenantResetSpots tenantResetParts fun u => u.tnState t = 6 ∧ (∀ c ∈ s.ctxsOf t, u.cxState c = 0) ∧
        u.getF WN_STAT_STATE t = 0 ∧ u.flag SC_TSTAT_POISONED t = true ∧ smGet none u.restores t = none ∧ u.save t = {} ∧
        u.runState t = 0) ∧
    (s.ready = true → s.tnState t = 0 → Does (.tenantReset t) s (tnSpots t) [] (fun u => u.getF TN_STATUS_REASON t = 1 ∧ u.tnState t = 0)) ∧
    (s.inReset = false → s.tnState t = 6 →
      Does (.tenantResetComplete t) s [TN_STATUS_STATE.at_ t, TN_STATUS_DONE.at_ t] [.mtx] (fun u => u.tnState t = 0 ∧
        u.flag TN_STATUS_DONE t = true))

/-! ### The Ehrile instruction set (chapter 04) -/

/-- Issue of an instruction (R104, R105, R169): one cycle is charged to the core and to the tenant on it, CORE_STAT.ISSUED counts it, block
counter 13 counts it, the core's round robin goes on from it, and no context changes but for the flow trace of the issuing one. A context that may not issue, or at whose PC
another instruction stands, is left as it is. -/
def instructionIssue : Prop :=
  (∀ (s : State) (c : Nat),
    Only (formSpots ++ [CORE_STAT_ISSUED.at_ (coreOf c)]) (formParts ++ [.cores, .ctxs]) s (s.begin c) ∧
    ((s.begin c).core (coreOf c)).used = (s.core (coreOf c)).used + 1 ∧
    smGet 0 ((s.begin c).core (coreOf c)).usedBy (s.tenantOf c) = smGet 0 (s.core (coreOf c)).usedBy (s.tenantOf c) + 1 ∧
    (∀ u, u ≠ s.tenantOf c → smGet 0 ((s.begin c).core (coreOf c)).usedBy u = smGet 0 (s.core (coreOf c)).usedBy u) ∧
    ((s.begin c).core (coreOf c)).scratch = (s.core (coreOf c)).scratch ∧
    ((s.begin c).core (coreOf c)).imem = (s.core (coreOf c)).imem ∧ (∀ k, k ≠ coreOf c → (s.begin c).core k = s.core k) ∧
    (s.begin c).getF CORE_STAT_ISSUED (coreOf c) = (s.getF CORE_STAT_ISSUED (coreOf c) + 1) % 2 ^ 32 ∧
    ((s.begin c).core (coreOf c)).last = c % 4 ∧
    { (s.begin c).ctx c with flow := {} } = { s.ctx c with flow := {} } ∧ (∀ d, d ≠ c → (s.begin c).ctx d = s.ctx d)) ∧
  (∀ (i : Instr) (s : State) (c : Nat), issuer i = some c →
    (s.canIssue c 1 = false → Idle i s) ∧
    (∀ w, encodeEhrile i = some w → s.pcOut c = false → s.fetchWord c ≠ w → (decodeEhrile c (s.fetchWord c)).isSome = true → Idle i s))

/-- The system instructions, each with the condition on its fields under which its rule lists its word (R128, R140 to R165): what a rule marks as
zero or reserved is. -/
def systemForms : List ((Nat → FmtT → Instr) × (FmtT → Bool)) :=
  [ (.rdtime, fun f => f.ra = 0 && f.rb = 0 && f.ctl.toNat < 5), (.rdctr, fun f => f.rb = 0 && f.ctl.toNat < 2), (.emit, fun _ => true),
    (.deq, fun f => f.ctl = 0), (.peek, fun f => f.ctl.toNat < 2), (.depstat, fun f => f.ctl = 3), (.scadd, fun f => f.rd = 0),
    (.scwait, fun f => f.ctl = 0), (.scrd, fun f => f.rb = 0 && f.ctl = 0),
    (.atarm, fun f => f.rd = 0 && f.ctl.toNat / 4 % 4 = 0 && f.ctl.toNat / 32 % 4 ≠ 3 && (128 ≤ f.ctl.toNat || f.ctl.toNat / 16 % 2 = 0)),
    (.atcan, fun f => f.rd = 0 && f.ra = 0 && f.ctl.toNat / 4 % 32 = 0),
    (.harvest, fun f => f.ctl.toNat % 32 = 0 && f.ctl.toNat / 32 % 4 ≠ 3), (.seal, fun f => f.rd = 0 && f.rb = 0 && f.ctl = 0),
    (.void, fun f => f.rd = 0 && f.rb = 0 && f.ctl = 0), (.hist, fun f => f.ctl.toNat < 128), (.sketch, fun _ => true),
    (.tlaunch, fun f => f.rb = 0 && f.ctl = 0), (.twait, fun f => f.ra = 0 && f.rb = 0 && f.ctl.toNat < 16),
    (.mbpost, fun f => f.rd = 0 && f.ctl.toNat < 64),
    (.fence, fun f => f.rd = 0 && f.ra = 0 && f.rb = 0 && f.pd = 0 && f.ctl.toNat < 8),
    (.yield, fun f => f.rd = 0 && f.ra = 0 && f.rb = 0 && f.pd = 0),
    (.halt, fun f => f.rd = 0 && f.ra = 0 && f.rb = 0 && f.pd = 0 && f.ctl = 0),
    (.trap, fun f => f.rd = 0 && f.ra = 0 && f.rb = 0 && f.pd = 0) ]

/-- PEEK and DEPSTAT share an opcode: a command of one that spells the other's MODE names no instruction. -/
def namesOne (i : Instr) (c : Nat) : Prop := (∀ f, i = .peek c f → f.ctl ≠ 3) ∧ (∀ f, i = .depstat c f → f.ctl = 3)

/-- The traps that come before an instruction's own (R124, R126 to R128, R167): a PC outside the instruction range traps with PCRANGE
whatever the instruction, a word that the tables do not list with ILLEGAL, a reserved field value of the listed instructions with
ILLEGAL whatever the guard (that a must-be-zero field counts as reserved is log entry 91), and an instruction that takes no immediate from an
L with PREFIX, but that a JMPR whose target is misaligned traps with PCRANGE first. -/
def trapsBeforeTheInstruction : Prop :=
  ∀ (s : State) (c : Nat),
    (∀ i, issuer i = some c → namesOne i c → s.canIssue c 2 = true → s.canIssue c 1 = true → s.pcOut c = true →
      Traps i c s 0x0002 (s.ctx c).pc.toNat) ∧
    (∀ i, issuer i = some c → namesOne i c → s.canIssue c 2 = true → s.canIssue c 1 = true → s.pcOut c = false →
      decodeEhrile c (s.fetchWord c) = none → Traps i c s 0x0001 (s.fetchWord c)) ∧
    (∀ mk ∈ ([.eq, .ne, .lt, .ge, .ltu, .geu, .tst, .tstz, .feq, .flt, .fle, .funord, .pand, .por, .pxor, .pandn] :
        List (Nat → FmtA → Instr)), ∀ f, 8 ≤ f.rd.toNat → Fetches s c 1 (mk c f) → Traps (mk c f) c s 0x0001 (s.fetchWord c)) ∧
    (∀ mk ∈ ([.pand, .por, .pxor, .pandn] : List (Nat → FmtA → Instr)), ∀ f, 8 ≤ f.ra.toNat ∨ 8 ≤ f.rb.toNat → Fetches s c 1 (mk c f) →
      Traps (mk c f) c s 0x0001 (s.fetchWord c)) ∧
    (∀ mk ∈ ([.fcvtSL, .fcvtLS, .fcvtBfS, .fcvtSBf, .fcvtE4S, .fcvtE5S, .fcvtSE4, .fcvtSE5] : List (Nat → FmtA → Instr)),
      ∀ f, 2 ≤ f.rb.toNat → Fetches s c 1 (mk c f) → Traps (mk c f) c s 0x0001 (s.fetchWord c)) ∧
    (∀ f, 256 ≤ f.imm.toNat → Fetches s c 1 (.shi c f) → Traps (.shi c f) c s 0x0001 (s.fetchWord c)) ∧
    (∀ f, f.sx = true → Fetches s c 1 (.st c f) → Traps (.st c f) c s 0x0001 (s.fetchWord c)) ∧
    (∀ e ∈ systemForms, ∀ f, e.2 f = false → namesOne (e.1 c f) c → Fetches s c 1 (e.1 c f) →
      Traps (e.1 c f) c s 0x0001 (s.fetchWord c)) ∧
    ((s.ctx c).latch.isSome = true →
      (∀ mk ∈ ([.add, .sub, .and, .or, .xor, .andn, .sll, .srl, .sra, .ror, .clz, .ctz, .popc, .min, .max, .minu, .maxu, .sext, .zext,
          .bswap, .mul, .mulhu, .mulh, .divu, .remu, .div, .rem, .sel, .prd, .pwr, .fadd, .fsub, .fmul, .ffma, .fmin, .fmax, .fabs,
          .fneg] : List (Nat → FmtA → Instr)),
        ∀ f, Fetches s c 1 (mk c f) → Traps (mk c f) c s 0x000B (s.fetchWord c)) ∧
      (∀ mk ∈ ([.eq, .ne, .lt, .ge, .ltu, .geu, .tst, .tstz, .feq, .flt, .fle, .funord] : List (Nat → FmtA → Instr)),
        ∀ f, f.rd.toNat < 8 → Fetches s c 1 (mk c f) → Traps (mk c f) c s 0x000B (s.fetchWord c)) ∧
      (∀ mk ∈ ([.pand, .por, .pxor, .pandn] : List (Nat → FmtA → Instr)), ∀ f, f.rd.toNat < 8 → f.ra.toNat < 8 → f.rb.toNat < 8 →
        Fetches s c 1 (mk c f) → Traps (mk c f) c s 0x000B (s.fetchWord c)) ∧
      (∀ mk ∈ ([.fcvtSL, .fcvtLS, .fcvtBfS, .fcvtSBf, .fcvtE4S, .fcvtE5S, .fcvtSE4, .fcvtSE5] : List (Nat → FmtA → Instr)),
        ∀ f, f.rb.toNat < 2 → Fetches s c 1 (mk c f) → Traps (mk c f) c s 0x000B (s.fetchWord c)) ∧
      (∀ f, f.imm.toNat < 256 → Fetches s c 1 (.shi c f) → Traps (.shi c f) c s 0x000B (s.fetchWord c)) ∧
      (∀ f, Fetches s c 1 (.br c f) → Traps (.br c f) c s 0x000B (s.fetchWord c)) ∧
      (∀ f, Fetches s c 1 (.call c f) → Traps (.call c f) c s 0x000B (s.fetchWord c)) ∧
      (∀ f, Fetches s c 1 (.jmpr c f) → Traps (.jmpr c f) c s
        (if (s.ctx c).guard f ∧ ((s.ctx c).gr f.ra).toNat % 4 ≠ 0 then 0x0002 else 0x000B)
        (if (s.ctx c).guard f ∧ ((s.ctx c).gr f.ra).toNat % 4 ≠ 0 then ((s.ctx c).gr f.ra).toNat else s.fetchWord c)) ∧
      (∀ e ∈ systemForms, ∀ f, e.2 f = true → Fetches s c 1 (e.1 c f) → Traps (e.1 c f) c s 0x000B (s.fetchWord c)) ∧
      (∀ u, Fetches s c 2 (.l c u) → Traps (.l c u) c s 0x000B (s.fetchWord c)))

/-- The issue of an instruction, and the traps that come before it.
Some clauses rest on choices of the model: log entries 9, 91, 92 and 102. -/
def Obligations.IssueAndFirstTraps : Prop := instructionIssue ∧ trapsBeforeTheInstruction

/-- The functions of R129 and R130 on two registers: g[rd] takes the listed function of g[ra] and g[rb] when the guard holds, and the
instruction only goes on when it does not (R126). Shift amounts are rb mod 64; division by 0 and the signed overflow do not trap. -/
def Obligations.IntegerInstructions : Prop :=
  ∀ e ∈ ([(.add, fun a b => BitVec.ofNat 64 (a.toNat + b.toNat)), (.sub, fun a b => BitVec.ofInt 64 (a.toNat - b.toNat)),
      (.and, fun a b => a &&& b), (.or, fun a b => a ||| b), (.xor, fun a b => a ^^^ b), (.andn, fun a b => a &&& ~~~b),
      (.sll, fun a b => BitVec.ofNat 64 (a.toNat * 2 ^ (b.toNat % 64))), (.srl, fun a b => BitVec.ofNat 64 (a.toNat / 2 ^ (b.toNat % 64))),
      (.sra, fun a b => BitVec.ofInt 64 (a.toInt / 2 ^ (b.toNat % 64))),
      (.ror, fun a b => BitVec.ofNat 64 (a.toNat / 2 ^ (b.toNat % 64) + a.toNat * 2 ^ (64 - b.toNat % 64))),
      (.clz, fun a _ => BitVec.ofNat 64 (64 - a.toNat.size)), (.ctz, fun a _ => BitVec.ofNat 64 (if a = 0 then 64 else padicValNat 2 a.toNat)),
      (.popc, fun a _ => BitVec.ofNat 64 ((List.range 64).map (fun i => (a.getLsbD i).toNat)).sum),
      (.min, fun a b => BitVec.ofInt 64 (min a.toInt b.toInt)), (.max, fun a b => BitVec.ofInt 64 (max a.toInt b.toInt)),
      (.minu, fun a b => BitVec.ofNat 64 (min a.toNat b.toNat)), (.maxu, fun a b => BitVec.ofNat 64 (max a.toNat b.toNat)),
      (.sext, fun a b => (a.setWidth (b.toNat % 64 + 1)).signExtend 64), (.zext, fun a b => BitVec.ofNat 64 (a.toNat % 2 ^ (b.toNat % 64 + 1))),
      (.bswap, fun a _ => BitVec.ofNat 64 ((List.range 8).map (fun i => a.toNat / 256 ^ i % 256 * 256 ^ (7 - i))).sum),
      (.mul, fun a b => BitVec.ofNat 64 (a.toNat * b.toNat)), (.mulhu, fun a b => BitVec.ofNat 64 (a.toNat * b.toNat / 2 ^ 64)),
      (.mulh, fun a b => BitVec.ofInt 64 (a.toInt * b.toInt / 2 ^ 64)),
      (.divu, fun a b => if b = 0 then BitVec.ofNat 64 (2 ^ 64 - 1) else BitVec.ofNat 64 (a.toNat / b.toNat)),
      (.remu, fun a b => if b = 0 then a else BitVec.ofNat 64 (a.toNat % b.toNat)),
      (.div, fun a b => if b = 0 then BitVec.ofInt 64 (-1)
        else if a.toInt = -(2 ^ 63) ∧ b.toInt = -1 then BitVec.ofInt 64 (-(2 ^ 63)) else BitVec.ofInt 64 (a.toInt.tdiv b.toInt)),
      (.rem, fun a b => if b = 0 then a
        else if a.toInt = -(2 ^ 63) ∧ b.toInt = -1 then 0 else BitVec.ofInt 64 (a.toInt - a.toInt.tdiv b.toInt * b.toInt))] :
      List ((Nat → FmtA → Instr) × (Word → Word → Word))),
    ∀ (s : State) (c : Nat) (f : FmtA), Fetches s c 1 (e.1 c f) → (s.ctx c).latch = none →
      Sets (e.1 c f) c s (if (s.ctx c).guard f then
        (s.ctx c).next.setG f.rd (e.2 ((s.ctx c).gr f.ra) ((s.ctx c).gr f.rb)) else (s.ctx c).next)

/-- The immediate of R127 without and with an L, sign-extended from 16 or 42 bits, or zero-extended. -/
def longImm (x : Ctx) (signed : Bool) (i : BitVec 16) : Word :=
  match x.latch with
  | none => if signed then BitVec.ofInt 64 i.toInt else BitVec.ofNat 64 i.toNat
  | some u => if signed then BitVec.ofInt 64 ((BitVec.ofNat 42 (u.1 * 65536 + i.toNat)).toInt)
    else BitVec.ofNat 64 ((u.1 * 65536 + i.toNat) % 2 ^ 42)

/-- The immediate forms (R127, R129, R131): ADDI and ANDI sign-extend, ORI and XORI zero-extend, and an L gives the high bits; SHI shifts by
IMM16[5:0] in the kind that IMM16[7:6] names; CMPI and CMPIU write p[PD] with the comparison that COND names.
Some clauses rest on choices of the model: log entry 91. -/
def Obligations.ImmediateInstructions : Prop :=
  ∀ (s : State) (c : Nat) (f : FmtI),
    (∀ e ∈ ([(.addi, true, fun a i => BitVec.ofNat 64 (a.toNat + i.toNat)), (.andi, true, fun a i => a &&& i),
        (.ori, false, fun a i => a ||| i), (.xori, false, fun a i => a ^^^ i)] :
        List ((Nat → FmtI → Instr) × Bool × (Word → Word → Word))), Fetches s c 1 (e.1 c f) →
      Sets (e.1 c f) c s ((s.ctx c).next.setG f.rd (e.2.2 ((s.ctx c).gr f.ra) (longImm (s.ctx c) e.2.1 f.imm)))) ∧
    (Fetches s c 1 (.shi c f) → (s.ctx c).latch = none → f.imm.toNat < 256 → ∀ a, a = (s.ctx c).gr f.ra →
      Sets (.shi c f) c s ((s.ctx c).next.setG f.rd
        (if f.imm.toNat / 64 = 0 then BitVec.ofNat 64 (a.toNat * 2 ^ (f.imm.toNat % 64))
         else if f.imm.toNat / 64 = 1 then BitVec.ofNat 64 (a.toNat / 2 ^ (f.imm.toNat % 64))
         else if f.imm.toNat / 64 = 2 then BitVec.ofInt 64 (a.toInt / 2 ^ (f.imm.toNat % 64))
         else BitVec.ofNat 64 (a.toNat / 2 ^ (f.imm.toNat % 64) + a.toNat * 2 ^ (64 - f.imm.toNat % 64))))) ∧
    (∀ e ∈ ([(.cmpi, [fun a i => decide (a = i), fun a i => decide (a ≠ i), fun a i => decide (a.toInt < i.toInt),
          fun a i => decide (i.toInt ≤ a.toInt)]),
        (.cmpiu, [fun a i => decide (a.toNat < i.toNat), fun a i => decide (i.toNat ≤ a.toNat), fun a i => decide (a &&& i ≠ 0),
          fun a i => decide (a &&& i = 0)])] : List ((Nat → FmtI → Instr) × List (Word → Word → Bool))),
      ∀ k, e.2[f.rd.toNat / 8]? = some k → Fetches s c 1 (e.1 c f) →
        Sets (e.1 c f) c s ((s.ctx c).next.setP (f.rd.toNat % 8) (k ((s.ctx c).gr f.ra) (longImm (s.ctx c) true f.imm))))

/-- Compares, predicate functions, SEL, PRD and PWR (R126, R131, R132). A compare writes p[RD[2:0]]; SEL is not guarded but selects by QP
and QN; p0 reads 1 and takes no write.
Some clauses rest on choices of the model: log entry 91. -/
def Obligations.ComparesAndPredicates : Prop :=
  ∀ (s : State) (c : Nat) (f : FmtA), (s.ctx c).latch = none → ∀ x, x = s.ctx c →
    (∀ e ∈ ([(.eq, fun a b => decide (a = b)), (.ne, fun a b => decide (a ≠ b)), (.lt, fun a b => decide (a.toInt < b.toInt)),
        (.ge, fun a b => decide (b.toInt ≤ a.toInt)), (.ltu, fun a b => decide (a.toNat < b.toNat)),
        (.geu, fun a b => decide (b.toNat ≤ a.toNat)), (.tst, fun a b => decide (a &&& b ≠ 0)), (.tstz, fun a b => decide (a &&& b = 0)),
        (.feq, fun a b => fEq (a.setWidth 32) (b.setWidth 32)), (.flt, fun a b => fLt (a.setWidth 32) (b.setWidth 32)),
        (.fle, fun a b => fLe (a.setWidth 32) (b.setWidth 32)), (.funord, fun a b => fUnord (a.setWidth 32) (b.setWidth 32))] :
        List ((Nat → FmtA → Instr) × (Word → Word → Bool))), Fetches s c 1 (e.1 c f) → f.rd.toNat < 8 →
      Sets (e.1 c f) c s (if x.guard f then x.next.setP f.rd.toNat (e.2 (x.gr f.ra) (x.gr f.rb)) else x.next)) ∧
    (∀ e ∈ ([(.pand, fun a b => a && b), (.por, fun a b => a || b), (.pxor, fun a b => xor a b), (.pandn, fun a b => a && !b)] :
        List ((Nat → FmtA → Instr) × (Bool → Bool → Bool))), Fetches s c 1 (e.1 c f) → f.rd.toNat < 8 → f.ra.toNat < 8 →
      f.rb.toNat < 8 →
      Sets (e.1 c f) c s (if x.guard f then x.next.setP f.rd.toNat (e.2 (x.pr f.ra.toNat) (x.pr f.rb.toNat)) else x.next)) ∧
    (Fetches s c 1 (.sel c f) →
      Sets (.sel c f) c s (x.next.setG f.rd (if xor (x.pr f.qp.toNat) f.qn then x.gr f.ra else x.gr f.rb))) ∧
    (Fetches s c 1 (.prd c f) →
      Sets (.prd c f) c s (if x.guard f then
        x.next.setG f.rd (BitVec.ofNat 64 ((List.range 8).map (fun i => (x.pr i).toNat * 2 ^ i)).sum) else x.next)) ∧
    (Fetches s c 1 (.pwr c f) →
      Sets (.pwr c f) c s (if x.guard f then (List.range 8).foldl
        (fun y i => if (x.gr f.rb).getLsbD i then y.setP i ((x.gr f.ra).getLsbD i) else y) x.next else x.next))

/-- The magnitude that a code without sign stands for in a format with `man` bits of mantissa and `exp` of exponent, subnormals included. -/
def magnitude (man exp code : Nat) : ℚ :=
  if code / 2 ^ man = 0 then ((code % 2 ^ man : Nat) : ℚ) * 2 ^ (2 - (2 : Int) ^ (exp - 1) - man)
  else ((2 ^ man + code % 2 ^ man : Nat) : ℚ) * 2 ^ ((code / 2 ^ man : Nat) + 1 - (2 : Int) ^ (exp - 1) - man)

/-- Code `c` is `v` rounded to nearest among the codes of a format up to `top`, ties to even (R133). -/
def nearest (man exp top : Nat) (v : ℚ) (c : Nat) : Prop :=
  c ≤ top ∧ ∀ d ≤ top, |magnitude man exp c - v| ≤ |magnitude man exp d - v| ∧
    (|magnitude man exp c - v| = |magnitude man exp d - v| → d ≠ c → c % 2 = 0)

/-- A magnitude too large for a format whose greatest finite code is `top`: it rounds to what would follow `top`. -/
def tooLarge (man exp top : Nat) (v : ℚ) : Prop :=
  magnitude man exp top + (magnitude man exp top - magnitude man exp (top - 1)) / 2 < v ∨
    (magnitude man exp top + (magnitude man exp top - magnitude man exp (top - 1)) / 2 = v ∧ top % 2 = 1)

/-- An FP32 operand is NaN. -/
abbrev f32Nan (w : BitVec 32) : Prop := 0x7F800000 < w.toNat % 2 ^ 31

/-- An FP32 operand is an infinity. -/
abbrev f32Inf (w : BitVec 32) : Prop := w.toNat % 2 ^ 31 = 0x7F800000

/-- The value of a finite FP32 operand, a subnormal read as zero (R133). -/
def f32Val (w : BitVec 32) : ℚ :=
  (if w.getLsbD 31 then -1 else 1) * (if w.toNat % 2 ^ 31 < 2 ^ 23 then 0 else magnitude 23 8 (w.toNat % 2 ^ 31))

/-- An operand given as a result: every NaN is 0x7FC0_0000, and a subnormal is a zero of its sign. -/
def f32Canon (w : BitVec 32) : BitVec 32 :=
  if 0x7F800000 < w.toNat % 2 ^ 31 then 0x7FC00000 else if w.toNat % 2 ^ 31 < 2 ^ 23 then w &&& 0x80000000 else w

/-- The infinity of a sign. -/
def f32Infinity (neg : Bool) : BitVec 32 := if neg then 0xFF800000 else 0x7F800000

/-- `w` is the FP32 result for the exact value `v`, a zero having sign `neg`: rounded once to nearest with ties to even, an infinity when that
is too large, and a zero of its sign when it is subnormal (R133). -/
def f32Result (v : ℚ) (neg : Bool) (w : BitVec 32) : Prop :=
  (v = 0 → w = if neg then 0x80000000 else 0) ∧
  (v ≠ 0 → w.getLsbD 31 = decide (v < 0) ∧ (tooLarge 23 8 0x7F7FFFFF |v| → f32Inf w) ∧
    (¬ tooLarge 23 8 0x7F7FFFFF |v| → ∃ c, nearest 23 8 0x7F7FFFFF |v| c ∧ w.toNat % 2 ^ 31 = if c < 2 ^ 23 then 0 else c))

/-- `w` is the sum of two FP32 operands. -/
def f32Sum (a b w : BitVec 32) : Prop :=
  (f32Nan a ∨ f32Nan b → w = 0x7FC00000) ∧
  (¬ f32Nan a → ¬ f32Nan b →
    (f32Inf a → f32Inf b → w = if a = b then a else 0x7FC00000) ∧ (f32Inf a → ¬ f32Inf b → w = a) ∧ (¬ f32Inf a → f32Inf b → w = b) ∧
    (¬ f32Inf a → ¬ f32Inf b → f32Result (f32Val a + f32Val b) (a.getLsbD 31 && b.getLsbD 31) w))

/-- `w` is the product of two FP32 operands. -/
def f32Product (a b w : BitVec 32) : Prop :=
  (f32Nan a ∨ f32Nan b → w = 0x7FC00000) ∧
  (¬ f32Nan a → ¬ f32Nan b →
    (f32Inf a ∧ f32Val b = 0 ∨ f32Inf b ∧ f32Val a = 0 → w = 0x7FC00000) ∧
    (f32Inf a ∧ f32Val b ≠ 0 ∨ f32Inf b ∧ f32Val a ≠ 0 → w = f32Infinity (a.getLsbD 31 ^^ b.getLsbD 31)) ∧
    (¬ f32Inf a → ¬ f32Inf b → f32Result (f32Val a * f32Val b) (a.getLsbD 31 ^^ b.getLsbD 31) w))

/-- `w` is the fused a × b + d of three FP32 operands. -/
def f32Fused (a b d w : BitVec 32) : Prop :=
  (f32Nan a ∨ f32Nan b ∨ f32Nan d → w = 0x7FC00000) ∧
  (¬ f32Nan a → ¬ f32Nan b → ¬ f32Nan d →
    (f32Inf a ∧ f32Val b = 0 ∨ f32Inf b ∧ f32Val a = 0 → w = 0x7FC00000) ∧
    (f32Inf a ∧ f32Val b ≠ 0 ∨ f32Inf b ∧ f32Val a ≠ 0 →
      w = if f32Inf d ∧ d.getLsbD 31 ≠ (a.getLsbD 31 ^^ b.getLsbD 31) then 0x7FC00000 else f32Infinity (a.getLsbD 31 ^^ b.getLsbD 31)) ∧
    (¬ f32Inf a → ¬ f32Inf b → f32Inf d → w = d) ∧
    (¬ f32Inf a → ¬ f32Inf b → ¬ f32Inf d →
      f32Result (f32Val a * f32Val b + f32Val d) ((a.getLsbD 31 ^^ b.getLsbD 31) && d.getLsbD 31) w))

/-- The order of FP32 operands that are not NaN. -/
def f32Less (a b : BitVec 32) : Prop :=
  ¬ f32Nan a ∧ ¬ f32Nan b ∧
    (a = 0xFF800000 ∧ b ≠ 0xFF800000 ∨ b = 0x7F800000 ∧ a ≠ 0x7F800000 ∨ ¬ f32Inf a ∧ ¬ f32Inf b ∧ f32Val a < f32Val b)

/-- `w` is the one of two FP32 operands that FMIN (or, the operands exchanged in the order, FMAX) picks: a NaN operand yields the other one; of
two that are equal, zeros of two signs included, either may result (log entry 23). -/
def f32Pick (less : BitVec 32 → BitVec 32 → Prop) (a b w : BitVec 32) : Prop :=
  (f32Nan a → w = f32Canon b) ∧ (f32Nan b → w = f32Canon a) ∧ (less a b → w = f32Canon a) ∧ (less b a → w = f32Canon b) ∧
    (w = f32Canon a ∨ w = f32Canon b)

/-- `r` is an FP32 operand in a narrower format, whose codes have `man` and `exp` bits beside the sign and whose greatest finite code is `top`:
`big` for what is too large, `inf` for an infinity, each with the sign, and a code that `nan` accepts for a NaN (R133 to R135). -/
def narrowed (man exp top big inf : Nat) (nan : Nat → Prop) (a : BitVec 32) (r : Word) : Prop :=
  let sign := if a.getLsbD 31 then 2 ^ (man + exp) else 0
  (f32Nan a → r.toNat < 2 ^ (man + exp + 1) ∧ nan (r.toNat % 2 ^ (man + exp))) ∧ (f32Inf a → r.toNat = sign + inf) ∧
    (¬ f32Nan a → ¬ f32Inf a →
      (tooLarge man exp top |f32Val a| → r.toNat = sign + big) ∧
      (¬ tooLarge man exp top |f32Val a| → ∃ c, nearest man exp top |f32Val a| c ∧ r.toNat = sign + c))

/-- `w` is a code of a narrower format as FP32. -/
def widened (man exp : Nat) (nan inf : Nat → Prop) (code : Nat) (w : BitVec 32) : Prop :=
  (nan (code % 2 ^ (man + exp)) → w = 0x7FC00000) ∧
  (inf (code % 2 ^ (man + exp)) → w = f32Infinity (code.testBit (man + exp))) ∧
  (¬ nan (code % 2 ^ (man + exp)) → ¬ inf (code % 2 ^ (man + exp)) →
    f32Result ((if code.testBit (man + exp) then -1 else 1) * magnitude man exp (code % 2 ^ (man + exp))) (code.testBit (man + exp)) w)

/-- The floating-point instructions (R133 to R135): each writes g[rd] with its result from the low 32 bits of the sources, zeros above, under its
guard, and only goes on when the guard does not hold. FADD, FSUB, FMUL and FFMA give the exact sum, difference, product or fused value of the
operands rounded once; NaN, infinities, zeros and flushed subnormals as R133 gives them. A conversion reads SAT from RB[0]; FCVT.L.S goes
toward zero and saturates, and NaN gives 0. Which zero FMIN and FMAX pick of two, and the payload of a NaN in a narrower format, are
free values (log entries 23 and 24). -/
def floatInstructions : Prop :=
  ∀ (s : State) (c : Nat) (f : FmtA), (s.ctx c).latch = none → ∀ x, x = s.ctx c → ∀ (w : Word) (a b d : BitVec 32), w = x.gr f.ra →
    a = w.setWidth 32 → b = (x.gr f.rb).setWidth 32 → d = (x.gr f.rd).setWidth 32 →
    (∀ e ∈ ([(.fadd, f32Sum a b), (.fsub, f32Sum a (b ^^^ 0x80000000)), (.fmul, f32Product a b), (.ffma, f32Fused a b d),
        (.fmin, f32Pick f32Less a b), (.fmax, f32Pick (fun u v => f32Less v u) a b), (.fabs, fun r => r = f32Canon (a &&& 0x7FFFFFFF)),
        (.fneg, fun r => r = f32Canon (a ^^^ 0x80000000))] : List ((Nat → FmtA → Instr) × (BitVec 32 → Prop))), Fetches s c 1 (e.1 c f) →
      (x.guard f = true → ∃ r, e.2 r ∧ Sets (e.1 c f) c s (x.next.setG f.rd (r.setWidth 64))) ∧
      (x.guard f = false → Sets (e.1 c f) c s x.next)) ∧
    (∀ e ∈ ([(.fcvtSL, fun r => ∃ v : BitVec 32, r = v.setWidth 64 ∧ f32Result w.toInt false v),
        (.fcvtLS, fun r => (f32Nan a → r = 0) ∧ (f32Inf a → r = if a.getLsbD 31 then 0x8000000000000000 else 0x7FFFFFFFFFFFFFFF) ∧
          (¬ f32Nan a → ¬ f32Inf a →
            r.toInt = max (-2 ^ 63) (min (2 ^ 63 - 1) (if 0 ≤ f32Val a then ⌊f32Val a⌋ else ⌈f32Val a⌉)))),
        (.fcvtBfS, narrowed 7 8 0x7F7F 0x7F80 0x7F80 (fun n => 0x7F80 < n) a),
        (.fcvtSBf, fun r => ∃ v : BitVec 32, r = v.setWidth 64 ∧ widened 7 8 (fun n => 0x7F80 < n) (fun n => n = 0x7F80) (w.toNat % 2 ^ 16) v),
        (.fcvtE4S, narrowed 3 4 0x7E (if f.rb.getLsbD 0 then 0x7E else 0x7F) (if f.rb.getLsbD 0 then 0x7E else 0x7F) (fun n => n = 0x7F) a),
        (.fcvtE5S, narrowed 2 5 0x7B (if f.rb.getLsbD 0 then 0x7B else 0x7C) (if f.rb.getLsbD 0 then 0x7B else 0x7C) (fun n => 0x7C < n) a),
        (.fcvtSE4, fun r => ∃ v : BitVec 32, r = v.setWidth 64 ∧ widened 3 4 (fun n => n = 0x7F) (fun _ => False) (w.toNat % 2 ^ 8) v),
        (.fcvtSE5, fun r => ∃ v : BitVec 32, r = v.setWidth 64 ∧ widened 2 5 (fun n => 0x7C < n) (fun n => n = 0x7C) (w.toNat % 2 ^ 8) v)] :
        List ((Nat → FmtA → Instr) × (Word → Prop))), Fetches s c 1 (e.1 c f) → f.rb.toNat < 2 →
      (x.guard f = true → ∃ r, e.2 r ∧ Sets (e.1 c f) c s (x.next.setG f.rd r)) ∧
      (x.guard f = false → Sets (e.1 c f) c s x.next)) ∧
    (∀ e ∈ ([(.feq, ¬ f32Nan a ∧ ¬ f32Nan b ∧ ¬ f32Less a b ∧ ¬ f32Less b a), (.flt, f32Less a b),
        (.fle, ¬ f32Nan a ∧ ¬ f32Nan b ∧ ¬ f32Less b a), (.funord, f32Nan a ∨ f32Nan b)] : List ((Nat → FmtA → Instr) × Prop)),
      Fetches s c 1 (e.1 c f) → f.rd.toNat < 8 → x.guard f = true →
      ∃ q : Bool, (q = true ↔ e.2) ∧ Sets (e.1 c f) c s (x.next.setP f.rd.toNat q))

/-- A nonzero finite datum of a format as a rational number. -/
def ratOf (neg : Bool) (m : Nat) (e : Int) : ℚ := (if neg then -1 else 1) * (m : ℚ) * 2 ^ e

/-- Rounding to nearest, ties to even (R133): when a format holds the rounded value of m × 2^e, no other finite datum of the format lies
nearer, and one that lies as near has an odd code. -/
def roundingToNearest : Prop :=
  ∀ f ∈ [fp32, bf16, e4m3, e5m2], ∀ (m : Nat) (e : Int) (code : Nat), 0 < m → f.round m e = some code → ∀ (m' : Nat) (e' : Int),
    f.decode code = .fin false m' e' → ∀ (other m2 : Nat) (e2 : Int), other < 2 ^ (f.man + f.exp) → f.decode other = .fin false m2 e2 →
    |ratOf false m' e' - ratOf false m e| ≤ |ratOf false m2 e2 - ratOf false m e| ∧
    (|ratOf false m' e' - ratOf false m e| = |ratOf false m2 e2 - ratOf false m e| → other ≠ code → other % 2 = 1 ∧ code % 2 = 0)

/-- Floating-point instructions and their rounding. FMIN and FMAX of zeros of two signs, and the payload of a NaN, are free values (log entries 23 and 24).
Some clauses rest on choices of the model: log entries 22 and 91. -/
def Obligations.FloatingPoint : Prop := floatInstructions ∧ roundingToNearest

/-- BR, CALL, JMPR and L (R127, R139). A taken BR goes to PC + 4 × DISP22; a taken CALL also writes g31, and a taken JMPR g[rd], with
PC + 4; a JMPR target that is no multiple of 4 traps with PCRANGE. L sets the latch with its PC and issues with room for its successor.
Some clauses rest on choices of the model: log entries 15 and 93. -/
def Obligations.BranchesAndPrefix : Prop :=
  ∀ (s : State) (c : Nat), (s.ctx c).latch = none → ∀ x, x = s.ctx c →
    (∀ f, Fetches s c 1 (.br c f) →
      Runs (.br c f) c s formSpots formParts
        (if xor (x.pr f.p.toNat) f.pn then { x with pc := BitVec.ofInt 64 (x.pc.toNat + 4 * f.disp.toInt) } else x.next) (fun _ => True)) ∧
    (∀ f, Fetches s c 1 (.call c f) →
      Runs (.call c f) c s formSpots formParts
        (if xor (x.pr f.p.toNat) f.pn then { x.setG 31 (x.pc + 4) with pc := BitVec.ofInt 64 (x.pc.toNat + 4 * f.disp.toInt) } else x.next)
        (fun _ => True)) ∧
    (∀ f, Fetches s c 1 (.jmpr c f) → (x.guard f = false ∨ (x.gr f.ra).toNat % 4 = 0) →
      Runs (.jmpr c f) c s formSpots formParts
        (if x.guard f then { x.setG f.rd (x.pc + 4) with pc := x.gr f.ra } else x.next) (fun _ => True)) ∧
    (∀ f, Fetches s c 1 (.jmpr c f) → x.guard f = true → (x.gr f.ra).toNat % 4 ≠ 0 →
      Traps (.jmpr c f) c s 0x0002 (x.gr f.ra).toNat) ∧
    (∀ u, Fetches s c 2 (.l c u) → Sets (.l c u) c s { x with pc := x.pc + 4, latch := some (u.toNat, x.pc.toNat) })

/-- The address of a load or store (R136): ra + immediate, sign-extended from 13 bits, or from 39 with an L. -/
def accessAddr (x : Ctx) (f : FmtM) : Nat :=
  (BitVec.ofInt 64 ((x.gr f.ra).toNat + (match x.latch with
    | none => f.imm.toInt
    | some u => (BitVec.ofNat 39 (u.1 * 8192 + f.imm.toNat)).toInt))).toNat

/-- The value that LD writes from the bytes that it reads, lowest address first (R136). -/
def loadedWord (f : FmtM) (bs : List Byte) : Word :=
  if f.sx then BitVec.ofInt 64 ((BitVec.ofNat (8 * 2 ^ f.size.toNat) (leNat bs)).toInt) else BitVec.ofNat 64 (leNat bs)

/-- A byte of the 8-byte table entry at `a` of host memory or the salt pans, or of the data there, has an uncorrectable error. -/
def struckAt (s : State) (hostMem : Bool) (a n : Nat) : Prop := ∃ j < n, smGet false s.memBad (2 * (a + j) + hostMem.toNat) = true

/-- The 8-byte table entry at `a`. -/
def tableEntry (s : State) (hostMem : Bool) (a : Nat) : Nat := leNat ((List.range 8).map (fun j => s.outByte hostMem (a + j)))

/-- Bytes `a` to `a + n − 1` lie in host memory or in the salt pan carve-out (R304). -/
def inCarveOut (s : State) (hostMem : Bool) (a n : Nat) : Prop := hostMem = true ∨ a + n ≤ s.getF QM_POOL_SALT_GIB 0 * 2 ^ 30

/-- The place of the L1 entry of an address. -/
def l1Place (s : State) (t va : Nat) : Bool × Nat := (s.flag XL_BASE_TARGET t, s.getF XL_BASE_ADDR t * 2 ^ 16 + 8 * (va / 2 ^ 29 % 2 ^ 19))

/-- The L1 entry of an address. -/
def l1Entry (s : State) (t va : Nat) : Nat := tableEntry s (l1Place s t va).1 (l1Place s t va).2

/-- The place of its L2 entry. -/
def l2Place (s : State) (t va : Nat) : Bool × Nat :=
  ((l1Entry s t va).testBit 62, l1Entry s t va / 2 ^ 16 % 2 ^ 36 * 2 ^ 16 + 8 * (va / 2 ^ 16 % 2 ^ 13))

/-- The L2 entry of an address. -/
def l2Entry (s : State) (t va : Nat) : Nat := tableEntry s (l2Place s t va).1 (l2Place s t va).2

/-- The place to which an address translates: in a page of 64 KiB, or of 2 MiB when SIZE is 1. -/
def pagePlace (s : State) (t va : Nat) : Place :=
  ⟨(l2Entry s t va).testBit 62, l2Entry s t va / 2 ^ 16 % 2 ^ 36 * 2 ^ 16 + if (l2Entry s t va).testBit 59 then va % 2 ^ 21 else va % 2 ^ 16⟩

/-- The checks of R433 in their order, each with the cause of R308 that its failure gives. -/
def translationChecks (s : State) (t va n : Nat) (write pinned : Bool) : List (Prop × Nat) :=
  [ (s.flag XL_BASE_VALID t = true, 1),
    (inCarveOut s (l1Place s t va).1 (l1Place s t va).2 8, 5),
    (¬ struckAt s (l1Place s t va).1 (l1Place s t va).2 8, 6),
    ((l1Entry s t va).testBit 63 = true, 1),
    (∀ i, i < 16 ∨ 52 ≤ i ∧ i < 62 → (l1Entry s t va).testBit i = false, 4),
    (inCarveOut s (l2Place s t va).1 (l2Place s t va).2 8, 5),
    (¬ struckAt s (l2Place s t va).1 (l2Place s t va).2 8, 6),
    ((l2Entry s t va).testBit 63 = true, 2),
    (∀ i, i < 16 ∨ 52 ≤ i ∧ i < 59 ∨ 16 ≤ i ∧ i < 21 ∧ (l2Entry s t va).testBit 59 = true → (l2Entry s t va).testBit i = false, 4),
    (inCarveOut s (pagePlace s t va).hostMem (pagePlace s t va).addr n, 5),
    (write = true → (l2Entry s t va).testBit 61 = true, 3),
    (pinned = true → (l2Entry s t va).testBit 60 = true, 8) ]

/-- Translation (R304, R305, R308, R433): an access whose checks all pass reaches the place that its L2 entry names; the first check that fails
gives the cause. A read then answers the bytes there, or cause 7 when one of them has an uncorrectable error. -/
def translation : Prop :=
  ∀ (s : State) (t va n : Nat) (write pinned : Bool),
    ((∀ k ∈ translationChecks s t va n write pinned, k.1) → s.translate t va n write pinned = .ok (pagePlace s t va)) ∧
    (∀ i (k : Prop × Nat), (translationChecks s t va n write pinned)[i]? = some k → ¬ k.1 →
      (∀ j ∈ (translationChecks s t va n write pinned).take i, j.1) → s.translate t va n write pinned = .error k.2) ∧
    (∀ p, s.translate t va n false pinned = .ok p →
      (struckAt s p.hostMem p.addr n → s.xlRead t va n pinned = .error 7) ∧
      (¬ struckAt s p.hostMem p.addr n → s.xlRead t va n pinned = .ok ((List.range n).map (fun j => s.outByte p.hostMem (p.addr + j))))) ∧
    (∀ e, s.translate t va n false pinned = .error e → s.xlRead t va n pinned = .error e)

/-- LD (R136 to R138): from scratch, from the register window where the tenant may read, from the translated space; a misaligned address
traps with ALIGN, an address without a target with ACCESS. -/
def loads : Prop :=
  ∀ (s : State) (c : Nat) (f : FmtM), Fetches s c 1 (.ld c f) → ∀ a n, a = accessAddr (s.ctx c) f → n = 2 ^ f.size.toNat →
    (a % n ≠ 0 → Traps (.ld c f) c s 0x0003 a) ∧
    (a % n = 0 → a < s.scrLen c →
      Sets (.ld c f) c s ((s.ctx c).next.setG f.rd (loadedWord f (s.scrBytes c a n)))) ∧
    (∀ off, a % n = 0 → s.targetOf c a = .window off → widthOk off n = true → s.mayRead (s.tenantOf c) off = true →
      ∃ t v, exec (.ld c f) s = .next t ∧ v = ((s.begin c).readWindow off (n == 8)).1 ∧
        t.ctx c = ({ ((s.begin c).readWindow off (n == 8)).2.ctx c with pc := (s.ctx c).pc + 4, latch := none }).setG f.rd
          (loadedWord f (leBytes n v.toNat)) ∧ Only [] [.ctxs] ((s.begin c).readWindow off (n == 8)).2 t) ∧
    (∀ off, a % n = 0 → s.targetOf c a = .window off → (widthOk off n = false ∨ s.mayRead (s.tenantOf c) off = false) →
      Traps (.ld c f) c s 0x0004 a) ∧
    (∀ va bs, a % n = 0 → s.targetOf c a = .space va → s.xlRead (s.tenantOf c) va n false = .ok bs →
      Sets (.ld c f) c s ((s.ctx c).next.setG f.rd (loadedWord f bs))) ∧
    (∀ va e, a % n = 0 → s.targetOf c a = .space va → s.xlRead (s.tenantOf c) va n false = .error e →
      Traps (.ld c f) c s (if e = 7 then 0x0006 else 0x0005) va) ∧
    (a % n = 0 → s.targetOf c a = .none → Traps (.ld c f) c s 0x0004 a)

/-- ST (R136 to R138): the low bytes of rd go to scratch, to the register window where the tenant may write, or to the translated space; every
other byte stays, and the context goes on at PC + 4. A store that meets an uncorrectable error completes, and its error is still to be reported. -/
def stores : Prop :=
  ∀ (s : State) (c : Nat) (f : FmtM), f.sx = false → Fetches s c 1 (.st c f) → ∀ a n v, a = accessAddr (s.ctx c) f → n = 2 ^ f.size.toNat →
    v = (s.ctx c).gr f.rd →
    (a % n ≠ 0 → Traps (.st c f) c s 0x0003 a) ∧
    (a % n = 0 → a < s.scrLen c →
      Runs (.st c f) c s [] [.cores] (s.ctx c).next (fun t =>
        (∀ j < n, memRead (t.core (coreOf c)).scratch (s.scrBase c + a + j) = BitVec.ofNat 8 (v.toNat / 256 ^ j)) ∧
        (∀ b, b < s.scrBase c + a ∨ s.scrBase c + a + n ≤ b →
          memRead (t.core (coreOf c)).scratch b = memRead (s.core (coreOf c)).scratch b) ∧
        (t.core (coreOf c)).imem = (s.core (coreOf c)).imem ∧ ∀ k, k ≠ coreOf c → t.core k = s.core k)) ∧
    (∀ off, a % n = 0 → s.targetOf c a = .window off → widthOk off n = true → s.mayWrite (s.tenantOf c) off = true →
      ∃ t, exec (.st c f) s = .next t ∧ Only [] [.ctxs]
        ((s.begin c).writeOff (off / 8 * 8) (if n = 8 then .full else if off % 8 = 0 then .lo else .hi)
          (if n = 8 then v else if off % 8 = 0 then v &&& 0xFFFFFFFF else v <<< 32)) t ∧
        (t.ctx c).pc = (s.ctx c).pc + 4 ∧ (t.ctx c).latch = none ∧ t.cxState c = s.cxState c ∧ ∀ r, (t.ctx c).gr r = (s.ctx c).gr r) ∧
    (∀ off, a % n = 0 → s.targetOf c a = .window off → (widthOk off n = false ∨ s.mayWrite (s.tenantOf c) off = false) →
      Traps (.st c f) c s 0x0004 a) ∧
    (∀ va p, a % n = 0 → s.targetOf c a = .space va → s.translate (s.tenantOf c) va n true false = .ok p →
      Runs (.st c f) c s [] [if p.hostMem then .host else .salt]
        (if s.outBad p.hostMem p.addr n then { (s.ctx c).next with lateErrs := (s.ctx c).lateErrs ++ [va] } else (s.ctx c).next) (fun t =>
          (∀ j < n, t.outByte p.hostMem (p.addr + j) = BitVec.ofNat 8 (v.toNat / 256 ^ j)) ∧
          (∀ h b, h ≠ p.hostMem ∨ b < p.addr ∨ p.addr + n ≤ b → t.outByte h b = s.outByte h b))) ∧
    (∀ va e, a % n = 0 → s.targetOf c a = .space va → s.translate (s.tenantOf c) va n true false = .error e → e ≠ 7 →
      Traps (.st c f) c s 0x0005 va) ∧
    (a % n = 0 → s.targetOf c a = .none → Traps (.st c f) c s 0x0004 a)

/-- Translation, and loads and stores of a context.
Some clauses rest on choices of the model: log entries 13 and 14. -/
def Obligations.LoadsAndStores : Prop := translation ∧ loads ∧ stores

/-! ### Telemetry and system instructions (R141 to R162) -/

/-- RDTIME (R142): SEL 0 gives the short stamp and latches the snapshot, the others give its parts, SEL 4 the quality with HOLD_LEFT; before time
has started it gives 0 with p[PD] = 0 and leaves the snapshot. RDCTR (R143): the live counter, with its OVF flag as it is behind every flush
already sent, or the shadow counter with its own; a counter that the tenant may not read traps with ACCESS. -/
def Obligations.TimeAndCounterReads : Prop :=
  ∀ (s : State) (c : Nat) (f : FmtT), (s.ctx c).latch = none → f.rb = 0 → ∀ x, x = s.ctx c →
    (f.ra = 0 → Fetches s c 1 (.rdtime c f) →
      (s.running = false → f.ctl.toNat < 5 → Sets (.rdtime c f) c s ((x.next.setG f.rd 0).setP f.pd.toNat false)) ∧
      (s.running = true → f.ctl = 0 →
        Sets (.rdtime c f) c s (({ x.next with snap := { raw := s.rawNow % 2 ^ 64, fab := s.fabNow, epoch := s.epoch } }.setG f.rd
          (BitVec.ofNat 64 s.shortNow)).setP f.pd.toNat true)) ∧
      (∀ v, s.running = true → [BitVec.ofNat 64 x.snap.raw,
          BitVec.ofNat 64 (x.snap.epoch % 65536 * 2 ^ 48 + secOf x.snap.fab),
          BitVec.ofNat 64 (x.snap.epoch % 65536 * 2 ^ 48 + nsOf x.snap.fab * 2 ^ 16 + fracOf x.snap.fab),
          BitVec.ofNat 64 (s.getF TB_STATUS_HOLD_LEFT 0 * 2 ^ 16 + s.getF TB_CTRL_QUALITY 0)][f.ctl.toNat - 1]? = some v → f.ctl ≠ 0 →
        Sets (.rdtime c f) c s ((x.next.setG f.rd v).setP f.pd.toNat true))) ∧
    (Fetches s c 1 (.rdctr c f) → f.ctl.toNat < 2 → ∀ i, i = (x.gr f.ra).toNat →
      (s.countable (s.tenantOf c) i = true → f.ctl = 0 →
        Sets (.rdctr c f) c s ((x.next.setG f.rd ((s.begin c).liveValue i)).setP f.pd.toNat ((s.begin c).liveOvf i))) ∧
      (s.countable (s.tenantOf c) i = true → f.ctl = 1 →
        Sets (.rdctr c f) c s ((x.next.setG f.rd (s.getReg .HV_SHADOW i)).setP f.pd.toNat (s.arrBit .HV_OVF i))) ∧
      (s.countable (s.tenantOf c) i = false → Traps (.rdctr c f) c s 0x0004 i))

/-- The EMIT is refused for the void of generation `g`: p[PD] = 0, and the VOID of `g` counts one record more. -/
def emitRefused (s : State) (c : Nat) (f : FmtT) (g : Nat) (ps : List Part) : Prop :=
  Runs (.emit c f) c s [] (.win :: ps) ((s.ctx c).next.setP f.pd.toNat false) (fun t =>
    (t.window (s.tenantOf c)).jobs = (s.window (s.tenantOf c)).jobs.map (fun j =>
      if j.gen = g then { j with refused := min 65535 (j.refused + 1) } else j))

/-- The record of an EMIT with control `ctl` and scratch address `a`. -/
def emittedRec (s : State) (c : Nat) (f : FmtT) (ctl a : Nat) : Rec :=
  { typ := f.ctl.toNat, slots := ctl % 8 + 1, cls := ctl / 16 % 4, tenant := s.tenantOf c, source := 0x8200 + c, seq := 0,
    stamp := if ctl.testBit 8 then s.shortNow else ((s.ctx c).gr f.rd).toNat, payload := s.scrBytes c a (16 + 32 * (ctl % 8)),
    epoch := s.epoch }

/-- The EMIT offers its record `r` to the queue manager in the state `s1`, and p[PD] says whether it was accepted. -/
def emitOffered (s s1 : State) (c : Nat) (f : FmtT) (r : Rec) : Prop :=
  Runs (.emit c f) c s formSpots formParts ((s.ctx c).next.setP f.pd.toNat ((s1.append 3 r).2 == 0)) (fun t =>
    t.qm = (s1.append 3 r).1.qm ∧ t.win = (s1.append 3 r).1.win ∧ t.seqrs = (s1.append 3 r).1.seqrs)

/-- EMIT (R144, R145): a forbidden type, class or control traps with EMIT, before ALIGN, before ACCESS; otherwise the record with the payload in
scratch, the stamp of now or of rd (before time has started the stamp of now is 0, the model's choice, log entry 104), the tenant and source 0x8200 + c is offered to the queue manager, and p[PD] says whether it was
accepted; a context that depends on a voided window has its record refused: it takes no SEQ, and the VOID of that window counts it. An EMIT
that follows such a void within 12 cycles, and may have issued before it, is refused or offered as a free value says (log entry 94). -/
def emitInstruction : Prop :=
  ∀ (s : State) (c : Nat) (f : FmtT), (s.ctx c).latch = none → Fetches s c 1 (.emit c f) → ∀ x ctl a slots, x = s.ctx c →
    ctl = (x.gr f.rb).toNat → a = (x.gr f.ra).toNat → slots = ctl % 8 + 1 → ∀ forbidden : Prop,
    (forbidden ↔ (f.ctl.toNat ≠ 0x70 ∧ f.ctl.toNat < 0x80) ∨ ctl / 16 % 4 = 0 ∨ ∃ b, ctl.testBit b = true ∧ b ∉ [0, 1, 2, 4, 5, 8]) →
    (forbidden → Traps (.emit c f) c s 0x0008 (s.fetchWord c)) ∧
    (¬ forbidden → a % 8 ≠ 0 → Traps (.emit c f) c s 0x0003 a) ∧
    (¬ forbidden → a % 8 = 0 → s.scrLen c < a + 16 + 32 * (slots - 1) → Traps (.emit c f) c s 0x0004 a) ∧
    (¬ forbidden → a % 8 = 0 → a + 16 + 32 * (slots - 1) ≤ s.scrLen c → ∀ late : List VoidJob,
      late = (s.window (s.tenantOf c)).jobs.filter (fun j => x.dvoid && x.dep.isNone && j.deps.contains c && decide (s.rawNow ≤ j.raw + 12)) →
      (∀ g, x.dep = some g → s.genState (s.tenantOf c) g = .voided → emitRefused s c f g []) ∧
      ((∀ g, x.dep = some g → s.genState (s.tenantOf c) g ≠ .voided) → late = [] →
        emitOffered s (s.begin c) c f (emittedRec s c f ctl a)) ∧
      (late ≠ [] → (∃ j ∈ late, emitRefused s c f j.gen [.freeCtr]) ∨
        emitOffered s { s.begin c with freeCtr := (s.begin c).freeCtr + 1 } c f (emittedRec s c f ctl a)))

/-- DEQ, PEEK and DEPSTAT (R146 to R148). A queue that the tenant may not read, a misaligned buffer and one outside scratch trap before
anything is consumed. DEQ copies and consumes a record of no window, of a crystallised or of a voided one, holds back a record of the
open window or one in the salt pans, and reports an empty queue; PEEK consumes nothing, and a record of the open window makes the
context depend on its generation. DEPSTAT reports the dependence and clears DVOID. -/
def queueReaders : Prop :=
  ∀ (s : State) (c : Nat) (f : FmtT), (s.ctx c).latch = none → ∀ x q a, x = s.ctx c → q = (x.gr f.ra).toNat → a = (x.gr f.rb).toNat →
    (∀ i, (i = .deq c f ∧ f.ctl = 0) ∨ (i = .peek c f ∧ f.ctl.toNat < 2) → Fetches s c 1 i →
      (s.readable (s.tenantOf c) q = false → Traps i c s 0x0009 q) ∧
      (s.readable (s.tenantOf c) q = true → a % 32 ≠ 0 → Traps i c s 0x0003 a) ∧
      (s.readable (s.tenantOf c) q = true → a % 32 = 0 → s.scrLen c < a + 256 → Traps i c s 0x0004 a) ∧
      (∀ s2 h, s.readable (s.tenantOf c) q = true → a % 32 = 0 → a + 256 ≤ s.scrLen c →
        (s.begin c).readQueue q (decide (f.ctl = 1)) (decide (i = .deq c f)) = (s2, h) →
        (h = .empty → Runs i c s (QM_ERR_MEMERR.at_ 0 :: formSpots) formParts
          ((x.next.setG f.rd (BitVec.ofNat 64 (2 ^ 62))).setP f.pd.toNat false) (fun t => t.qm = s2.qm)) ∧
        (h = .remote → Runs i c s (QM_ERR_MEMERR.at_ 0 :: formSpots) formParts
          ((x.next.setG f.rd (BitVec.ofNat 64 (2 * 2 ^ 62 + 2 ^ 61))).setP f.pd.toNat false) (fun t => t.qm = (s2.wantRemote q).qm)) ∧
        (∀ r cell, h = .item r cell → ∀ g, s2.genState r.tenant r.gen = g →
          (i = .deq c f → g = .open_ → Runs i c s (QM_ERR_MEMERR.at_ 0 :: formSpots) formParts
            ((x.next.setG f.rd (BitVec.ofNat 64 (2 * 2 ^ 62))).setP f.pd.toNat false) (fun t => t.qm = s2.qm)) ∧
          (i = .deq c f → g ≠ .open_ → Runs i c s (QM_ERR_MEMERR.at_ 0 :: formSpots) (.cores :: formParts)
            ((x.next.setG f.rd (BitVec.ofNat 64 ((if g = .voided then 3 else 0) * 2 ^ 62 + (r.slots - 1) % 8 * 2 ^ 53 + r.gen % 2 ^ 32))).setP
              f.pd.toNat true) (fun t => t.qm = (s2.removeRec q cell false).qm ∧
                (t.core (coreOf c)).scratch = memWrite (s.core (coreOf c)).scratch (s.scrBase c + a) (r.bytes false))) ∧
          (i = .peek c f → g ≠ .open_ → Runs i c s (QM_ERR_MEMERR.at_ 0 :: formSpots) (.cores :: formParts)
            ((x.next.setG f.rd (BitVec.ofNat 64 ((if g = .voided then 3 else 0) * 2 ^ 62 + (r.slots - 1) % 8 * 2 ^ 53 + r.gen % 2 ^ 32))).setP
              f.pd.toNat true) (fun t => t.qm = s2.qm ∧
                (t.core (coreOf c)).scratch =
                  memWrite (s.core (coreOf c)).scratch (s.scrBase c + a) (r.bytes (decide (g = .voided))))) ∧
          (i = .peek c f → g = .open_ → Runs i c s (QM_ERR_MEMERR.at_ 0 :: CX_STATUS_DEP.at_ c :: formSpots) (.cores :: formParts)
            (({ x.next with dep := some r.gen }.setG f.rd (BitVec.ofNat 64 ((r.slots - 1) % 8 * 2 ^ 53 + r.gen % 2 ^ 32))).setP
              f.pd.toNat true) (fun t => t.qm = s2.qm ∧ t.flag CX_STATUS_DEP c = true ∧
                (t.core (coreOf c)).scratch = memWrite (s.core (coreOf c)).scratch (s.scrBase c + a) (r.bytes true)))))) ∧
    (f.ctl = 3 → Fetches s c 1 (.depstat c f) →
      Sets (.depstat c f) c s (({ x.next with dvoid := false }.setG f.rd (BitVec.ofNat 64
        (x.dep.isSome.toNat * 2 ^ 63 + x.dvoid.toNat * 2 ^ 62 + (x.dep.getD 0) % 2 ^ 32))).setP f.pd.toNat x.dvoid))

/-- Records that programs emit and read.
Some clauses rest on choices of the model: log entries 94, 95 and 104. -/
def Obligations.RecordsOfPrograms : Prop := emitInstruction ∧ queueReaders

/-- What an add may change beside the counter: watches and their interrupt, the discard count, and the message to the partner. -/
def addSpots (n : Nat) : List Spot :=
  irqSpots ++ [SC_COUNT_VALUE.at_ n, SC_COUNT_SAT.at_ n, SC_AUX_LOST.at_ n, SC_ERR_DISCARD_POISON.at_ 0, SC_WCFG_STATE.all,
    Reg.all .SC_WPEND]

/-- The value of counter `n` after an add of `a` (R235): it stops at 2^48 − 1 with SAT, an add of which a part is lost counts in LOST, a zero
add and an add to a POISONED counter leave it. -/
def added (s t : State) (n a : Nat) : Prop :=
  (s.flag SC_COUNT_POISONED n = true → t.getF SC_COUNT_VALUE n = s.getF SC_COUNT_VALUE n ∧ t.getF SC_AUX_LOST n = s.getF SC_AUX_LOST n) ∧
  (s.flag SC_COUNT_POISONED n = false →
    t.getF SC_COUNT_VALUE n = min (s.getF SC_COUNT_VALUE n + a) (2 ^ 48 - 1) ∧
    (0 < a → 2 ^ 48 - 1 ≤ s.getF SC_COUNT_VALUE n + a → t.flag SC_COUNT_SAT n = true) ∧
    (s.getF SC_COUNT_VALUE n + a < 2 ^ 48 - 1 → t.getF SC_COUNT_SAT n = s.getF SC_COUNT_SAT n) ∧
    t.getF SC_AUX_LOST n =
      (if 2 ^ 48 - 1 < s.getF SC_COUNT_VALUE n + a then min (s.getF SC_AUX_LOST n + 1) 65535 else s.getF SC_AUX_LOST n))

/-- Every wait of a context other than `c` on counter `n` is evaluated (R244): it completes with the value and p[PD] = 1 when the value has reached
its target, with POISON and p[PD] = 0 when the counter is POISONED, and goes on otherwise; a context that does not wait on it stays. -/
def evaluated (s t : State) (c : Option Nat) (n : Nat) : Prop :=
  ∀ d, some d ≠ c →
    (∀ target rd pd, s.cxState d = 4 → (s.ctx d).wait = .scwait n target rd pd →
      (t.flag SC_COUNT_POISONED n = true ∨ target ≤ t.getF SC_COUNT_VALUE n → t.cxState d = 3 ∧
        t.ctx d = { ((s.ctx d).setG (BitVec.ofNat 5 rd)
          (BitVec.ofNat 64 ((t.flag SC_COUNT_POISONED n).toNat * 2 ^ 62 + t.getF SC_COUNT_VALUE n))).setP pd
            (!t.flag SC_COUNT_POISONED n) with wait := .none }) ∧
      (t.flag SC_COUNT_POISONED n = false → t.getF SC_COUNT_VALUE n < target → t.cxState d = 4 ∧ t.ctx d = s.ctx d)) ∧
    (s.cxState d ≠ 4 ∨ (∀ target rd pd, (s.ctx d).wait ≠ .scwait n target rd pd) → t.cxState d = s.cxState d ∧ t.ctx d = s.ctx d)

/-- SCADD, SCWAIT, SCRD and the completion of a wait (R149 to R151, R235, R236, R244). A counter out of reach traps with MISUSE and is
counted for the tenant; a negative amount traps and marks the counter. An SCADD that changes its counter completes the waits of other contexts
that it satisfies.
Some clauses rest on choices of the model: log entry 17. -/
def Obligations.SyncCounterInstructions : Prop :=
  ∀ (s : State) (c : Nat) (f : FmtT), (s.ctx c).latch = none → ∀ x n u, x = s.ctx c → n = (x.gr f.ra).toNat → u = s.tenantOf c →
    (∀ i, (i = .scadd c f ∧ f.rd = 0 ∧ s.inPart u n = false) ∨ (i = .scwait c f ∧ f.ctl = 0 ∧ s.readReach u n = false) ∨
        (i = .scrd c f ∧ f.rb = 0 ∧ f.ctl = 0 ∧ s.readReach u n = false) → Fetches s c 1 i →
      TrapsWith i c s 0x0007 n x [SC_TSTAT_MISUSE.at_ u, SC_TSTAT_MISUSE_COUNT.at_ u] (fun t =>
        t.flag SC_TSTAT_MISUSE u = true ∧
        t.getF SC_TSTAT_MISUSE_COUNT u = (s.getF SC_TSTAT_MISUSE_COUNT u + 1) % 2 ^ SC_TSTAT_MISUSE_COUNT.width)) ∧
    (f.rd = 0 → Fetches s c 1 (.scadd c f) → s.inPart u n = true → ∀ a : Int,
      a = (if f.ctl.getLsbD 7 then (f.ctl.toNat % 128 : Int) else (x.gr f.rb).toInt) →
      (a < 0 → TrapsWith (.scadd c f) c s 0x0007 n x [SC_COUNT_MISUSE.at_ n] (fun t => t.flag SC_COUNT_MISUSE n = true)) ∧
      (0 ≤ a → ∃ t, exec (.scadd c f) s = .next t ∧ Only (CX_STATUS_STATE.all :: addSpots n) [.ctxs, .mtx, .out] (s.begin c) t ∧
        { t.ctx c with flow := {} } = { x.next.setP f.pd.toNat
          (decide (s.flag SC_COUNT_POISONED n = false ∧ s.getF SC_COUNT_VALUE n + a.toNat < 2 ^ 48)) with flow := {} } ∧
        t.cxState c = s.cxState c ∧ added s t n a.toNat ∧
        (0 < a → s.flag SC_COUNT_POISONED n = false → evaluated s t (some c) n) ∧
        (a = 0 ∨ s.flag SC_COUNT_POISONED n = true → ∀ d, d ≠ c → t.cxState d = s.cxState d ∧ t.ctx d = s.ctx d))) ∧
    (f.ctl = 0 → Fetches s c 1 (.scwait c f) → s.readReach u n = true → ∀ v target, v = s.getF SC_COUNT_VALUE n →
      target = (x.gr f.rb).toNat % 2 ^ 48 →
      (s.flag SC_COUNT_POISONED n = true →
        Sets (.scwait c f) c s ((x.next.setG f.rd (BitVec.ofNat 64 (2 ^ 62 + v))).setP f.pd.toNat false)) ∧
      (s.flag SC_COUNT_POISONED n = false → target ≤ v →
        Sets (.scwait c f) c s ((x.next.setG f.rd (BitVec.ofNat 64 v)).setP f.pd.toNat true)) ∧
      (s.flag SC_COUNT_POISONED n = false → v < target →
        Runs (.scwait c f) c s (CX_STATUS_STATE.at_ c :: formSpots) formParts
          { x.next with wait := .scwait n target f.rd.toNat f.pd.toNat } (fun t => t.cxState c = 4))) ∧
    (f.rb = 0 → f.ctl = 0 → Fetches s c 1 (.scrd c f) → s.readReach u n = true →
      Sets (.scrd c f) c s ((x.next.setG f.rd (s.getReg .SC_COUNT n)).setP f.pd.toNat (!s.flag SC_COUNT_POISONED n))) ∧
    (∀ m target rd pd v, s.inReset = false → x.wait = .scwait m target rd pd → s.cxState c = 4 → v = s.getF SC_COUNT_VALUE m →
      (s.flag SC_COUNT_POISONED m = true ∨ target ≤ v) →
      Does (.scwaitComplete c) s [CX_STATUS_STATE.at_ c] [.ctxs] (fun t => t.cxState c = 3 ∧
        t.ctx c = { (x.setG (BitVec.ofNat 5 rd) (BitVec.ofNat 64 (if s.flag SC_COUNT_POISONED m then 2 ^ 62 + v else v))).setP pd
          (!s.flag SC_COUNT_POISONED m) with wait := .none } ∧ ∀ d, d ≠ c → t.ctx d = s.ctx d))

/-- What arming a gate may change (R86, R87). -/
def armSpots (g : Nat) : List Spot := [Reg.at_ .SG_STAT g, SG_COUNT_LATE.at_ 0]

/-- ATARM and ATCAN of context timers and of gates, and TWAIT (R152 to R155). A gate whose target has passed acts LATE at once, or in its turn
when a gate has fired in this tick or a lower one is due in it (R87).
Some clauses rest on choices of the model: log entries 18, 42, 96 and 97. -/
def Obligations.TimerInstructions : Prop :=
  ∀ (s : State) (c : Nat) (f : FmtT), (s.ctx c).latch = none → ∀ x u, x = s.ctx c → u = s.tenantOf c →
    (f.rd = 0 → f.ctl.toNat / 4 % 4 = 0 → f.ctl.toNat / 32 % 4 ≠ 3 → Fetches s c 1 (.atarm c f) →
      (f.ctl.toNat < 128 → f.ctl.toNat / 16 % 2 = 1 → Traps (.atarm c f) c s 0x0001 (s.fetchWord c)) ∧
      (f.ctl.toNat < 128 → f.ctl.toNat / 16 % 2 = 0 → s.running = false →
        Sets (.atarm c f) c s (x.next.setP f.pd.toNat false)) ∧
      (f.ctl.toNat < 128 → f.ctl.toNat / 16 % 2 = 0 → s.running = true → ∀ sg lo hi,
        sg = s.cmpSigned (f.ctl.toNat / 32 % 4) u → lo = (x.gr f.ra).toNat → hi = (x.gr f.rb).toNat →
        Sets (.atarm c f) c s ((x.next.setTimer (f.ctl.toNat % 4)
          { state := if s.passed 0 sg lo hi s.epoch then 3 else 1, signed := sg, lo := lo, hi := hi, epoch := s.epoch }).setP
            f.pd.toNat true)) ∧
      (∀ a g lo hi cfg, 128 ≤ f.ctl.toNat → a = (x.gr f.ra).toNat → g = (x.gr f.rb).toNat % 4096 →
        lo = leNat (s.scrBytes c a 8) → hi = leNat (s.scrBytes c (a + 8) 8) → cfg = BitVec.ofNat 64 (leNat (s.scrBytes c (a + 16) 8)) →
        (a + 24 ≤ s.scrLen c → 4 ≤ SG_CFG_ACTION.of cfg → Traps (.atarm c f) c s 0x000A (s.fetchWord c)) ∧
        (s.scrLen c < a + 24 ∨ SG_CFG_ACTION.of cfg < 4 → a % 8 ≠ 0 → Traps (.atarm c f) c s 0x0003 a) ∧
        (a % 8 = 0 → s.scrLen c < a + 24 → Traps (.atarm c f) c s 0x0004 a) ∧
        (a % 8 = 0 → a + 24 ≤ s.scrLen c → SG_CFG_ACTION.of cfg < 4 → s.ownsGate u g = false → Traps (.atarm c f) c s 0x0004 g) ∧
        (a % 8 = 0 → a + 24 ≤ s.scrLen c → SG_CFG_ACTION.of cfg < 4 → s.ownsGate u g = true → s.running = true →
          s.foreignArm u g = false → ∀ y : Gate,
          y = { lo := lo, hi := hi, signed := s.cmpSigned (f.ctl.toNat / 32 % 4) u, noLate := decide (f.ctl.toNat / 16 % 2 = 1),
                action := SG_CFG_ACTION.of cfg, owner := u, queue := SG_CFG_QUEUE.of cfg, port := SG_CFG_PORT.of cfg,
                slot := SG_CFG_SLOT.of cfg, guard_ := SG_CFG_GUARD.of cfg, duration := SG_CFG_DURATION.of cfg } →
          Runs (.atarm c f) c s (armSpots g) [.time, .taps, .out, .freeCtr] (x.next.setP f.pd.toNat true) (fun t =>
            (s.passed (s.lead y) y.signed lo hi s.epoch = false ∨ y.noLate = true ∨
                (s.time.lastGate = none ∧ ∀ e ∈ s.time.gates, e.1 < g → s.gateDue e.1 = false) →
              t.gate g = { y with copied := true, epoch := s.epoch } ∧
              t.gateState g = (if s.passed (s.lead y) y.signed lo hi s.epoch then (if y.noLate then 4 else 3) else 1)) ∧
            (s.passed (s.lead y) y.signed lo hi s.epoch = true → y.noLate = false →
                (s.time.lastGate ≠ none ∨ ∃ e ∈ s.time.gates, e.1 < g ∧ s.gateDue e.1 = true) →
              t.gate g = { y with copied := true, epoch := s.epoch, late := some s.rawNow } ∧ t.gateState g = 1))))) ∧
    (f.rd = 0 → f.ra = 0 → f.ctl.toNat / 4 % 32 = 0 → Fetches s c 1 (.atcan c f) →
      (∀ y, f.ctl.toNat < 128 → y = x.timer (f.ctl.toNat % 4) →
        (y.state = 1 → s.holdsNow 0 y.signed y.lo y.hi y.epoch = false →
          Sets (.atcan c f) c s ((x.next.setTimer (f.ctl.toNat % 4) { y with state := 0 }).setP f.pd.toNat true)) ∧
        (y.state ≠ 1 ∨ s.holdsNow 0 y.signed y.lo y.hi y.epoch = true → Sets (.atcan c f) c s (x.next.setP f.pd.toNat false))) ∧
      (∀ g, 128 ≤ f.ctl.toNat → g = (x.gr f.rb).toNat % 4096 →
        (s.ownsGate u g = false → Traps (.atcan c f) c s 0x0004 g) ∧
        (s.ownsGate u g = true → s.foreignArm u g = false → s.gateState g = 1 → s.gateDue g = false →
          Runs (.atcan c f) c s [SG_STAT_STATE.at_ g] [] (x.next.setP f.pd.toNat true) (fun t => t.gateState g = 5)) ∧
        (s.ownsGate u g = true → s.gateState g ≠ 1 ∨ s.gateDue g = true → Sets (.atcan c f) c s (x.next.setP f.pd.toNat false)))) ∧
    (∀ mask, f.ra = 0 → f.rb = 0 → f.ctl.toNat < 16 → Fetches s c 1 (.twait c f) → mask = f.ctl.toNat → ∀ word,
      word = BitVec.ofNat 64 ((x.timer 0).state + 16 * (x.timer 1).state + 256 * (x.timer 2).state + 4096 * (x.timer 3).state) →
      ((∃ i < 4, mask.testBit i = true ∧ 2 ≤ (x.timer i).state) → ∃ y : Ctx,
        (∀ i < 4, y.timer i = if mask.testBit i ∧ 2 ≤ (x.timer i).state then { x.timer i with state := 0 } else x.timer i) ∧
        { y with timers := [] } = { x with timers := [] } ∧ Sets (.twait c f) c s ((y.next.setG f.rd word).setP f.pd.toNat true)) ∧
      ((∀ i < 4, mask.testBit i = true → (x.timer i).state = 0) → Sets (.twait c f) c s ((x.next.setG f.rd word).setP f.pd.toNat false)) ∧
      ((∀ i < 4, mask.testBit i = true → (x.timer i).state < 2) → (∃ i < 4, mask.testBit i = true ∧ (x.timer i).state = 1) →
        Runs (.twait c f) c s (CX_STATUS_STATE.at_ c :: formSpots) formParts { x.next with wait := .twait mask f.rd.toNat f.pd.toNat }
          (fun t => t.cxState c = 4)))

/-- HARVEST, TLAUNCH and MBPOST (R120, R156, R160, R161, R180, R356). HARVEST enters a request unless the tenant may not ask; TLAUNCH queues
the descriptor with the next ticket, or answers 0 when the queue holds 16 launches; MBPOST shows a post without dependence when the
mailbox is free, parks one that depends on the open window, counts and discards one that depends on a voided window, and counts an
overrun when the slot that it needs is taken.
Some clauses rest on choices of the model: log entries 73 and 97. -/
def Obligations.RequestInstructions : Prop :=
  ∀ (s : State) (c : Nat) (f : FmtT), (s.ctx c).latch = none → ∀ x u a, x = s.ctx c → u = s.tenantOf c → a = (x.gr f.ra).toNat →
    (f.ctl.toNat % 32 = 0 → f.ctl.toNat / 32 % 4 ≠ 3 → Fetches s c 1 (.harvest c f) →
      (s.flag HV_CFG_PROG_EN 0 = false → u ≠ s.sysTenant → Sets (.harvest c f) c s (x.next.setP f.pd.toNat false)) ∧
      (s.flag HV_CFG_PROG_EN 0 = true ∨ u = s.sysTenant → ∀ s2 n,
        (s.begin c).requestHarvest (if 128 ≤ f.ctl.toNat then
          s.timedReq (s.cmpSigned (f.ctl.toNat / 32 % 4) u) a (x.gr f.rb).toNat else s.immediateReq) = (s2, n) →
        Runs (.harvest c f) c s [HV_STAT2_PENDING.at_ 0, HV_STAT2_REFUSED.at_ 0] [.taps]
          (match n with
            | some k => (x.next.setG f.rd (BitVec.ofNat 64 k)).setP f.pd.toNat true
            | none => x.next.setP f.pd.toNat false) (fun t => t.taps = s2.taps))) ∧
    (f.rb = 0 → f.ctl = 0 → Fetches s c 1 (.tlaunch c f) →
      (a % 64 ≠ 0 → Traps (.tlaunch c f) c s 0x0003 a) ∧
      (a % 64 = 0 → s.scrLen c < a + 64 → Traps (.tlaunch c f) c s 0x0004 a) ∧
      (a % 64 = 0 → a + 64 ≤ s.scrLen c → 16 ≤ (s.launches u).length → Sets (.tlaunch c f) c s (x.next.setP f.pd.toNat false)) ∧
      (a % 64 = 0 → a + 64 ≤ s.scrLen c → (s.launches u).length < 16 → ∀ k,
        k = (if s.getF IM_TSTAT_TICKET u = 2 ^ 32 - 1 then 1 else s.getF IM_TSTAT_TICKET u + 1) →
        Runs (.tlaunch c f) c s (counterSpots ++ [IM_TSTAT_TICKET.at_ u, IM_TSTAT_QUEUED.at_ u]) [.imago]
          ((x.next.setG f.rd (BitVec.ofNat 64 k)).setP f.pd.toNat true) (fun t => t.getF IM_TSTAT_TICKET u = k ∧
            t.launches u = s.launches u ++ [{ ticket := k, ctx := c, at_ := a, desc := s.scrBytes c (a + 8) 56 }]))) ∧
    (∀ m len, f.rd = 0 → f.ctl.toNat < 64 → Fetches s c 1 (.mbpost c f) → m = (x.gr f.rb).toNat % 256 → len = f.ctl.toNat →
      (48 < len → Traps (.mbpost c f) c s 0x000A (s.fetchWord c)) ∧
      (len ≤ 48 → a % 8 ≠ 0 → Traps (.mbpost c f) c s 0x0003 a) ∧
      (len ≤ 48 → a % 8 = 0 → m / 4 ≠ u → Traps (.mbpost c f) c s 0x0004 m) ∧
      (len ≤ 48 → a % 8 = 0 → m / 4 = u → s.scrLen c < a + len → Traps (.mbpost c f) c s 0x0004 a) ∧
      (len ≤ 48 → a % 8 = 0 → m / 4 = u → a + len ≤ s.scrLen c →
        ((s.mailbox m).parked ≠ none ∨ (x.dep = none ∧ s.flag MB_HDR_READY m = true) →
          Runs (.mbpost c f) c s [MB_HDR_OVERRUN.at_ m] [] (x.next.setP f.pd.toNat false) (fun t =>
            t.getF MB_HDR_OVERRUN m = (s.getF MB_HDR_OVERRUN m + 1) % 2 ^ MB_HDR_OVERRUN.width)) ∧
        ((s.mailbox m).parked = none → x.dep = none → s.flag MB_HDR_READY m = false →
          Runs (.mbpost c f) c s ([MB_HDR_LEN.at_ m, MB_HDR_SEQ.at_ m, MB_HDR_READY.at_ m, MB_HDR_PARKED.at_ m,
            IRQ_TCAUSE_MAILBOX.at_ u] ++ irqSpots) [.mbox, .out] (x.next.setP f.pd.toNat true) (fun t =>
              t.flag MB_HDR_READY m = true ∧ t.getF MB_HDR_LEN m = len ∧
              t.getF MB_HDR_SEQ m = (s.getF MB_HDR_SEQ m + 1) % 2 ^ MB_HDR_SEQ.width ∧
              (t.mailbox m).shown.take len = s.scrBytes c a len)) ∧
        (∀ g, (s.mailbox m).parked = none → x.dep = some g → s.genState u g = .open_ →
          Runs (.mbpost c f) c s [MB_HDR_PARKED.at_ m] [.mbox] (x.next.setP f.pd.toNat true) (fun t =>
            t.flag MB_HDR_PARKED m = true ∧ (t.mailbox m).shown = (s.mailbox m).shown ∧
            (t.mailbox m).parked = some { len := len, data := s.scrBytes c a len, gen := g, sealed := false })) ∧
        (∀ g, (s.mailbox m).parked = none → x.dep = some g → s.genState u g = .voided →
          Runs (.mbpost c f) c s [MB_HDR_VOIDED.at_ m] [] (x.next.setP f.pd.toNat true) (fun t =>
            t.getF MB_HDR_VOIDED m = (s.getF MB_HDR_VOIDED m + 1) % 2 ^ MB_HDR_VOIDED.width))))

/-- HIST and SKETCH (R158, R159): one scratch operation each, that adds to the bin of the value and stops at 2^64 − 1, or that raises the rows
of the key (with CONS those at the estimate) and stops at 2^32 − 1. That with CONS a row above the estimate leaves p[PD] alone is the model's choice (log
entry 101).
Some clauses rest on choices of the model: log entry 101. -/
def Obligations.HistogramAndSketch : Prop :=
  ∀ (s : State) (c : Nat) (f : FmtT), (s.ctx c).latch = none → ∀ x a k, x = s.ctx c → a = (x.gr f.ra).toNat → k = (x.gr f.rb).toNat →
    (∀ v bin old sum, f.ctl.toNat < 128 → Fetches s c 1 (.hist c f) → v = k / 2 ^ (f.ctl.toNat % 64) →
      bin = (if v = 0 then 0 else min 63 (Nat.log2 v + 1)) → old = leNat (s.scrBytes c (a + 8 * bin) 8) →
      sum = old + (if f.ctl.getLsbD 6 then (x.gr f.rd).toNat else 1) →
      (a % 8 ≠ 0 → Traps (.hist c f) c s 0x0003 a) ∧
      (a % 8 = 0 → s.scrLen c < a + 512 → Traps (.hist c f) c s 0x0004 a) ∧
      (a % 8 = 0 → a + 512 ≤ s.scrLen c →
        Runs (.hist c f) c s [] [.cores] (x.next.setP f.pd.toNat (decide (sum < 2 ^ 64))) (fun t =>
          leNat (t.scrBytes c (a + 8 * bin) 8) = min sum (2 ^ 64 - 1) ∧
          (∀ b, b < s.scrBase c + a + 8 * bin ∨ s.scrBase c + a + 8 * bin + 8 ≤ b →
            memRead (t.core (coreOf c)).scratch b = memRead (s.core (coreOf c)).scratch b)))) ∧
    (∀ logw rows place est, Fetches s c 1 (.sketch c f) → logw = f.ctl.toNat % 32 → rows = f.ctl.toNat / 64 + 1 →
      place = (fun i => a + 4 * 2 ^ logw * i + 4 * (k * ([0x9E3779B97F4A7C15, 0xC2B2AE3D27D4EB4F, 0x165667B19E3779F9,
        0x85EBCA77C2B2AE63].getD i 0) % 2 ^ 64 / 2 ^ (64 - logw))) →
      (∀ i < rows, est ≤ leNat (s.scrBytes c (place i) 4)) → (∃ i < rows, est = leNat (s.scrBytes c (place i) 4)) →
      (logw < 4 ∨ 16 < logw → Traps (.sketch c f) c s 0x000A (s.fetchWord c)) ∧
      (4 ≤ logw → logw ≤ 16 → a % 4 ≠ 0 → Traps (.sketch c f) c s 0x0003 a) ∧
      (4 ≤ logw → logw ≤ 16 → a % 4 = 0 → s.scrLen c < a + 4 * 2 ^ logw * rows → Traps (.sketch c f) c s 0x0004 a) ∧
      (4 ≤ logw → logw ≤ 16 → a % 4 = 0 → a + 4 * 2 ^ logw * rows ≤ s.scrLen c →
        Runs (.sketch c f) c s [] [.cores]
          ((x.next.setG f.rd (BitVec.ofNat 64 (min (2 ^ 32 - 1) (est + 1)))).setP f.pd.toNat
            (decide (∀ i < rows, (f.ctl.getLsbD 5 = false ∨ leNat (s.scrBytes c (place i) 4) = est) →
              leNat (s.scrBytes c (place i) 4) ≠ 2 ^ 32 - 1))) (fun t =>
          (∀ i < rows, leNat (t.scrBytes c (place i) 4) =
            if f.ctl.getLsbD 5 = false ∨ leNat (s.scrBytes c (place i) 4) = est then
              min (2 ^ 32 - 1) (leNat (s.scrBytes c (place i) 4) + 1) else leNat (s.scrBytes c (place i) 4)) ∧
          (∀ b, (∀ i < rows, b < s.scrBase c + place i ∨ s.scrBase c + place i + 4 ≤ b) →
            memRead (t.core (coreOf c)).scratch b = memRead (s.core (coreOf c)).scratch b))))

/-- FENCE, YIELD, HALT and TRAP (R138, R162, R164). A FENCE of the translated space in a context with an unreported store error traps in its
place; in this model every other effect has taken place by then, so that it only goes on (the model's choice, log entry 12). YIELD
goes on, and the context then issues nothing for CTL cycles, or, with CTL = 0, lets the other contexts of its core that can issue go first; HALT ends the program; TRAP traps with cause 0x0100 + CODE.
Some clauses rest on choices of the model: log entries 10 and 92. -/
def Obligations.ControlInstructions : Prop :=
  ∀ (s : State) (c : Nat) (f : FmtT), (s.ctx c).latch = none → f.rd = 0 → f.ra = 0 → f.rb = 0 → f.pd = 0 → ∀ x, x = s.ctx c →
    (Fetches s c 1 (.fence c f) → f.ctl.toNat < 8 →
      (x.lateErrs = [] ∨ f.ctl.getLsbD 1 = false → Sets (.fence c f) c s x.next) ∧
      (∀ a more, x.lateErrs = a :: more → f.ctl.getLsbD 1 = true →
        TrapsWith (.fence c f) c s 0x0006 a { x with lateErrs := [] } [] (fun _ => True))) ∧
    (Fetches s c 1 (.yield c f) → Runs (.yield c f) c s [] [.cores] x.next (fun t =>
      t.skipOf c = some (if f.ctl = 0 then .turn else .until_ (s.rawNow + (125 * f.ctl.toNat + 127) / 128)) ∧
      (∀ d, d ≠ c → t.skipOf d = (s.begin c).skipOf d) ∧
      (t.core (coreOf c)).scratch = (s.core (coreOf c)).scratch ∧ (t.core (coreOf c)).imem = (s.core (coreOf c)).imem)) ∧
    (∀ i, issuer i = some c →
      (∀ r, s.skipOf c = some (.until_ r) → s.rawNow < r → Idle i s) ∧
      (∀ d, s.skipOf c = some .turn → coreOf d = coreOf c → s.eligible d (s.needOf d) = true → s.skipOf d ≠ some .turn → Idle i s)) ∧
    (Fetches s c 1 (.halt c f) → f.ctl = 0 →
      Runs (.halt c f) c s (CX_STATUS_STATE.at_ c :: formSpots) formParts x.next (fun t => t.cxState c = 5)) ∧
    (Fetches s c 1 (.trap c f) → Traps (.trap c f) c s (0x0100 + f.ctl.toNat) 0)

/-! ### Antenna taps and harvests (chapter 05) -/

/-- The class of an egress slot, as its event behind 60, and its waste part: the first row of R188 that matches. -/
def slotRow (x : EgressSlot) : Nat × Option Nat :=
  if x.replay then (1, some 0)
  else if x.dup then (1, some 1)
  else if x.drop then (1, some 2)
  else if x.abort then (1, some 3)
  else if x.fill then (1, some 4)
  else if x.packet ∨ x.control then (0, none)
  else if x.blocked then (3, none)
  else (2, none)

/-- What an antenna has seen, as event and amount (R172, R188): an egress slot is one event of its class, and no other event is such a
class. -/
def eventIs : AntEvent → Nat → Nat → Prop
  | .count e n, ev, amount => e < 60 ∧ ev = e ∧ amount = n
  | .slot x, ev, amount => ev = 60 + (slotRow x).1 ∧ amount = 1

/-- The flush queue of a tile with one more entry; it waits while the queue holds 128 (R24, R25). -/
def pushed (x : TapTile) (e : FlushEnt) : TapTile :=
  if x.queue.length < 128 ∧ x.wait = [] then { x with queue := x.queue ++ [e] } else { x with wait := x.wait ++ [e] }

/-- The first entry has left a tile's flush queue, and what waited moves up while there is room (R24, R25). -/
def movedUp (x y : TapTile) (rest : List FlushEnt) : Prop :=
  y.queue ++ y.wait = rest ++ x.wait ∧ (y.wait ≠ [] → 128 ≤ y.queue.length)

/-- Counting (R171 to R178, R188): an event advances its 24-bit accumulator, lane events at every lane slot and port events at the first slot
of an enabled port alone, and an egress slot is counted in the one class that R188 gives it, in the port's summary too; a chip event
advances its central counter. A flush moves an accumulator into the queue of its tile, unless the queue is full, and the central RAM
takes the entries in order; neither changes what a live read gives. A preset is what a live read gives from then on; a reserved block
counter reads as before.
Some clauses rest on choices of the model: log entries 35, 76 and 77. -/
def Obligations.AntennaCounting : Prop :=
  ∀ s : State,
    (∀ a e ev amount, s.inReset = false → a < 512 → ev < 64 → eventIs e ev amount →
      Does (.antennaEvent a e) s [] [.taps] (fun t =>
        t.acc (64 * a + ev) = (if ev < 8 ∨ s.firstSlot a = true then (s.acc (64 * a + ev) + amount) % 2 ^ 24 else s.acc (64 * a + ev)) ∧
        (∀ i, i ≠ 64 * a + ev → t.acc i = s.acc i) ∧ t.taps.tiles = s.taps.tiles ∧ (s.firstSlot a = false → t.taps.stats = s.taps.stats) ∧
        (∀ x, s.firstSlot a = true → e = .slot x →
          (∀ k, smGet 0 (t.portStat a).slots k = smGet 0 (s.portStat a).slots k + if k = (slotRow x).1 then 1 else 0) ∧
          (∀ k, smGet 0 (t.portStat a).parts k = smGet 0 (s.portStat a).parts k + if (slotRow x).2 = some k then 1 else 0)))) ∧
    (∀ n, s.inReset = false → n < 3584 →
      Does (.chipEvent n) s [Reg.at_ .CTR_LIVE (33280 + n), Reg.at_ .CTR_OVF ((33280 + n) / 64)] [] (fun t =>
        t.getReg .CTR_LIVE (33280 + n) = s.getReg .CTR_LIVE (33280 + n) + 1 ∧
        (s.getReg .CTR_LIVE (33280 + n) = BitVec.allOnes 64 → t.arrBit .CTR_OVF (33280 + n) = true))) ∧
    (∀ a ev, s.inReset = false → a < 512 → ev = smGet 0 s.taps.walk a → ev < 64 → (s.tapTile (a / 16)).queue.length < 128 →
      (s.tapTile (a / 16)).wait = [] →
      Does (.antennaFlush a) s [] [.taps] (fun t =>
        (t.tapTile (a / 16)).queue =
          (s.tapTile (a / 16)).queue ++ [.flush (64 * a + ev) (s.acc (64 * a + ev)) (s.tapTile (a / 16)).tag] ∧
        t.acc (64 * a + ev) = 0 ∧ smGet 0 t.taps.walk a = (ev + 1) % 64 ∧ ∀ j, t.liveValue j = s.liveValue j)) ∧
    (∀ a, 128 ≤ (s.tapTile (a / 16)).queue.length ∨ (s.tapTile (a / 16)).wait ≠ [] → Idle (.antennaFlush a) s) ∧
    (∀ k i v tag rest, s.inReset = false → k < 32 → (s.tapTile k).building = none → (s.tapTile k).queue = .flush i v tag :: rest →
      i / 1024 = k →
      Does (.flushApply k) s [Reg.at_ .CTR_LIVE i, Reg.at_ .CTR_OVF (i / 64)] [.taps] (fun t =>
        t.getReg .CTR_LIVE i = s.getReg .CTR_LIVE i + BitVec.ofNat 64 v ∧ movedUp (s.tapTile k) (t.tapTile k) rest ∧
        ∀ j, t.liveValue j = s.liveValue j)) ∧
    (∀ k i v rest, s.inReset = false → k < 32 → (s.tapTile k).building = none → (s.tapTile k).queue = .preset i v :: rest →
      Does (.flushApply k) s [Reg.at_ .CTR_LIVE i] [.taps] (fun t =>
        t.getReg .CTR_LIVE i = v ∧ movedUp (s.tapTile k) (t.tapTile k) rest)) ∧
    (∀ i, s.ready = true → i < 36864 → Does (.liveRead i) s [] [.hostResp] (fun t => t.hostResp = some (s.liveValue i))) ∧
    (∀ i data, s.ready = true → i < 36864 → (i < 32784 ∨ 33280 ≤ i) → Does (.counterPreset i data) s [Reg.at_ .CTR_LIVE i] [.taps] (fun t =>
      t.liveValue i = data ∧ ∀ j, j ≠ i → t.liveValue j = s.liveValue j)) ∧
    (∀ i data, 32784 ≤ i → i < 33280 → Idle (.counterPreset i data) s)

/-- Harvests (R180 to R185). A request without another near it takes the next number and the first tick 64 ticks away; at its tick the strobe goes
out, and the block and chip counters are latched; each tile latches its accumulators in one cycle behind a marker of its old tag; the
exchange puts the build bank into the shadow, and NUM, HV_TICK and LATE tell of it; the image is written, its header last. Of a write with the
reserved MODE 3 the model takes MODE 0 (log entry 100).
Some clauses rest on choices of the model: log entries 41 and 76. -/
def Obligations.Harvests : Prop :=
  ∀ s : State,
    (∀ data, HV_CMD_GO.on data = false → Idle (.harvestRequest data) s) ∧
    (∀ data, s.ready = true → HV_CMD_GO.on data = true → HV_CMD_TIMED.on data = false → s.taps.run = none → s.taps.cal = [] →
      Does (.harvestRequest data) s [HV_STAT2_PENDING.at_ 0, HV_STAT2_REFUSED.at_ 0, HV_STAT_ACCEPTED.at_ 0] [.taps] (fun t =>
        t.getF HV_STAT_ACCEPTED 0 = s.taps.nextNum % 2 ^ 32 ∧ t.getF HV_STAT2_PENDING 0 = 1 ∧
        t.taps.cal = [{ num := s.taps.nextNum, timed := false, tick := s.rawNow + 64 }] ∧ t.taps.run = none ∧
        t.taps.nextNum = (if s.taps.nextNum = 2 ^ 32 - 1 then 1 else s.taps.nextNum + 1))) ∧
    (∀ data s1 n, s.ready = true → HV_CMD_GO.on data = true → HV_CMD_TIMED.on data = true →
      s.requestHarvest (s.timedReq (s.cmpSigned (HV_CMD_MODE.of data % 3) s.sysTenant) (s.getReg .HV_TGT_LO 0).toNat
        (s.getReg .HV_TGT_HI 0).toNat) = (s1, n) →
      Does (.harvestRequest data) s [HV_STAT2_PENDING.at_ 0, HV_STAT2_REFUSED.at_ 0, HV_STAT_ACCEPTED.at_ 0] [.taps] (fun t =>
        t.taps = s1.taps ∧ ∀ k, n = some k → t.getF HV_STAT_ACCEPTED 0 = k % 2 ^ 32)) ∧
    (∀ r, s.inReset = false → s.taps.run = none → s.taps.cal.find? (fun x => x.num == r.num) = some r → s.harvestDue r = true →
      Does (.harvestTick r.num) s [HV_STAT2_PENDING.at_ 0] [.taps, .out] (fun t =>
        t.out = s.out ++ [.harvestStrobe r.num] ∧ t.taps.cal = s.taps.cal.filter (fun x => x.num != r.num) ∧
        ∃ h, t.taps.run = some h ∧ h.num = r.num ∧ h.tick = (if r.timed then s.rawNow else r.tick) ∧ h.latched = [] ∧ h.complete = [] ∧
          ∀ i, 32768 ≤ i → i < 36864 → smGet 0 h.build i = s.getReg .CTR_LIVE i ∧ smGet false h.ovf i = s.arrBit .CTR_OVF i)) ∧
    (∀ k r, s.inReset = false → k < 32 → s.taps.run = some r → r.latched.contains k = false →
      Does (.harvestLatch k) s [] [.taps] (fun t =>
        t.tapTile k = { pushed (s.tapTile k) (.marker (s.tapTile k).tag) with
          tag := !(s.tapTile k).tag, latched := (List.range 1024).map (fun j => (1024 * k + j, s.acc (1024 * k + j))) } ∧
        t.taps.run = some { r with latched := r.latched ++ [k] } ∧ ∀ j, j ≠ k → t.tapTile j = s.tapTile j)) ∧
    (∀ r u, s.inReset = false → s.taps.run = some r → r.complete.length = 32 → u = s.sysTenant →
      Does .harvestExchange s (formSpots ++ [Reg.all .HV_OVF, Reg.all .HV_SHADOW, HV_STAT_NUM.at_ 0, HV_TICK_SHORT.at_ 0, HV_STAT2_LATE.at_ 0,
          HV_STAT2_DMA_BUSY.at_ 0, HV_STAT2_DMA_SKIP.at_ 0, RK_STAT_SEQ.at_ 0, RK_STAT_SKIP.at_ 0, DS_STAT_STATE.at_ (ds u 9),
          DS_STAT_POS.at_ (ds u 9), DS_STAT_STATE.at_ (ds u 10), DS_STAT_POS.at_ (ds u 10)]) (.taps :: formParts) (fun t =>
        (∀ i < 36864, t.getReg .HV_SHADOW i = smGet 0 r.build i ∧ t.arrBit .HV_OVF i = smGet false r.ovf i) ∧
        t.getF HV_STAT_NUM 0 = r.num % 2 ^ 32 ∧ t.getF HV_TICK_SHORT 0 = r.short % 2 ^ 64 ∧ t.flag HV_STAT2_LATE 0 = r.late ∧
        t.taps.run = none ∧
        (s.flag HV_CFG_DMA_EN 0 = true → s.flag HV_STAT2_DMA_BUSY 0 = false →
          t.flag HV_STAT2_DMA_BUSY 0 = true ∧ t.dsState u 10 = 1 ∧ t.taps.image ≠ none))) ∧
    (∀ m s1 s2, s.inReset = false → s.taps.image = some m → s.dsState m.tenant 10 = 1 →
      s.streamWrite m.tenant (m.addr + 64) true 4680 m.body = (s1, none) → s1.streamWrite m.tenant m.addr true 1 m.header = (s2, none) →
      Does .harvestImageComplete s [HV_STAT2_DMA_BUSY.at_ 0, DS_STAT_STATE.at_ (ds m.tenant 10), DS_STAT_POS.at_ (ds m.tenant 10),
          DS_STAT_LAST.at_ (ds m.tenant 10)]
        [.taps, .salt, .host] (fun t => t.flag HV_STAT2_DMA_BUSY 0 = false ∧ t.dsState m.tenant 10 = 0 ∧
          t.getF DS_STAT_POS (ds m.tenant 10) = 299584 ∧ t.getF DS_STAT_LAST (ds m.tenant 10) = 1 ∧ t.taps.image = none ∧ t.salt = s2.salt ∧ t.host = s2.host)) ∧
    (∀ m s1 cause va, s.inReset = false → s.taps.image = some m → s.dsState m.tenant 10 = 1 →
      s.streamWrite m.tenant (m.addr + 64) true 4680 m.body = (s1, some (cause, va)) →
      Does .harvestImageComplete s (formSpots ++ irqSpots ++ [DS_STAT_STATE.at_ (ds m.tenant 10), DS_STAT_POS.at_ (ds m.tenant 10),
          DS_FAULT_CAUSE.at_ (ds m.tenant 10), DS_FAULT_ADDR.at_ (ds m.tenant 10)]) (.salt :: .host :: .out :: formParts) (fun t =>
        t.dsState m.tenant 10 = 2 ∧ t.getF DS_FAULT_CAUSE (ds m.tenant 10) = cause % 2 ^ DS_FAULT_CAUSE.width))

/-- The rake, tagging and ports (R96, R171, R186, R187, R191, R196). -/
def rakeAndTags : Prop :=
  ∀ s : State,
    (∀ m unit s1 n, s.inReset = false → s.flag RK_CFG_EN 0 = true → unit = s.getF RK_CFG_PERIOD 0 * 1000 * 2 ^ 40 →
      s.passes unit = some m →
      s.requestHarvest { num := 0, timed := true, tick := s.rawNow, signed := true, lo := shortOf (m * unit), epoch := s.epoch,
                         rake := true } = (s1, n) →
      Does .rakePeriod s [HV_STAT2_PENDING.at_ 0, HV_STAT2_REFUSED.at_ 0, RK_STAT_SKIP.at_ 0] [.taps] (fun t => t.taps = s1.taps ∧
        t.getF RK_STAT_SKIP 0 = if n = none then (s.getF RK_STAT_SKIP 0 + 1) % 2 ^ 16 else s.getF RK_STAT_SKIP 0)) ∧
    (∀ data h l, s.ready = true → h = RK_PTR_HEAD.of data → l = s.getF RK_RING_LEN 0 * 65536 →
      (h % 64 = 0 → h < l → (h + l - s.getF RK_PTR_HEAD 0) % l ≤ (s.getF RK_PTR_TAIL 0 + l - s.getF RK_PTR_HEAD 0) % l →
        Does (.rakeHeadWrite data) s [RK_PTR_HEAD.at_ 0] [] (fun t => t.getF RK_PTR_HEAD 0 = h)) ∧
      (h % 64 ≠ 0 ∨ l ≤ h → Idle (.rakeHeadWrite data) s)) ∧
    (∀ j s1, s.inReset = false → s.taps.rake = some j → s.dsState j.tenant 9 = 1 →
      s.writeRing j.tenant (j.entry.length / 64) j.entry 0 = (s1, none) →
      Does .rakeEntryComplete s (counterSpots ++ [RK_PTR_TAIL.at_ 0, RK_STAT_SEQ.at_ 0, DS_STAT_STATE.at_ (ds j.tenant 9),
          DS_STAT_POS.at_ (ds j.tenant 9), DS_STAT_LAST.at_ (ds j.tenant 9)]) [.taps, .salt, .host] (fun t =>
        t.getF RK_PTR_TAIL 0 = (s.getF RK_PTR_TAIL 0 + j.entry.length) % (max 1 s.rakeLen) % 2 ^ 32 ∧
        t.getF RK_STAT_SEQ 0 = j.seq % 2 ^ 32 ∧ t.dsState j.tenant 9 = 0 ∧
        t.getF DS_STAT_POS (ds j.tenant 9) = j.entry.length % 2 ^ DS_STAT_POS.width ∧ t.getF DS_STAT_LAST (ds j.tenant 9) = 1 ∧ t.taps.rake = none ∧
        t.salt = s1.salt ∧ t.host = s1.host)) ∧
    (∀ j s1 cause va pos, s.inReset = false → s.taps.rake = some j → s.dsState j.tenant 9 = 1 →
      s.writeRing j.tenant (j.entry.length / 64) j.entry 0 = (s1, some (cause, va, pos)) →
      Does .rakeEntryComplete s (formSpots ++ irqSpots ++ [DS_STAT_STATE.at_ (ds j.tenant 9), DS_STAT_POS.at_ (ds j.tenant 9),
          DS_FAULT_CAUSE.at_ (ds j.tenant 9), DS_FAULT_ADDR.at_ (ds j.tenant 9)]) (.salt :: .host :: .out :: formParts) (fun t =>
        t.dsState j.tenant 9 = 2 ∧ t.getF DS_FAULT_CAUSE (ds j.tenant 9) = cause % 2 ^ DS_FAULT_CAUSE.width)) ∧
    (∀ a data, s.ready = true → a < 512 → Does (.anTagWrite a data) s [Reg.at_ .AN_TAG a] [] (fun t =>
      t.getF AN_TAG_EN a = AN_TAG_EN.of data ∧ (6 ≤ AN_TAG_K.of data → AN_TAG_K.of data ≤ 24 → t.getF AN_TAG_K a = AN_TAG_K.of data) ∧
      (AN_TAG_SEED.of data ≠ 0 → t.getF AN_TAG_SEED a = AN_TAG_SEED.of data))) ∧
    (∀ first width, first < 512 → first + width ≤ 512 →
      Does (.portReconfigure first width) s [] [.taps] (fun t => smGet 0 t.taps.ports first = width ∧
        t.taps.acc = s.taps.acc ∧ t.taps.tiles = s.taps.tiles)) ∧
    (∀ p raw frac g, s.inReset = false → s.firstSlot p = true → s.flag AN_TAG_EN p = true → g = xorshift (s.getF AN_TAG_SEED p) →
      Does (.packetIngress p raw frac) s [AN_TAG_SEED.at_ p] [.taps] (fun t =>
        t.getF AN_TAG_SEED p = g % 2 ^ 32 ∧
        (t.portStat p).flights =
          if g / 2 ^ (32 - s.getF AN_TAG_K p) = 0 then (s.portStat p).flights ++ [(raw, frac)] else (s.portStat p).flights))

/-- What a dropped antenna record may change: the LOSS that tells of it. -/
def antDropParts : List Part := .taps :: .funnel :: formParts

/-- Antenna records (R23, R25, R190, R192 to R194): a tagged packet's end, a finished sample interval and a finished summary interval send a
record to the queue of the tile while it has room for its slots; the oldest record of a tile enters the funnel while no more than
1,000 slots have entered in this microsecond. One summary ends the interval at a step over boundaries: the model's choice, log entry 78. -/
def antennaRecords : Prop :=
  ∀ (s : State) (p : Nat), s.inReset = false →
    (∀ info st, info.stages.headD none = some st → (s.portStat p).flights.contains st = true →
      Does (.taggedPacketEnd p info) s formSpots antDropParts (fun t =>
        (((s.recQueue (tileOf p)).map AntRec.slots).sum ≤ 62 → t.recQueue (tileOf p) = s.recQueue (tileOf p) ++ [.flight p info]) ∧
        (62 < ((s.recQueue (tileOf p)).map AntRec.slots).sum → t.recQueue (tileOf p) = s.recQueue (tileOf p)) ∧
        (t.portStat p).flights = (s.portStat p).flights.erase st)) ∧
    (∀ lo peak peaks, s.firstSlot p = true → Does (.queueSample p lo peak peaks) s [] [.taps] (fun t =>
      (t.portStat p).samples = (s.portStat p).samples + 1 ∧ (t.portStat p).qpeak = max (s.portStat p).qpeak peak ∧
      (t.portStat p).qmin = some (match (s.portStat p).qmin with | some m => min m lo | none => lo))) ∧
    (s.firstSlot p = true → 2 ^ s.getF AN_PCFG_SI p ≤ (s.portStat p).samples →
      Does (.portSampleInterval p) s formSpots antDropParts (fun t => (t.portStat p).samples = 0 ∧ (t.portStat p).qmin = none ∧
        (t.portStat p).qpeak = 0 ∧ (t.portStat p).stallOut = 0 ∧ (t.portStat p).stallIn = 0 ∧
        (s.flag AN_PCFG_SAMP_EN p = false → t.taps.recs = s.taps.recs) ∧
        (s.flag AN_PCFG_SAMP_EN p = true →
          ((s.recQueue (tileOf p)).map AntRec.slots).sum + slotsOf (s.samplePayload p).length ≤ 64 →
          t.recQueue (tileOf p) = s.recQueue (tileOf p) ++ [.sample p s.rawNow (s.samplePayload p)]))) ∧
    (s.firstSlot p = true → s.running = true → (s.portStat p).sumIdx ≠ s.summaryIdx p →
      Does (.slotSummaryInterval p) s formSpots antDropParts (fun t => (t.portStat p).slots = [] ∧ (t.portStat p).parts = [] ∧
        (t.portStat p).gate = 0 ∧ (t.portStat p).sumIdx = s.summaryIdx p ∧
        (s.flag AN_PCFG_SLOT_EN p = false → t.taps.recs = s.taps.recs) ∧
        (s.flag AN_PCFG_SLOT_EN p = true → ((s.recQueue (tileOf p)).map AntRec.slots).sum ≤ 62 →
          t.recQueue (tileOf p) = s.recQueue (tileOf p) ++
            [.summary p (s.summaryIdx p * (2 ^ s.getF AN_PCFG_INTV p * 1000 * 2 ^ 40)) (wordEpoch ((s.tile (tileOf p)).wordAt s.rawNow))
              (s.summaryPayload p)]))) ∧
    (∀ tile r rest, tile < 32 → s.recQueue tile = r :: rest →
      Does (.antennaRecordIngest tile) s formSpots antDropParts (fun t => t.recQueue tile = rest ∧
        t.taps.ingested = if s.taps.ingested + r.slots ≤ 1000 then s.taps.ingested + r.slots else s.taps.ingested)) ∧
    (∀ tile, s.recQueue tile = [] → Idle (.antennaRecordIngest tile) s)

/-- The rake, tags and the records of an antenna.
Some clauses rest on choices of the model: log entries 44, 76, 77 and 78. -/
def Obligations.RakeTagsAndRecords : Prop := rakeAndTags ∧ antennaRecords

/-! ### Engine trace ingest and the sequencers (chapter 06) -/

/-- The header word of a wire record keeps R205: a type of an engine with a slot count that R37 gives it, and zeros elsewhere. -/
abbrev soundHeader (h : Nat) : Prop :=
  h / 2 ^ 35 % 2 ^ 18 = 0 ∧ (h / 2 ^ 56, h / 2 ^ 53 % 8 + 1) ∈
    [(1, 1), (1, 2), (1, 3), (1, 4), (2, 1), (3, 1), (4, 1), (4, 2), (5, 1), (5, 2)]

/-- The wire records of a payload in order, each by its header word and its bytes behind the first 16: pad slots, which only a short packet has
and only behind its records, are left out, and the first record that breaks R205 or runs past the end ends the list. The second part
says that there is one. -/
def wireSplit (format : Nat) : Nat → Bool → List Byte → List (Nat × List Byte) × Bool
  | 0, _, _ => ([], false)
  | n + 1, pad, body =>
    let h := leNat (body.take 8)
    let len := 32 * (h / 2 ^ 53 % 8 + 1)
    if body = [] then ([], false)
    else if h / 2 ^ 56 = 0 ∧ format = 0 ∧ (body.take 32).all (· == 0) = true then wireSplit format n true (body.drop 32)
    else if pad = true ∨ ¬ soundHeader h ∨ leNat ((body.drop 8).take 8) ≠ 0 ∨ body.length < len then ([], true)
    else ((h, (body.take len).drop 16) :: (wireSplit format n false (body.drop len)).1, (wireSplit format n false (body.drop len)).2)

/-- A gap of `d` records before the record with SEQ `seq` of an engine source is tallied (R217): it joins the tally that the source has open, or
opens one while the source's last LOSS is less than 1,600 cycles (1,562.5 ticks) old, or has its LOSS at once. -/
def gapTallied (s a : State) (source d seq : Nat) : Prop :=
  ∀ key recent, key = 16 * source + 9 →
    recent = (match smGet none s.funnel.lastLoss source with | some r => decide (2 * (s.rawNow - r) < 3125) | none => false) →
    a.getReg .CTR_LIVE (32768 + 4) = s.getReg .CTR_LIVE (32768 + 4) + 1 ∧
    (∀ o, smGet none s.funnel.gaps key = some o → ∃ g, smGet none a.funnel.gaps key = some g ∧ g.count = o.count + d ∧ g.first = o.first ∧
      g.last = (seq + 2 ^ 28 - 1) % 2 ^ 28) ∧
    (smGet none s.funnel.gaps key = none → recent = true → ∃ g, smGet none a.funnel.gaps key = some g ∧ g.count = d ∧
      g.first = s.getF TI_SEQVAL_NEXT source ∧ g.last = (seq + 2 ^ 28 - 1) % 2 ^ 28) ∧
    (smGet none s.funnel.gaps key = none → recent = false → smGet none a.funnel.lastLoss source = some s.rawNow)

/-- What a wire record of home entry `i` does (R206, R216, R217, R221). One whose number lies 2^27 or more ahead of the expected one is stale and
counted. Any other sets the number expected next, an acknowledgement in it is noted, a gap before it is tallied, and it is offered to the
queue manager as RECORD_APPEND offers a record, with its own number. -/
def recordTaken (i : Nat) (w : Nat × List Byte) (s t : State) : Prop :=
  ∀ source seq d ev arg, source = 128 * i + w.1 / 2 ^ 28 % 128 → seq = w.1 % 2 ^ 28 →
    d = (seq + 2 ^ 28 - s.getF TI_SEQVAL_NEXT source) % 2 ^ 28 → ev = leNat (w.2.take 2) → arg = leNat ((w.2.drop 4).take 4) →
    (s.flag TI_SEQVAL_VALID source = true → 2 ^ 27 ≤ d →
      Only [TI_STAT_STALE.at_ 0] [] s t ∧ t.getF TI_STAT_STALE 0 = (s.getF TI_STAT_STALE 0 + 1) % 2 ^ TI_STAT_STALE.width) ∧
    (s.flag TI_SEQVAL_VALID source = false ∨ d < 2 ^ 27 →
      ∃ (a : State) (r : RecIn),
        Only (formSpots ++ [Reg.at_ .TI_SEQVAL source, HT_CTL_ACK_SEQ.at_ i, HT_CTL_LATE.at_ i]) (.funnel :: formParts) s a ∧
        a.getF TI_SEQVAL_NEXT source = (seq + 1) % 2 ^ 28 ∧ a.flag TI_SEQVAL_VALID source = true ∧
        (w.1 / 2 ^ 56 = 1 → 0x8000 ≤ ev → ev ≤ 0x8002 → a.getF HT_CTL_ACK_SEQ i = arg % 2 ^ HT_CTL_ACK_SEQ.width ∧
          (arg / 65536 % 4 ≠ 0 → a.getF HT_CTL_LATE i = (s.getF HT_CTL_LATE i + 1) % 2 ^ HT_CTL_LATE.width)) ∧
        ((s.flag TI_SEQVAL_VALID source = false ∨ d = 0) →
          Only (counterSpots ++ [Reg.at_ .TI_SEQVAL source, HT_CTL_ACK_SEQ.at_ i, HT_CTL_LATE.at_ i]) [] s a) ∧
        (s.flag TI_SEQVAL_VALID source = true → d ≠ 0 → gapTallied s a source d seq) ∧
        r = { typ := w.1 / 2 ^ 56, cls := 2, tenant := s.homeTenant i, source := source, seq := some seq, stamp := s.shortNow,
              epoch := s.epoch, payload := w.2 } ∧
        exec (.recordAppend r) a = .next t)

/-- The records of a packet one after another. -/
def recordsTaken (i : Nat) : List (Nat × List Byte) → State → State → Prop
  | [], s, t => t = s
  | w :: ws, s, t => ∃ u, recordTaken i w s u ∧ recordsTaken i ws u t

/-- TRACE packets in the order of R199: a disabled funnel, a malformed packet, an unknown source and a packet beyond the credit are counted and
have no other effect. An accepted packet is charged to RECV when it carries the present credit epoch, renews the lease of its entry
(R214, R367), and its records are taken one after another up to the first that breaks R205, which is counted MALFORMED. -/
def tracePackets : Prop :=
  ∀ (s : State) (p : TracePkt), s.inReset = false →
    (s.flag TI_CTRL_ENABLE 0 = false → Does (.tracePacket p) s [TI_STAT_DISABLED.at_ 0] [] (fun t =>
      t.getF TI_STAT_DISABLED 0 = (s.getF TI_STAT_DISABLED 0 + 1) % 2 ^ TI_STAT_DISABLED.width)) ∧
    (∀ bad : Prop, (bad ↔ p.dest ≠ s.getF TI_ADDR_ADDR 0 ∨ p.src % 128 ≠ 0 ∨ p.kind ≠ 0x54 ∨ p.payload.length ≠ p.len ∨
        ¬ ((p.format = 0 ∧ p.len = 96) ∨ (p.format = 1 ∧ 32 ≤ p.len ∧ p.len ≤ 4096 ∧ p.len % 32 = 0) ∨ (p.format = 2 ∧ p.len = 0))) →
      s.flag TI_CTRL_ENABLE 0 = true →
      (bad → Does (.tracePacket p) s [TI_STAT_MALFORMED.at_ 0] [] (fun t =>
        t.getF TI_STAT_MALFORMED 0 = (s.getF TI_STAT_MALFORMED 0 + 1) % 2 ^ TI_STAT_MALFORMED.width)) ∧
      (¬ bad → s.homeOf p.src = none → Does (.tracePacket p) s [TI_STAT_NOHOME.at_ 0, TI_NOHOME_SRC.at_ 0] [] (fun t =>
        t.getF TI_STAT_NOHOME 0 = (s.getF TI_STAT_NOHOME 0 + 1) % 2 ^ TI_STAT_NOHOME.width ∧
        t.getF TI_NOHOME_SRC 0 = p.src % 2 ^ TI_NOHOME_SRC.width)) ∧
      (∀ i, ¬ bad → s.homeOf p.src = some i → p.cepoch = s.getF HT_CRED_CEPOCH i → s.creditOf i < p.len / 32 →
        Does (.tracePacket p) s [TI_STAT_OVERRUN.at_ 0] [] (fun t =>
          t.getF TI_STAT_OVERRUN 0 = (s.getF TI_STAT_OVERRUN 0 + 1) % 2 ^ TI_STAT_OVERRUN.width)) ∧
      (∀ i, ¬ bad → s.homeOf p.src = some i → (p.cepoch ≠ s.getF HT_CRED_CEPOCH i ∨ p.len / 32 ≤ s.creditOf i) →
        Does (.tracePacket p) s (formSpots ++ [HT_STAT_RECV.at_ i, HT_CTL_ACK_SEQ.at_ i, HT_CTL_LATE.at_ i, LS_ENT_MISSES.at_ i,
            LS_ENT_RENEWALS.at_ i, LS_ENT_STATE.at_ i, IRQ_TCAUSE_HEALTH.all, Reg.all .IRQ_PEND, Reg.all .TI_SEQVAL,
            TI_STAT_MALFORMED.at_ 0, TI_STAT_STALE.at_ 0]) ([.funnel, .leases, .mtx, .out] ++ formParts) (fun t =>
          t.getF HT_STAT_RECV i = (if p.cepoch = s.getF HT_CRED_CEPOCH i then (s.getF HT_STAT_RECV i + p.len / 32) % 2 ^ 32
            else s.getF HT_STAT_RECV i) ∧
          (s.flag LS_CFG_EN 0 = true → s.standby i = false → t.getF LS_ENT_MISSES i = 0 ∧
            t.getF LS_ENT_RENEWALS i = (s.getF LS_ENT_RENEWALS i + 1) % 2 ^ LS_ENT_RENEWALS.width ∧
            smGet false t.leases.renewed i = true ∧ (s.getF LS_ENT_STATE i = 2 → t.getF LS_ENT_STATE i = 1)) ∧
          ∃ b u, Only (formSpots ++ irqSpots ++ [HT_STAT_RECV.at_ i, LS_ENT_MISSES.at_ i, LS_ENT_RENEWALS.at_ i, LS_ENT_STATE.at_ i,
              IRQ_TCAUSE_HEALTH.all]) ([.leases, .mtx, .out] ++ formParts) s b ∧
            (s.getF LS_ENT_STATE i ≠ 2 → Only [HT_STAT_RECV.at_ i, LS_ENT_MISSES.at_ i, LS_ENT_RENEWALS.at_ i] [.leases] s b) ∧
            recordsTaken i (wireSplit p.format (p.len / 32) false p.payload).1 b u ∧
            (if (wireSplit p.format (p.len / 32) false p.payload).2 = true then
              Only [TI_STAT_MALFORMED.at_ 0] [] u t ∧ t.getF TI_STAT_MALFORMED 0 = (u.getF TI_STAT_MALFORMED 0 + 1) % 2 ^ TI_STAT_MALFORMED.width
            else t = u))))

/-- What each home entry is granted in a microsecond (R202): the entries in order, with what is left of the budget. -/
def grantOf (s : State) (i : Nat) : List Nat → Nat → Nat
  | [], _ => 0
  | j :: rest, budget =>
    let g := if s.homeValid j = true ∧ s.standby j = false ∧ s.shareFull (s.homeTenant j) = false then
        min (min (s.getF HT_CRED_RATE j) (s.getF HT_CRED_DEPTH j - s.creditOf j)) budget
      else 0
    if j = i then g else grantOf s i rest (budget - g)

/-- Tallies and credit (R202, R204, R217): each tick of the microsecond clock hands the tallies on; CREDIT_GRANT raises LIMIT of each entry by the
least of RATE, the room up to DEPTH and what is left of CAP, in order from rr, and not for an entry that is not valid, stands by or
whose share is full, moves rr on, and sends a CREDIT to each entry whose LIMIT has risen by MIN_STEP or whose REFRESH has passed; a home
entry written without a duplicate starts a new credit epoch, and with VALID = 0 its renewals are forgotten. -/
def creditAndHome : Prop :=
  ∀ s : State,
    (s.inReset = false → s.funnel.gaps ≠ [] →
      Does .seqGapLossTick s formSpots (.funnel :: formParts) (fun t => ∀ k, smGet none t.funnel.gaps k = none)) ∧
    (s.inReset = false → s.flag TI_CTRL_ENABLE 0 = true →
      Does .creditGrant s (counterSpots ++ [HT_STAT_LIMIT.all]) [.funnel, .out] (fun t =>
        (∀ i < 256, t.getF HT_STAT_LIMIT i = (s.getF HT_STAT_LIMIT i +
          grantOf s i ((List.range 256).map (fun j => (s.funnel.rr + j) % 256)) (s.getF TI_CRCFG_CAP 0)) % 2 ^ 32) ∧
        t.funnel.rr = (s.funnel.rr + 1) % 256 ∧
        ∃ more, t.out = s.out ++ more ∧ ∀ i < 256, ∀ due : Prop,
          (due ↔ s.homeValid i = true ∧ s.standby i = false ∧
            (s.getF TI_CRCFG_MIN_STEP 0 ≤ (t.getF HT_STAT_LIMIT i + 2 ^ 32 - smGet 0 s.funnel.sentLimit i) % 2 ^ 32 ∨
              smGet 0 s.funnel.sentUs i + s.getF TI_CRCFG_REFRESH 0 ≤ s.us)) →
          (due → Out.fabric (s.replyHeader i 0x55 32 ++ leBytes 4 (t.getF HT_STAT_LIMIT i) ++ leBytes 4 (s.getF HT_STAT_RECV i) ++ leBytes 24 0) ∈ more ∧
            smGet 0 t.funnel.sentLimit i = t.getF HT_STAT_LIMIT i ∧ smGet 0 t.funnel.sentUs i = s.us) ∧
          (¬ due → smGet 0 t.funnel.sentLimit i = smGet 0 s.funnel.sentLimit i ∧ smGet 0 t.funnel.sentUs i = smGet 0 s.funnel.sentUs i))) ∧
    (∀ i data v, s.ready = true → i < 256 → v = storeFields false data allBits Reg.HT_ADDR.fields (s.getReg .HT_ADDR i) →
      (s.duplicates i v = true → Idle (.htAddrWrite i data) s) ∧
      (s.pairState = 2 → s.arrBit .PR_OWN i = true → Idle (.htAddrWrite i data) s) ∧
      (s.duplicates i v = false → (s.pairState ≠ 2 ∨ s.arrBit .PR_OWN i = false) →
        Does (.htAddrWrite i data) s [Reg.at_ .HT_ADDR i, HT_CRED_CEPOCH.at_ i, HT_STAT_LIMIT.at_ i, HT_STAT_RECV.at_ i,
            HT_CTL_PENDING.at_ i, Reg.all .TI_SEQVAL, LS_ENT_STATE.at_ i, LS_ENT_MISSES.at_ i, LS_ENT_EXPEL_SENT.at_ i, LS_ENT_LAST.at_ i,
            LS_ENT_JOB_VIEW.at_ i] [.funnel, .mtx, .leases] (fun t =>
          t.getReg .HT_ADDR i = v ∧ t.getF HT_CRED_CEPOCH i = (s.getF HT_CRED_CEPOCH i + 1) % 2 ^ HT_CRED_CEPOCH.width ∧
          t.getF HT_STAT_LIMIT i = 0 ∧ t.getF HT_STAT_RECV i = 0 ∧
          (∀ e < 128, t.flag TI_SEQVAL_VALID (128 * i + e) = false) ∧
          t.getF LS_ENT_STATE i = (if HT_ADDR_VALID.on v then 1 else 0) ∧ (HT_ADDR_VALID.on v = true → t.leases = s.leases) ∧
          (∀ j, smGet false t.leases.renewed j = if HT_ADDR_VALID.on v = false ∧ j = i then false else smGet false s.leases.renewed j))))

/-- TRACE packets, credit and the home table.
Some clauses rest on choices of the model: log entries 19, 36 and 48. -/
def Obligations.TracesAndCredits : Prop := tracePackets ∧ creditAndHome

/-- The trigger sequencers (R222, R223, R225, R228). RUN starts a DISABLED sequencer in START_STATE, its absence stops a RUNNING one; FORCE moves
to its state; MANUAL acts and leaves the state; the lowest comparator that holds moves a RUNNING sequencer to its NEXT.
Some clauses rest on choices of the model: log entry 48. -/
def Obligations.TriggerSequencers : Prop :=
  ∀ (s : State) (u : Nat),
    (∀ data, s.ready = true → TS_CTL_RUN.on data = true →
      Does (.tsRunStart u data) s [Reg.at_ .TS_CTL u, TS_STAT_RUNSTATE.at_ u, TS_STAT_STATE.at_ u, TS_STAT_EPOCH.at_ u] [.seqrs] (fun t =>
        (s.runState u = 0 → t.runState u = 1 ∧ t.getF TS_STAT_STATE u = t.getF TS_CTL_START_STATE u % 2 ^ TS_STAT_STATE.width ∧
          t.getF TS_STAT_EPOCH u = 0 ∧ (t.seqr u).entry = s.fabNow) ∧
        (s.runState u ≠ 0 → t.runState u = s.runState u ∧ t.getF TS_STAT_STATE u = s.getF TS_STAT_STATE u))) ∧
    (∀ data, s.ready = true → TS_CTL_RUN.on data = false →
      Does (.tsRunStop u data) s [Reg.at_ .TS_CTL u, TS_STAT_RUNSTATE.at_ u] [] (fun t =>
        t.runState u = if s.runState u = 1 then 0 else s.runState u)) ∧
    (∀ data, s.ready = true → s.runState u = 2 → Idle (.tsForce u data) s ∧ Idle (.tsManual u data) s) ∧
    (∀ data, s.ready = true → s.runState u ≠ 2 → TS_CMD_FORCE.on data = true → TS_CMD_MANUAL.on data = false →
      Does (.tsForce u data) s [TS_STAT_STATE.at_ u, TS_STAT_EPOCH.at_ u] [.seqrs] (fun t =>
        t.getF TS_STAT_STATE u = TS_CMD_STATE.of data % 2 ^ TS_STAT_STATE.width ∧ (t.seqr u).entry = s.fabNow)) ∧
    (∀ data, s.ready = true → s.runState u ≠ 2 → TS_CMD_MANUAL.on data = true → TS_CMD_FORCE.on data = false →
      Does (.tsManual u data) s (formSpots ++ [HT_CTL_PENDING.all, HT_CTL_SENT_SEQ.all, HV_STAT2_PENDING.at_ 0, HV_STAT2_REFUSED.at_ 0,
          TS_MARK_NEXT.at_ u, TS_STAT_CTL_OVFL.at_ u]) ([.funnel, .out, .taps] ++ formParts) (fun t =>
        t.getF TS_MARK_NEXT u = if (TS_CMD_ACTIONS.of data).testBit 3 then (s.getF TS_MARK_NEXT u + 1) % 2 ^ 16
          else s.getF TS_MARK_NEXT u)) ∧
    (∀ k, s.inReset = false → s.runState u = 1 → k < 4 → s.cmpHolds u k = true → (∀ j < k, s.cmpHolds u j = false) →
      Does (.sequencerEvaluate u) s (formSpots ++ [HT_CTL_PENDING.all, HT_CTL_SENT_SEQ.all, HV_STAT2_PENDING.at_ 0, HV_STAT2_REFUSED.at_ 0,
          TS_MARK_NEXT.at_ u, TS_STAT_CTL_OVFL.at_ u, TS_STAT_STATE.at_ u, TS_STAT_EPOCH.at_ u, TS_STAT_PREV.at_ u, TS_STAT_LAST_K.at_ u,
          TS_STAT_LAST_LATE.at_ u, TS_STAT_TRANSITIONS.at_ u]) ([.funnel, .out, .taps] ++ formParts) (fun t =>
        t.getF TS_STAT_STATE u = s.getF TS_PROG0_NEXT (s.cmpIdx u k) % 2 ^ TS_STAT_STATE.width ∧
        t.getF TS_STAT_PREV u = s.getF TS_STAT_STATE u % 2 ^ TS_STAT_PREV.width ∧
        t.getF TS_STAT_LAST_K u = k % 2 ^ TS_STAT_LAST_K.width ∧
        t.getF TS_STAT_TRANSITIONS u = (s.getF TS_STAT_TRANSITIONS u + 1) % 2 ^ TS_STAT_TRANSITIONS.width ∧
        (t.seqr u).entry = s.fabNow)) ∧
    ((∀ k < 4, s.cmpHolds u k = false) → Idle (.sequencerEvaluate u) s)

/-! ### Sync counters (chapter 07) -/

/-- The host's side of the sync counters (R232, R235, R240, R242, R245): a partition of a tenant that is not FREE, one that overlaps another or
passes the end of the array is refused and counted; an add counts as any other and completes the waits that it satisfies; a check marks the drift of the barrier counters of the
partition; SC_FLAGCLR clears what it names; a watch that is armed copies its counter and target and is judged at once.
Some clauses rest on choices of the model: log entry 49. -/
def Obligations.SyncCounterHost : Prop :=
  ∀ s : State, s.ready = true →
    (∀ u data v base len, u < 64 → v = storeFields false data allBits Reg.SC_PART.fields (s.getReg .SC_PART u) →
      base = SC_PART_BASE.of v → len = SC_PART_LEN.of v →
      (s.tnState u = 0 → base + len ≤ 16384 →
        (∀ w < 64, w ≠ u → len = 0 ∨ s.getF SC_PART_LEN w = 0 ∨ base + len ≤ s.getF SC_PART_BASE w ∨
          s.getF SC_PART_BASE w + s.getF SC_PART_LEN w ≤ base) →
        Does (.scPartWrite u data) s [Reg.at_ .SC_PART u] [] (fun t => t.getReg .SC_PART u = v)) ∧
      (s.tnState u ≠ 0 ∨ 16384 < base + len ∨ (∃ w < 64, w ≠ u ∧ len ≠ 0 ∧ s.getF SC_PART_LEN w ≠ 0 ∧
          s.getF SC_PART_BASE w < base + len ∧ base < s.getF SC_PART_BASE w + s.getF SC_PART_LEN w) →
        Does (.scPartWrite u data) s [SC_ERR_PART_REFUSED.at_ 0] [] (fun t =>
          t.getF SC_ERR_PART_REFUSED 0 = (s.getF SC_ERR_PART_REFUSED 0 + 1) % 2 ^ SC_ERR_PART_REFUSED.width))) ∧
    (∀ data n, n = SC_HOSTADD_COUNTER.of data →
      Does (.scHostadd data) s (CX_STATUS_STATE.all :: addSpots n) [.ctxs, .mtx, .out] (fun t => added s t n (SC_HOSTADD_AMOUNT.of data) ∧
        (0 < SC_HOSTADD_AMOUNT.of data → s.flag SC_COUNT_POISONED n = false → evaluated s t none n) ∧
        (SC_HOSTADD_AMOUNT.of data = 0 ∨ s.flag SC_COUNT_POISONED n = true → t.ctxs = s.ctxs ∧ ∀ d, t.cxState d = s.cxState d))) ∧
    (∀ data u, SC_CMD_CHECK.on data = true → u = SC_CMD_TENANT.of data →
      Does (.scCheck data) s [SC_COUNT_OVER.all, SC_COUNT_SHORT.all] [] (fun t => ∀ n,
        (t.flag SC_COUNT_OVER n = true ↔ s.flag SC_COUNT_OVER n = true ∨ (s.inPart u n = true ∧ s.flag SC_COUNT_POISONED n = false ∧
          s.flag SC_EXP_BARRIER n = true ∧ s.getF SC_EXP_EXP n < s.getF SC_COUNT_VALUE n)) ∧
        (t.flag SC_COUNT_SHORT n = true ↔ s.flag SC_COUNT_SHORT n = true ∨ (s.inPart u n = true ∧ s.flag SC_COUNT_POISONED n = false ∧
          s.flag SC_EXP_BARRIER n = true ∧ s.getF SC_COUNT_VALUE n < s.getF SC_EXP_EXP n)))) ∧
    (∀ data n, n = SC_FLAGCLR_COUNTER.of data →
      Does (.scFlagclr data) s [SC_COUNT_OVER.at_ n, SC_COUNT_SHORT.at_ n, SC_COUNT_MISUSE.at_ n, SC_AUX_LOST.at_ n] [] (fun t =>
        t.flag SC_COUNT_OVER n = (s.flag SC_COUNT_OVER n && !SC_FLAGCLR_OVER.on data) ∧
        t.flag SC_COUNT_SHORT n = (s.flag SC_COUNT_SHORT n && !SC_FLAGCLR_SHORT.on data) ∧
        t.flag SC_COUNT_MISUSE n = (s.flag SC_COUNT_MISUSE n && !SC_FLAGCLR_MISUSE.on data) ∧
        t.getF SC_AUX_LOST n = if SC_FLAGCLR_LOST.on data then 0 else s.getF SC_AUX_LOST n)) ∧
    (∀ w data n, w < 512 → SC_WCFG_ARM.on data = true → SC_WCFG_DISARM.on data = false →
      n = SC_WCFG_COUNTER.of (storeFields false data allBits Reg.SC_WCFG.fields (s.getReg .SC_WCFG w)) →
      Does (.watchArm w data) s (irqSpots ++ [Reg.at_ .SC_WCFG w, Reg.all .SC_WPEND]) [.watches, .out] (fun t =>
        smGet (0, 0) t.watches w = (n, s.getF SC_WTGT_TARGET w) ∧
        t.getF SC_WCFG_STATE w = (if s.flag SC_COUNT_POISONED n then 3
          else if s.getF SC_WTGT_TARGET w ≤ s.getF SC_COUNT_VALUE n then 2 else 1) ∧
        (t.getF SC_WCFG_STATE w ≠ 1 → t.arrBit .SC_WPEND w = true))) ∧
    (∀ w data, w < 512 → SC_WCFG_DISARM.on data = true → SC_WCFG_ARM.on data = false →
      Does (.watchDisarm w data) s [Reg.at_ .SC_WCFG w] [] (fun t =>
        t.getF SC_WCFG_STATE w = if s.getF SC_WCFG_STATE w = 1 then 0 else s.getF SC_WCFG_STATE w))

/-! ### The schedule ledger (chapter 08) -/

/-- A ledger command that the state of the ledger refuses: REASON 1, DONE. -/
def refusedLg (c : Instr) (s : State) (u : Nat) : Prop :=
  Does c s [LG_STATUS_REASON.at_ u, LG_STATUS_DONE.at_ u] [] (fun t => t.getF LG_STATUS_REASON u = 1 ∧ t.flag LG_STATUS_DONE u = true)

/-- What a change of a ledger shows in its registers. -/
def ledgerSpots (u : Nat) : List Spot :=
  [LG_STATUS_STATE.at_ u, LG_STATUS_OPEN.at_ u, LG_STATUS_DONE.at_ u, LG_STATUS_PF_STALL.at_ u, LG_GSTAT_SLOTS_USED.at_ 0]

/-- Ledger commands (R253, R275, R276). LOAD checks in order and makes the ledger READY with its cursor at the start and its prefetch running; RUN
sets the pass base to now, or to LG_START; HOLD holds a RUNNING ledger at once or notes the hold for the next step boundary; RELEASE
lets a HELD one run; STOP stops and frees every slot. A command that the state does not take is refused with REASON 1.
Some clauses rest on choices of the model: log entry 50. -/
def Obligations.LedgerCommands : Prop :=
  ∀ (s : State) (u : Nat), s.ready = true → u < 64 →
    (s.loadFails u ≠ 0 → Does (.lgLoad u) s [LG_STATUS_REASON.at_ u, LG_STATUS_DONE.at_ u] [] (fun t =>
      t.getF LG_STATUS_REASON u = s.loadFails u ∧ t.flag LG_STATUS_DONE u = true)) ∧
    (s.lgState u ∈ [1, 2, 3] → s.loadFails u = 1) ∧
    (s.loadFails u = 0 → Does (.lgLoad u) s (ledgerSpots u ++ [Reg.at_ .LG_CURSOR u, DS_STAT_STATE.at_ (ds u 2), DS_STAT_POS.at_ (ds u 2)])
      [.ledgers, .mtx] (fun t => t.lgState u = 1 ∧ t.flag LG_STATUS_DONE u = true ∧ t.getReg .LG_CURSOR u = 0 ∧ t.dsState u 2 = 1 ∧
        t.ledger u = {} ∧ ∀ w, w ≠ u → t.ledger w = s.ledger w)) ∧
    (∀ c at_, (c = .lgRun u ∧ at_ = s.now16) ∨
        (c = .lgRunTimed u ∧ at_ = targetUnits (s.getReg .LG_START_LO u).toNat (s.getReg .LG_START_HI u).toNat) →
      (s.lgState u ≠ 1 → refusedLg c s u) ∧
      (s.lgState u = 1 → Does c s [LG_STATUS_STATE.at_ u, LG_STATUS_DONE.at_ u, Reg.at_ .LG_PBASE_LO u, Reg.at_ .LG_PBASE_HI u] [.mtx] (fun t =>
        t.lgState u = 2 ∧ t.flag LG_STATUS_DONE u = true ∧ t.getReg .LG_PBASE_LO u = BitVec.ofNat 64 (at_ % (1000000000 * 65536)) ∧
        t.getF LG_PBASE_HI_SECONDS u = at_ / (1000000000 * 65536) % 2 ^ 48 ∧ t.getF LG_PBASE_HI_EPOCH u = s.epoch % 65536))) ∧
    (∀ c ∈ [Instr.lgHold u, .lgHoldAtPass u, .lgHoldStopAtPass u], s.lgState u ≠ 2 → refusedLg c s u) ∧
    (s.lgState u = 2 → Does (.lgHold u) s (ledgerSpots u) [.ledgers, .mtx] (fun t => t.lgState u = 3 ∧ t.ledger u = s.ledger u)) ∧
    (s.lgState u = 2 → Does (.lgHoldAtPass u) s (ledgerSpots u) [.ledgers] (fun t => t.lgState u = 2 ∧
      t.ledger u = { s.ledger u with atPass := true })) ∧
    (s.lgState u = 2 → Does (.lgHoldStopAtPass u) s (ledgerSpots u) [.ledgers] (fun t => t.lgState u = 2 ∧
      t.ledger u = { s.ledger u with stopPass := true })) ∧
    (s.lgState u ≠ 3 → refusedLg (.lgRelease u) s u) ∧
    (s.lgState u = 3 → Does (.lgRelease u) s (ledgerSpots u) [.ledgers, .mtx] (fun t => t.lgState u = 2 ∧
      t.ledger u = { s.ledger u with heldAtPass := false })) ∧
    (s.lgState u ∉ [1, 2, 3, 5] → refusedLg (.lgStop u) s u) ∧
    (s.lgState u ∈ [1, 2, 3, 5] → Does (.lgStop u) s (formSpots ++ ledgerSpots u ++ [DS_STAT_STATE.at_ (ds u 2), DS_STAT_LAST.at_ (ds u 2)])
      (.ledgers :: .mtx :: formParts) (fun t => t.lgState u = 6 ∧ t.flag LG_STATUS_DONE u = true ∧ t.ledger u = {} ∧
        t.dsState u 2 = 0))

/-- A phase with one more flush in its counts (R260): packets and bytes added, the earliest first stamp, the latest last stamp and its port. -/
def counted (p : Phase) (a : PhaseAcc) (q : Phase) : Prop :=
  q.ent = p.ent ∧ q.pass = p.pass ∧ q.ports = p.ports ∧ q.pkts = p.pkts + a.pkts ∧ q.bytes = p.bytes + a.bytes ∧
  q.first = some (match p.first with | some f => if a.first.at_ < f.at_ then a.first else f | none => a.first) ∧
  ((∀ l, p.last = some l → l.at_ < a.last.at_) → q.last = some a.last ∧ q.lastPort = a.port) ∧
  (∀ l, p.last = some l → a.last.at_ ≤ l.at_ → q.last = some l ∧ q.lastPort = p.lastPort)

/-- What a flush makes of the phase that it counts for, which is then `q` (R264, R265): an OPEN phase whose counts reach both expectations is
SETTLING, with LATE when its latest last stamp lies behind the deadline, and closes as a predecessor at that stamp; E of a pass that is not the
last ends the pass there (R253). A phase that does not complete may be EARLY, and OVER is marked behind LOOKAHEAD. -/
def flushed (s t : State) (u : Nat) (p q : Phase) : Prop :=
  ∀ done : Prop, (done ↔ p.ent.expPkts ≤ q.pkts ∧ p.ent.expBytes ≤ q.bytes) →
    (p.st ≠ .open_ → q.st = p.st) ∧
    (p.st = .open_ → ¬ done → q.st = .open_ ∧
      ∀ f, q.first = some f → (f.at_ : Int) < p.start.at_ + p.ent.winLo * 65536 → q.dev.testBit 0 = true) ∧
    (p.st ≠ .lookahead → (p.ent.expPkts < q.pkts ∨ p.ent.expBytes < q.bytes) → q.dev.testBit 3 = true) ∧
    (p.st = .open_ → done → q.st = .settling ∧ q.doneRaw = s.rawNow ∧
      ∀ i, p.doneAt = none → q.last = some i →
        (p.start.at_ + (p.ent.winHi + p.retries * p.ent.retryExt * 1000) * 65536 < i.at_ → q.dev.testBit 1 = true) ∧
        (p.pass = s.getF LG_CURSOR_PASS u → p.ent.cyclic = false ∨ s.lastPass u = true →
          ∃ c, smGet none (t.ledger u).closed p.ent.phase = some c ∧ c.close = i ∧ c.gaveUp = false) ∧
        (p.pass = s.getF LG_CURSOR_PASS u → p.ent.cyclic = true → s.lastPass u = false →
          t.getF LG_CURSOR_PASS u = (s.getF LG_CURSOR_PASS u + 1) % 2 ^ LG_CURSOR_PASS.width ∧
          t.getF LG_CURSOR_NEXT u = s.getF LG_LEN_LOOP_FIRST u % 2 ^ LG_CURSOR_NEXT.width ∧
          t.getReg .LG_PBASE_LO u = BitVec.ofNat 64 (i.at_ % (1000000000 * 65536))))

/-- An add of the ledger of tenant `u` to counter `n` (R234, R270): it counts when the counter lies in the tenant's partition, and is discarded and
counted otherwise. -/
def ledgerAdded (s t : State) (u n a : Nat) : Prop :=
  (s.inPart u n = true → added s t n a) ∧
  (s.inPart u n = false → t.getF SC_COUNT_VALUE n = s.getF SC_COUNT_VALUE n ∧
    t.getF SC_ERR_DISCARD_PART 0 = (s.getF SC_ERR_DISCARD_PART 0 + 1) % 2 ^ SC_ERR_DISCARD_PART.width)

/-- Phases and passes of a ledger's slots. -/
def slotKeys (s : State) (u : Nat) : List (Nat × Nat) := (s.ledger u).slots.map (fun p => (p.ent.phase, p.pass))

/-- Deliveries and prefetch (R254, R257 to R260, R264, R265, R270, R274). A tagged delivery counts in the accumulator of its tag, in a free one, or
as UNTRACKED; the longest-held accumulator enters the flush queue; the checker counts a phase flush for the phase and pass that it names,
which may complete by it, with the adds that SC_MODE asks for, or in the counter of the first row of R260 that matches, where a tag of a PHASE that
the ledger does not have is UNTRACKED; an entry is read and checked, and a failing one makes the ledger FAULTED.
Some clauses rest on choices of the model: log entries 50, 51 and 99. -/
def Obligations.LedgerDeliveries : Prop :=
  ∀ (s : State), s.inReset = false →
    (∀ port tag bytes raw frac st w i, port < 512 → st = s.egressStamp port raw frac → w = (s.tile (port / 16)).wordAt st.1 →
      i = (⟨antennaFab w st.1 st.2 / 2 ^ 24, wordEpoch w⟩ : Inst) →
      (∀ a, a ∈ (s.tapTile (port / 16)).accs → a.port = port → a.tag = tag →
        Does (.packetDelivered port tag bytes raw frac) s [] [.taps] (fun t =>
          { a with pkts := a.pkts + 1, bytes := a.bytes + bytes, last := i } ∈ (t.tapTile (port / 16)).accs)) ∧
      ((∀ a ∈ (s.tapTile (port / 16)).accs, a.port ≠ port ∨ a.tag ≠ tag) →
        ((s.tapTile (port / 16)).accs.filter (fun a => a.port == port)).length < 16 →
        Does (.packetDelivered port tag bytes raw frac) s [] [.taps] (fun t => (t.tapTile (port / 16)).accs =
          (s.tapTile (port / 16)).accs ++ [{ port := port, tag := tag, pkts := 1, bytes := bytes, first := i, last := i }])) ∧
      (∀ u, (∀ a ∈ (s.tapTile (port / 16)).accs, a.port ≠ port ∨ a.tag ≠ tag) →
        16 ≤ ((s.tapTile (port / 16)).accs.filter (fun a => a.port == port)).length → s.jobOwner tag.job = some u →
        Does (.packetDelivered port tag bytes raw frac) s [LG_TSTAT_UNTRACKED.at_ u] [] (fun t =>
          t.getF LG_TSTAT_UNTRACKED u = (s.getF LG_TSTAT_UNTRACKED u + 1) % 65536))) ∧
    (∀ k a rest, k < 32 → (s.tapTile k).latched = [] → (s.tapTile k).queue.length < 128 → (s.tapTile k).wait = [] →
      (s.tapTile k).accs = a :: rest →
      Does (.phaseAccumFlush k) s [] [.taps] (fun t => (t.tapTile k).accs = rest ∧
        (t.tapTile k).queue = (s.tapTile k).queue ++ [.phase a])) ∧
    (∀ k a rest, k < 32 → (s.tapTile k).building = none → (s.tapTile k).queue = .phase a :: rest →
      (s.jobOwner a.tag.job = none → Does (.phaseFlushApply k) s [LG_GSTAT_NOJOB.at_ 0] [.taps] (fun t =>
        movedUp (s.tapTile k) (t.tapTile k) rest ∧ t.getF LG_GSTAT_NOJOB 0 = (s.getF LG_GSTAT_NOJOB 0 + a.pkts) % 2 ^ 32)) ∧
      (∀ u, s.jobOwner a.tag.job = some u →
        ((∀ p ∈ (s.ledger u).slots, p.ent.phase ≠ a.tag.phase ∨ p.pass % 16 ≠ a.tag.pass % 16) →
          Does (.phaseFlushApply k) s [LG_TSTAT_STALE.at_ u, LG_TSTAT_UNTRACKED.at_ u] [.taps] (fun t =>
            movedUp (s.tapTile k) (t.tapTile k) rest ∧
            t.getF LG_TSTAT_STALE u = (s.getF LG_TSTAT_STALE u + if s.belowLookahead u a.tag then 1 else 0) % 65536 ∧
            t.getF LG_TSTAT_UNTRACKED u = (s.getF LG_TSTAT_UNTRACKED u + if s.belowLookahead u a.tag then 0 else 1) % 65536 ∧
            (s.getF LG_LEN_LEN u ≤ a.tag.phase → s.belowLookahead u a.tag = false))) ∧
        (∀ p, (s.ledger u).slots.find? (fun p => p.ent.phase == a.tag.phase && p.pass % 16 == a.tag.pass % 16) = some p →
          (a.port ∉ p.ports → Does (.phaseFlushApply k) s [LG_TSTAT_STRAY.at_ u] [.taps] (fun t =>
            movedUp (s.tapTile k) (t.tapTile k) rest ∧ t.getF LG_TSTAT_STRAY u = (s.getF LG_TSTAT_STRAY u + 1) % 65536)) ∧
          (a.port ∈ p.ports → p.st = .lookahead → p.ent.scMode ≠ 3 →
            Does (.phaseFlushApply k) s (ledgerSpots u) [.taps, .ledgers] (fun t => movedUp (s.tapTile k) (t.tapTile k) rest ∧
              t.ledger u = (s.ledger u).put (p.count a) ∧ (p.count a).pkts = p.pkts + a.pkts ∧ (p.count a).bytes = p.bytes + a.bytes)) ∧
          (a.port ∈ p.ports → Does (.phaseFlushApply k) s (formSpots ++ irqSpots ++ ledgerSpots u ++ [Reg.at_ .LG_CURSOR u,
              Reg.at_ .LG_PBASE_LO u, Reg.at_ .LG_PBASE_HI u, LG_TSTAT_DRIFT_SUPP.at_ u, Reg.all .SC_COUNT, Reg.all .SC_EXP, Reg.all .SC_AUX,
              SC_ERR_DISCARD_PART.at_ 0, SC_ERR_DISCARD_POISON.at_ 0, SC_TSTAT_REALIGN_COUNT.at_ u, SC_WCFG_STATE.all, Reg.all .SC_WPEND,
              CX_STATUS_STATE.all])
            ([.taps, .ledgers, .mtx, .out, .pair, .ctxs] ++ formParts) (fun t => movedUp (s.tapTile k) (t.tapTile k) rest ∧
              ((slotKeys s u).Nodup → ∃ q ∈ (t.ledger u).slots, counted p a q ∧ flushed s t u p q ∧
                ∀ q' ∈ (t.ledger u).slots, q'.ent.phase = p.ent.phase → q'.pass = p.pass → q' = q) ∧
              (p.ent.scMode = 3 → ledgerAdded s t u p.ent.sc a.pkts) ∧
              (p.ent.scMode = 2 → p.st = .open_ → p.ent.expPkts ≤ p.pkts + a.pkts → p.ent.expBytes ≤ p.bytes + a.bytes →
                ledgerAdded s t u p.ent.sc p.ent.scInc)))))) ∧
    (∀ u bs, s.prefetchDue u = true → s.streamRead u (s.getF LG_ADDR_ADDR u + 64 * (s.ledger u).pf) false 1 = .ok bs →
      (entryFails bs (s.ledger u).pf (s.getF LG_LEN_LOOP_FIRST u) (s.ledger u).cyc = 0 →
        Does (.ledgerEntryPrefetch u) s (ledgerSpots u ++ [DS_STAT_POS.at_ (ds u 2)]) [.ledgers] (fun t =>
          (t.ledger u).ents = (s.ledger u).ents ++ [entryOf bs] ∧ (t.ledger u).pf = (s.ledger u).pf + 1 ∧
          (t.ledger u).slots = (s.ledger u).slots ∧ t.getF DS_STAT_POS (ds u 2) = 64 * ((s.ledger u).pf + 1) % 2 ^ DS_STAT_POS.width)) ∧
      (entryFails bs (s.ledger u).pf (s.getF LG_LEN_LOOP_FIRST u) (s.ledger u).cyc ≠ 0 →
        Does (.ledgerEntryPrefetch u) s (formSpots ++ ledgerSpots u ++ [LG_STATUS_REASON.at_ u, Reg.at_ .LG_FAULT u, DS_STAT_STATE.at_ (ds u 2),
            DS_STAT_LAST.at_ (ds u 2)]) (.mtx :: formParts) (fun t => t.lgState u = 5 ∧ t.getF LG_STATUS_REASON u = 7 ∧
          t.getF LG_FAULT_CAUSE u = entryFails bs (s.ledger u).pf (s.getF LG_LEN_LOOP_FIRST u) (s.ledger u).cyc ∧
          t.getF LG_FAULT_INDEX u = (s.ledger u).pf % 2 ^ 21 ∧ t.dsState u 2 = 0))) ∧
    (∀ u cause va, s.prefetchDue u = true →
      s.streamRead u (s.getF LG_ADDR_ADDR u + 64 * (s.ledger u).pf) false 1 = .error (cause, va) →
      Does (.ledgerEntryPrefetch u) s (formSpots ++ irqSpots ++ [LG_STATUS_PF_STALL.at_ u, DS_STAT_STATE.at_ (ds u 2),
          DS_STAT_POS.at_ (ds u 2), DS_FAULT_CAUSE.at_ (ds u 2), DS_FAULT_ADDR.at_ (ds u 2)]) (.out :: formParts) (fun t =>
        t.flag LG_STATUS_PF_STALL u = true ∧ t.dsState u 2 = 2))

/-- What opening, completing and closing phases may change beside the ledger: records, a window boundary, sync counters, the stream. -/
def phaseSpots (u : Nat) : List Spot :=
  formSpots ++ irqSpots ++ ledgerSpots u ++ [Reg.at_ .LG_CURSOR u, Reg.at_ .LG_PBASE_LO u, Reg.at_ .LG_PBASE_HI u,
    LG_TSTAT_DRIFT_SUPP.at_ u, Reg.all .SC_COUNT, Reg.all .SC_EXP, Reg.all .SC_AUX, SC_ERR_DISCARD_PART.at_ 0, SC_ERR_DISCARD_POISON.at_ 0,
    SC_TSTAT_REALIGN_COUNT.at_ u, SC_WCFG_STATE.all, Reg.all .SC_WPEND, DS_STAT_STATE.at_ (ds u 2), DS_STAT_LAST.at_ (ds u 2)]

/-- What the end of a window of tenant `u` may change (R318, R319, R322). -/
def windowSpots (u : Nat) : List Spot :=
  formSpots ++ irqSpots ++ [CX_STATUS_DEP.all, IRQ_TCAUSE_WINDOW.at_ u, IRQ_TCAUSE_MAILBOX.at_ u, Reg.at_ .WN_GEN u, Reg.at_ .WN_LAST u,
    Reg.at_ .WN_LASTCNT u, WN_STAT_STATE.at_ u, WN_STAT_VOIDS.at_ u, WN_STAT_REFUSED.at_ u, Reg.at_ .MB_HDR (4 * u),
    Reg.at_ .MB_HDR (4 * u + 1), Reg.at_ .MB_HDR (4 * u + 2), Reg.at_ .MB_HDR (4 * u + 3)]

/-- The parts that the end of a window may change. -/
def windowParts : List Part := [.ctxs, .mbox, .mtx, .out] ++ formParts

/-- Phase `j` counts as closed at `i` for the current pass (R261): it has closed then, or the pass does not run it and its base is `i`. -/
def closedAt (s : State) (u j : Nat) (i : Inst) : Prop :=
  (∃ c, smGet none (s.ledger u).closed j = some c ∧ i = c.close) ∨
    (smGet none (s.ledger u).closed j = none ∧ s.notRun u j = true ∧ i = s.passBase u)

/-- The condition instant of an entry in 2^-16 ns (R261): the pass base, or the latest close of its predecessors, all closed; plus OFFSET. -/
def conditionAt (s : State) (u : Nat) (e : LgEnt) (at_ : Nat) : Prop :=
  ∃ b, at_ = b + e.offset * 65536 ∧ (e.timed = true → b = (s.passBase u).at_) ∧
    (e.timed = false → (∀ k < e.span, ∃ i, closedAt s u (e.pred + k) i ∧ i.at_ ≤ b) ∧
      (b = 0 ∨ ∃ k < e.span, ∃ i, closedAt s u (e.pred + k) i ∧ i.at_ = b))

/-- The lowest unopened phase of the pass, with entry `e`, may open at `start` (R262): it holds a slot in LOOKAHEAD or is prefetched, its
predecessors have closed, and fabric time has reached its start, the later of its condition instant and the start before it. -/
def mayOpen (s : State) (u : Nat) (e : LgEnt) (start : Nat) : Prop :=
  s.lgState u = 2 ∧ s.running = true ∧ (s.ledger u).allOpen = false ∧ e.phase = s.getF LG_CURSOR_NEXT u ∧
  (e ∈ (s.ledger u).ents ∨ ∃ p ∈ (s.ledger u).slots, p.ent = e ∧ p.pass = s.getF LG_CURSOR_PASS u ∧ p.st = .lookahead) ∧
  ∃ c, conditionAt s u e c ∧ start = max c (match (s.ledger u).prevStart with | some q => q.at_ | none => 0) ∧ start ≤ s.now16

/-- Phases (R261 to R269, R275). An evaluation opens the lowest unopened phase of a RUNNING ledger when it is in LOOKAHEAD, its predecessors have
closed and fabric time has reached its start, with EXP of SC advanced, and opens nothing when that does not hold; it never takes more
slots than SLOTS, and opens nothing while HELD. An OPEN phase is reported SHORT once, gives up, and a SETTLING one leaves its slot, each
at its time and in its pass, whatever another pass has left open and whatever state the ledger is in; the ledger is DONE when the phases of the last pass have left their slots; a link failure retries the OPEN phases of the port and touches no other.
Some clauses rest on choices of the model: log entries 50 and 99. -/
def Obligations.LedgerPhases : Prop :=
  ∀ (s : State), s.inReset = false →
    (∀ u, u < 64 → s.lgState u = 2 ∨ s.lgState u = 3 →
      Does (.ledgerEvaluate u) s (CX_STATUS_STATE.all :: (phaseSpots u ++ windowSpots u)) ([.ledgers, .pair] ++ windowParts) (fun t =>
        ((s.ledger u).slots.length ≤ s.getF LG_CFG_SLOTS u → (t.ledger u).slots.length ≤ s.getF LG_CFG_SLOTS u) ∧
        (s.lgState u = 3 → t.lgState u = 3 ∧ t.getReg .LG_CURSOR u = s.getReg .LG_CURSOR u) ∧
        ((∀ e start, ¬ mayOpen s u e start) → t.getReg .LG_CURSOR u = s.getReg .LG_CURSOR u ∧
          (∀ q ∈ (t.ledger u).slots, q.st ≠ .lookahead → q ∈ (s.ledger u).slots) ∧ ∀ n, t.getReg .SC_EXP n = s.getReg .SC_EXP n) ∧
        (∀ p start, p ∈ (s.ledger u).slots → p.pass = s.getF LG_CURSOR_PASS u → p.st = .lookahead → mayOpen s u p.ent start →
          (slotKeys s u ++ (s.ledger u).ents.map (fun e => (e.phase, s.getF LG_CURSOR_PASS u))).Nodup →
          (∀ e ∈ (s.ledger u).ents, (s.ledger u).from_ ≤ e.phase) → ∀ done : Prop,
          (done ↔ p.ent.expPkts ≤ p.pkts ∧ p.ent.expBytes ≤ p.bytes) →
          (∃ q ∈ (t.ledger u).slots, q.ent = p.ent ∧ q.pass = p.pass ∧ q.ports = p.ports ∧ q.pkts = p.pkts ∧ q.bytes = p.bytes ∧
            (done → q.st = .settling) ∧ (¬ done → q.st = .open_) ∧ q.start.at_ = start ∧ q.opened = s.nowInst ∧
            q.lateOpen = decide (start + microsecond16 < s.now16)) ∧
          ((∀ k ∈ slotKeys s u, k ≠ (p.ent.phase + 1, p.pass)) → (∀ e ∈ (s.ledger u).ents, e.phase ≠ p.ent.phase + 1) →
            p.ent.phase + 1 < 2 ^ LG_CURSOR_NEXT.width →
            (¬ done → t.getF LG_CURSOR_NEXT u = s.getF LG_CURSOR_NEXT u + 1) ∧
            (∀ n, n = p.ent.sc → p.ent.scMode ≠ 0 → s.inPart u n = true → p.ent.barrier = false →
              t.getF SC_EXP_EXP n = (s.getF SC_EXP_EXP n + p.ent.scInc) % 2 ^ SC_EXP_EXP.width))))) ∧
    (∀ u phase p, p ∈ (s.ledger u).slots → p.ent.phase = phase → p.st = .open_ → p.shortDone = false → p.deadline + microsecond16 ≤ s.now16 →
      ∃ q ∈ (s.ledger u).slots, q.ent.phase = phase ∧ s.slotDue u phase s.shortDue = some q) ∧
    (∀ u phase p, s.slotDue u phase s.shortDue = some p →
      Does (.phaseShortTimeout u phase) s (formSpots ++ ledgerSpots u) (.ledgers :: formParts) (fun t =>
        { p with shortDone := true, dev := p.dev ||| 4 } ∈ (t.ledger u).slots)) ∧
    (∀ u phase p n, p ∈ (s.ledger u).slots → p.ent.phase = phase → p.st = .open_ → n = s.getF LG_TIMING_GIVEUP_US u → n ≠ 0 →
      p.deadline + n * microsecond16 ≤ s.now16 → ∃ q ∈ (s.ledger u).slots, q.ent.phase = phase ∧ s.slotDue u phase (s.giveUpDue u) = some q) ∧
    (∀ u phase p, s.slotDue u phase (s.giveUpDue u) = some p →
      Does (.phaseGiveup u phase) s (phaseSpots u) ([.ledgers, .mtx, .out, .pair] ++ formParts) (fun t =>
        ∀ q ∈ (t.ledger u).slots, q.ent.phase ≠ p.ent.phase ∨ q.pass ≠ p.pass)) ∧
    (∀ u phase p, s.slotDue u phase (s.settleDue u) = some p →
      Does (.phaseSettleExpire u phase) s (ledgerSpots u ++ [DS_STAT_STATE.at_ (ds u 2), DS_STAT_LAST.at_ (ds u 2)]) [.ledgers, .mtx]
        (fun t => t.ledger u = (s.ledger u).drop p ∧
          (t.lgState u = 4 ∧ s.lgState u ≠ 4 ↔ s.lgState u = 2 ∧ s.lastPass u = true ∧ (s.ledger u).allOpen = true ∧
            ∀ q ∈ (t.ledger u).slots, q.pass ≠ s.getF LG_CURSOR_PASS u) ∧ (t.lgState u ≠ 4 → t.lgState u = s.lgState u))) ∧
    (∀ port, (∀ u < 64, s.struck u port = []) → Idle (.linkFailure port) s) ∧
    (∀ port, Does (.linkFailure port) s ((List.range 64).flatMap (fun u => windowSpots u ++ ledgerSpots u)) (.ledgers :: windowParts) (fun t =>
      ∀ u < 64, ((s.ledger u).slots.map (fun p => (p.ent.phase, p.pass))).Nodup →
        (t.ledger u).slots.length = (s.ledger u).slots.length ∧
        (∀ p ∈ (s.ledger u).slots, p ∉ s.struck u port → p ∈ (t.ledger u).slots) ∧
        (∀ p ∈ s.struck u port, { p with
          retries := if p.retries < p.ent.retryMax then p.retries + 1 else p.retries, dev := p.dev ||| 16,
          shortDone := p.shortDone && !(decide (p.retries < p.ent.retryMax) && decide (0 < p.ent.retryExt)) } ∈ (t.ledger u).slots)))

/-! ### Queues, cells and streams (chapter 09) -/

/-- The record that RECORD_APPEND offers, before it has its SEQ and generation. -/
def offered (r : RecIn) : Rec :=
  { typ := r.typ, slots := slotsOf r.payload.length, cls := r.cls, tenant := r.tenant, source := r.source, seq := r.seq.getD 0,
    stamp := r.stamp, payload := r.payload, epoch := r.epoch }

/-- The source has no open loss tally, and no closed one waits to be offered. -/
def quietSource (s : State) (source : Nat) : Prop :=
  smGet none s.win.tallies source = none ∧ ∀ y ∈ s.win.closed, y.tried = true

/-- The number that shedding judges a record by (R342): an engine's SEQ, or the count of records that its source has offered. -/
def shedNumber (s : State) (r : Rec) : Nat := if r.source < 0x8000 then r.seq else smGet 0 s.qm.offered r.source

/-- A record lost before it was formed opens the tally of its source with the cause and the count 1. -/
def opensTally (s t : State) (r : Rec) (cause : Nat) : Prop :=
  ∃ y, smGet none t.win.tallies r.source = some y ∧ y.cause = cause ∧ y.count = 1 ∧ y.slots = r.slots ∧ y.tenant = r.tenant ∧
    y.formed = false ∧ y.gen = s.openGen r.tenant ∧ y.cls = r.cls ∧ y.firstAt = s.shortNow

/-- The type, class and slot count of a record that the block forms (R37): the classes and slot counts of its table, and the tenants' types from
0x80 on in any class but 0. -/
def formable (typ cls slots : Nat) : Prop :=
  (typ ∈ [0x01] ∧ cls = 2 ∧ 1 ≤ slots ∧ slots ≤ 4) ∨ (typ ∈ [0x02, 0x03] ∧ cls = 2 ∧ slots = 1) ∨
  (typ ∈ [0x04, 0x05, 0x11, 0x31] ∧ cls = 2 ∧ 1 ≤ slots ∧ slots ≤ 2) ∨ (typ ∈ [0x10, 0x12] ∧ cls = 2 ∧ slots = 2) ∨
  (typ ∈ [0x20, 0x21, 0x30] ∧ cls = 1 ∧ slots = 2) ∨ (typ ∈ [0x40, 0x52] ∧ cls = 1 ∧ 1 ≤ slots ∧ slots ≤ 2) ∨
  (typ ∈ [0x41, 0x51] ∧ cls = 1 ∧ slots = 1) ∨ (typ = 0x50 ∧ cls = 1 ∧ 2 ≤ slots ∧ slots ≤ 8) ∨
  (typ = 0x60 ∧ cls = 0 ∧ 1 ≤ slots ∧ slots ≤ 2) ∨ (typ = 0x71 ∧ cls = 3 ∧ slots = 8) ∨
  ((typ = 0x70 ∨ 0x80 ≤ typ) ∧ typ < 256 ∧ 1 ≤ cls ∧ cls ≤ 3 ∧ 1 ≤ slots ∧ slots ≤ 8)

/-- A record offered to the queue manager (R35, R282, R286 to R292, R317, R327, R342). What the door sheds is counted in SHED and tallied with
cause 11; a record with no queue, or that its queue refuses, is counted in REFUSED and tallied with the cause; an accepted one is the newest of
its queue, with the next SEQ and the open generation of its tenant, and COUNT rises by one; it takes a new cell only when it does not fit the
last one. A record of no type, class and size that R37 lists is never formed.
Some clauses rest on choices of the model: log entry 53. -/
def Obligations.RecordAppend : Prop :=
  ∀ (s : State) (i : RecIn) (r : Rec), s.inReset = false → r = offered i → ∀ kept : Bool,
    kept = keeps (s.flag EX_SHSTAT_SHED3 r.tenant) (s.getF EX_SHSTAT_D r.tenant) r.cls (shedNumber s r) r.source →
    (¬ formable r.typ r.cls r.slots → Idle (.recordAppend i) s) ∧ (formable r.typ r.cls r.slots →
    Does (.recordAppend i) s formSpots formParts (fun _ => True) ∧
    (kept = false → quietSource s r.source → r.typ ≠ 0x52 →
      Does (.recordAppend i) s (EX_SHSTAT_SHED.at_ r.tenant :: counterSpots) [.qm, .win] (fun t =>
        t.getF EX_SHSTAT_SHED r.tenant = (s.getF EX_SHSTAT_SHED r.tenant + 1) % 2 ^ EX_SHSTAT_SHED.width ∧ opensTally s t r 11 ∧
        ∀ q, t.queue q = s.queue q)) ∧
    (∀ cause, kept = true → quietSource s r.source → r.typ ≠ 0x52 → cause ≠ 0 →
      (s.route r.source r.tenant r.cls = none ∧ cause = 3) ∨ (∃ q, s.route r.source r.tenant r.cls = some q ∧ s.refuse q r = cause ∧
          (cause = 3 ∨ (s.queue q).desc = 0)) →
      Does (.recordAppend i) s [QT_USE_REFUSED.at_ r.tenant, QM_ERR_POOL.at_ 0] [.qm, .win] (fun t =>
        t.getF QT_USE_REFUSED r.tenant = (s.getF QT_USE_REFUSED r.tenant + 1) % 2 ^ 32 ∧ opensTally s t r cause ∧
        (cause ≠ 2 → t.getF QM_ERR_POOL 0 = s.getF QM_ERR_POOL 0) ∧ ∀ q, t.queue q = s.queue q)) ∧
    (∀ q, kept = true → quietSource s r.source → s.route r.source r.tenant r.cls = some q → s.refuse q r = 0 → (s.queue q).desc = 0 →
      ((s.queue q).fits (s.isRemote q) r.slots = true ∨ s.flag QM_QCFG_FR q = false ∨
        (s.queue q).cells.length < s.getF QM_QCFG_CAP q) →
      Does (.recordAppend i) s ([QM_QSTAT_COUNT.at_ q, QM_QSTAT_MARK_SET.at_ q, QM_QSTAT_RESIDENT.at_ q, QM_POOL_FREE.at_ 0,
          QT_USE_RESIDENT.at_ (s.getF QM_QCFG_TENANT q), QT_USE_FULL.at_ (s.getF QM_QCFG_TENANT q)] ++ counterSpots) formParts (fun t =>
        (∃ cell, t.newestOf q = .item { r with
            seq := if r.source < 0x8000 then r.seq else smGet 0 s.qm.seqs (r.source * 64 + r.tenant)
            gen := if noWindow r.typ then 0 else s.openGen r.tenant } cell ∧
          ((s.queue q).fits (s.isRemote q) r.slots = true → t.getF QM_POOL_FREE 0 = s.getF QM_POOL_FREE 0) ∧
          ((s.queue q).fits (s.isRemote q) r.slots = false → s.pickCell 64 s.qm.bankPtr = some cell →
            t.getF QM_POOL_FREE 0 = s.getF QM_POOL_FREE 0 - 1 ∧
            t.getF QM_QSTAT_RESIDENT q = (s.getF QM_QSTAT_RESIDENT q + 1) % 2 ^ QM_QSTAT_RESIDENT.width)) ∧
        t.getF QM_QSTAT_COUNT q = s.getF QM_QSTAT_COUNT q + 1 ∧
        (0x8000 ≤ r.source → smGet 0 t.qm.seqs (r.source * 64 + r.tenant) =
          (smGet 0 s.qm.seqs (r.source * 64 + r.tenant) + 1) % 2 ^ 28) ∧
        ∀ p, p ≠ q → t.queue p = s.queue p)))

/-- The ALARM of a reset of queue `q` enters no queue, or another one that is sound and no flight recorder, and ends no loss tally. -/
def alarmElsewhere (s : State) (q : Nat) : Prop :=
  quietSource s 0x8305 ∧ ∀ p, s.route 0x8305 (s.getF QM_QCFG_TENANT q) 0 = some p →
    p ≠ q ∧ (s.queue p).desc = 0 ∧ s.flag QM_QCFG_FR p = false

/-- Queue configuration and commands (R281, R285, R292, R293). A QM_QCFG write that would move a queue that holds records, or that asks for a
flight recorder of no cells, is discarded, and one that moves an empty queue to another tenant or REWIND clears its mark (the model's choice, log entry 99); RESET hands the old incarnation's cells to the scrubber, empties the queue and starts its
next incarnation; FREEZE and THAW set and clear FROZEN; a bank map-out takes the bank's free cells from the pool and resets every
queue that has a cell in it; MYB_CAPS falls unless the bank is one that it has not counted since before a block reset (log entry 65). -/
def queueCommands : Prop :=
  ∀ (s : State) (d : Word), s.ready = true →
    (∀ q new, q = s.getF QM_QSEL_QUEUE 0 → new = storeFields false d allBits Reg.QM_QCFG.fields (s.getReg .QM_QCFG q) →
      ∀ discarded : Prop, (discarded ↔ (s.getF QM_QSTAT_COUNT q ≠ 0 ∧ (QM_QCFG_TENANT.of new ≠ s.getF QM_QCFG_TENANT q ∨
          QM_QCFG_FR.of new ≠ s.getF QM_QCFG_FR q ∨ QM_QCFG_REWIND.of new ≠ s.getF QM_QCFG_REWIND q)) ∨
        (QM_QCFG_FR.of new = 1 ∧ QM_QCFG_CAP.of new = 0)) →
      (discarded → Idle (.qcfgWrite d) s) ∧
      (¬ discarded → ∀ moved : Prop, (moved ↔ QM_QCFG_TENANT.of new ≠ s.getF QM_QCFG_TENANT q ∨
          QM_QCFG_REWIND.of new ≠ s.getF QM_QCFG_REWIND q) →
        (¬ moved → Does (.qcfgWrite d) s [Reg.at_ .QM_QCFG q] [] (fun t => t.getReg .QM_QCFG q = new)) ∧
        (moved → Does (.qcfgWrite d) s [Reg.at_ .QM_QCFG q, QM_QSTAT_MARK_SET.at_ q] [.qm] (fun t => t.getReg .QM_QCFG q = new ∧
          t.queue q = { s.queue q with mark := .none } ∧ t.flag QM_QSTAT_MARK_SET q = false ∧ ∀ p, p ≠ q → t.queue p = s.queue p)))) ∧
    (∀ q, q = QM_CMD_QUEUE.of d →
      (QM_CMD_CMD.of d = 1 → Does (.queueReset d) s formSpots formParts (fun t => alarmElsewhere s q →
        t.getF QM_QSTAT_COUNT q = 0 ∧ t.flag QM_QSTAT_FROZEN q = false ∧ (t.queue q).cells = [] ∧
        t.getF QM_QSTAT_INCARN q = (s.getF QM_QSTAT_INCARN q + 1) % 16 ∧ t.flag QM_QSTAT_QERR q = s.flag QM_QSTAT_QERR q ∧
        { queue := q, incarn := s.getF QM_QSTAT_INCARN q, tenant := s.getF QM_QCFG_TENANT q,
          cells := (s.queue q).cells.map (·.idx) : Orphan } ∈ t.qm.waiting)) ∧
      (QM_CMD_CMD.of d = 2 → s.flag QM_QCFG_FR q = true → Does (.freeze d) s [QM_QSTAT_FROZEN.at_ q] [] (fun t =>
        t.flag QM_QSTAT_FROZEN q = true)) ∧
      (QM_CMD_CMD.of d = 2 → s.flag QM_QCFG_FR q = false → Idle (.freeze d) s) ∧
      (QM_CMD_CMD.of d = 3 → Does (.thaw d) s [QM_QSTAT_FROZEN.at_ q] [] (fun t => t.flag QM_QSTAT_FROZEN q = false))) ∧
    (Does (.qmBankMapout d) s (formSpots ++ [QM_POOL_USABLE.at_ 0, MYB_CAPS_POOL_BANKS_OK.at_ 0, QM_BANK_OUT.at_ 0]) (.board :: formParts) (fun t =>
      ∀ b < 64, t.bankOut b = (s.bankOut b || d.getLsbD b))) ∧
    (∀ b < 64, d = BitVec.twoPow 64 b → s.bankOut b = false → Does (.qmBankMapout d) s
      (formSpots ++ [QM_POOL_USABLE.at_ 0, MYB_CAPS_POOL_BANKS_OK.at_ 0, QM_BANK_OUT.at_ 0]) (.board :: formParts) (fun t =>
        t.getF QM_POOL_USABLE 0 = s.getF QM_POOL_USABLE 0 - 4096 ∧
        t.getF MYB_CAPS_POOL_BANKS_OK 0 = s.getF MYB_CAPS_POOL_BANKS_OK 0 - (if (.bank, b) ∈ s.board.fallen then 0 else 1) ∧
        ∀ q, (q, s.queue q) ∈ s.qm.queues → (∃ c ∈ (s.queue q).cells, c.idx / 4096 = b) → t.flag QM_QSTAT_QERR q = true))

/-- What a spill or drain may change beside the stream of the tenant and its ring registers. -/
def ringSpots (t k : Nat) : List Spot :=
  formSpots ++ irqSpots ++ [DS_STAT_STATE.at_ (ds t k), DS_STAT_LAST.at_ (ds t k), DS_STAT_POS.at_ (ds t k), DS_FAULT_ADDR.at_ (ds t k),
    DS_FAULT_CAUSE.at_ (ds t k), SP_LEVEL_CROSSED.at_ t, SP_LEVEL_LEVEL.at_ t, SP_LEVEL_RING_FULL.at_ t, SP_PEAK_PEAK.at_ t]

/-- Scrubbing, spill and drain (R294, R299 to R303, R310). A walk serves the incarnations handed before it, up to 16, and has freed their cells by its
end; spill takes the oldest closed back cell, never the queue's tail cell, and appends it to the ring; drain takes the oldest ring entry and joins it to the front of
its queue, unless it cannot be read or fails its CHECK (cause 7), which stalls the stream. Each completes with POS at 320 bytes. A queue whose
pointers fail is reset when spill comes to it. -/
def scrubSpillAndDrain : Prop :=
  ∀ (s : State), s.inReset = false →
    (s.qm.walking = false → s.qm.waiting ≠ [] → Does .scrubWalkStart s [] [.qm] (fun t => t.qm.walking = true ∧ t.qm.walkAt = s.rawNow ∧
      t.qm.serving = s.qm.waiting.take 16 ∧ t.qm.waiting = s.qm.waiting.drop 16)) ∧
    (s.qm.walking = true → Does .scrubWalkEnd s [QM_POOL_FREE.at_ 0, QT_USE_FULL.all, QT_USE_RESIDENT.all] [.qm] (fun t =>
      t.qm.walking = false ∧ t.qm.serving = [] ∧ t.qm.waiting = s.qm.waiting ∧
      ∀ o ∈ s.qm.serving, ∀ x ∈ o.cells, smGet false t.qm.used x = false)) ∧
    (∀ u q, s.spillDue u = true → s.spillQueue u = some q → (s.queue q).desc ≠ 0 → alarmElsewhere s q →
      Does (.spillStart u) s (formSpots ++ [QM_ERR_MEMERR.at_ 0, DS_STAT_STATE.at_ (ds u 0), DS_STAT_POS.at_ (ds u 0)]) formParts (fun t =>
        t.dsState u 0 = 0 ∧ (t.queue q).cells = [] ∧ t.getF QM_QSTAT_COUNT q = 0 ∧
        t.getF QM_QSTAT_INCARN q = (s.getF QM_QSTAT_INCARN q + 1) % 16 ∧ t.flag QM_QSTAT_QERR q = true)) ∧
    (∀ u q, s.spillDue u = true → s.spillQueue u = some q → (s.queue q).desc = 0 →
      Does (.spillStart u) s (formSpots ++ [QM_ERR_MEMERR.at_ 0, DS_STAT_STATE.at_ (ds u 0), DS_STAT_POS.at_ (ds u 0)]) formParts (fun t =>
        t.dsState u 0 = 1 ∧ (t.ring u).lastQ = q ∧ ∀ c, s.spillCell q = some c → (∀ d ∈ (s.queue q).cells, d.idx = c.idx → ∀ r ∈ d.recs, r.err = 0) →
          (t.ring u).spill = some { queue := q, incarn := s.getF QM_QSTAT_INCARN q, cell := c } ∧
          t.getF QM_QSTAT_COUNT q = s.getF QM_QSTAT_COUNT q)) ∧
    (∀ q c, s.spillCell q = some c → c.closed = true ∧ ∃ d more, (s.segments q).2 = c :: d :: more) ∧
    (∀ u e, s.dsState u 0 = 1 → (s.ring u).spill = some e →
      Does (.spillComplete u) s (ringSpots u 0) (.host :: .salt :: .out :: formParts) (fun t =>
        (∀ s1, s.getF QM_QSTAT_INCARN e.queue ≠ e.incarn → (s.queue e.queue).desc = 0 → s.writeEntry u (s.ringTail u) e = (s1, none) →
          (t.ring u).ents = (s.ring u).ents ++ [e] ∧ (t.ring u).spill = none ∧ t.dsState u 0 = 0 ∧ t.getF DS_STAT_LAST (ds u 0) = 1 ∧
          t.getF DS_STAT_POS (ds u 0) = 320) ∧
        (∀ s1 c, (s.queue e.queue).desc = 0 → s.getF QM_QSTAT_INCARN e.queue = e.incarn → (s.queue e.queue).back.find? (fun c => c.idx == e.cell.idx) = some c →
          s.writeEntry u (s.ringTail u) { e with cell := c } = (s1, none) →
          (t.ring u).ents = (s.ring u).ents ++ [{ e with cell := c }] ∧ (∀ d ∈ (t.queue e.queue).back, d.idx ≠ c.idx) ∧
          smGet false t.qm.used c.idx = false ∧ t.getF SP_LEVEL_LEVEL u = ((s.ring u).ents.length + 1) % 2 ^ SP_LEVEL_LEVEL.width ∧
          t.getF QM_QSTAT_COUNT e.queue = s.getF QM_QSTAT_COUNT e.queue ∧ t.dsState u 0 = 0 ∧ t.getF DS_STAT_LAST (ds u 0) = 1))) ∧
    (∀ u, s.drainDue u = true → Does (.drainStart u) s [DS_STAT_STATE.at_ (ds u 1), DS_STAT_POS.at_ (ds u 1)] [.qm] (fun t =>
      t.dsState u 1 = 1 ∧ t.ring u = { s.ring u with drain := true, checked := false })) ∧
    (∀ u e rest, s.dsState u 1 = 1 → (s.ring u).ents = e :: rest → s.getF QM_CFG_CTL_RESERVE 0 < s.getF QM_POOL_FREE 0 →
      Does (.drainComplete u) s (ringSpots u 1) (.out :: formParts) (fun t =>
        (∀ data side, s.streamRead u (s.ringData u (s.ring u).head) true 4 = .ok data →
          s.streamRead u (s.ringSide u (s.ring u).head) true 1 = .ok side →
          (crc32c (data ++ side.take 56) ≠ leNat ((side.drop 56).take 4) → t.dsState u 1 = 2 ∧ t.getF DS_FAULT_CAUSE (ds u 1) = 7 ∧
            (t.ring u).ents = (s.ring u).ents) ∧
          (crc32c (data ++ side.take 56) = leNat ((side.drop 56).take 4) → (t.ring u).ents = rest ∧ t.dsState u 1 = 0 ∧
            t.getF DS_STAT_LAST (ds u 1) = 1 ∧ t.getF DS_STAT_POS (ds u 1) = 320 ∧
            ((s.queue e.queue).desc = 0 → t.getF QM_QSTAT_COUNT e.queue = s.getF QM_QSTAT_COUNT e.queue) ∧
            (s.getF QM_QSTAT_INCARN e.queue = e.incarn → (s.queue e.queue).desc = 0 → s.getF QM_QCFG_TENANT e.queue = u →
              e.cell.spent = false → ∃ x, (t.queue e.queue).front = (s.queue e.queue).front ++ [{ e.cell with idx := x }]) ∧
            (s.getF QM_QSTAT_INCARN e.queue ≠ e.incarn → t.queue e.queue = s.queue e.queue))) ∧
        (∀ cause va, s.streamRead u (s.ringData u (s.ring u).head) true 4 = .error (cause, va) → t.dsState u 1 = 2 ∧
          t.getF DS_FAULT_CAUSE (ds u 1) = cause % 256 ∧ t.getF DS_FAULT_ADDR (ds u 1) = va % 2 ^ 48))) ∧
    (∀ u d, s.ready = true → SP_PEAK_CLEAR.of d = 1 → Does (.spPeakClear u d) s [SP_PEAK_PEAK.at_ u] [] (fun t =>
      t.getF SP_PEAK_PEAK u = s.getF SP_LEVEL_LEVEL u))

/-- Commands of queues and banks, the scrubber, spill and drain.
Some clauses rest on choices of the model: log entries 53, 65 and 75. -/
def Obligations.QueuesAndCells : Prop := queueCommands ∧ scrubSpillAndDrain

/-- What RESUME and ABANDON may change (R309): what the stream's owner shows of it. -/
def streamCmdSpots : List Spot :=
  formSpots ++ irqSpots ++ [CX_STATUS_DEP.all, CX_STATUS_IMAGE_VALID.all, CX_STATUS_STATE.all, DS_STAT_STATE.all, DS_STAT_LAST.all, DS_STAT_POS.all, HM_CTL_DONE.all, HM_CTL_REASON.all,
    HM_CTL_STATE.all, HV_STAT2_DMA_BUSY.at_ 0, HV_STAT2_DMA_SKIP.at_ 0, IM_TSTAT_ERRORS.all, IM_TSTAT_QUEUED.all, IM_UNIT_BUSY.all, IM_UNIT_LAUNCHES.all, IM_UNIT_TENANT.all,
    LD_STAT_BUSY.at_ 0, LD_STAT_DONE.at_ 0, LD_STAT_FAULT.at_ 0, LD_STAT_POS.at_ 0, LD_STAT_REASON.at_ 0, LG_STATUS_PF_STALL.all,
    LG_STATUS_REASON.all, LG_STATUS_STATE.all, RK_STAT_SKIP.at_ 0, SP_LEVEL_CROSSED.all, SP_LEVEL_LEVEL.all, SP_LEVEL_RING_FULL.all,
    SP_PEAK_PEAK.all, SP_SIZE_EN.all]

/-- Streams and translations (R306, R309, R310). A fault of a RUNNING stream makes it STALLED with its cause and address, and with POS at the whole
units before it when it lies in the descriptor, and raises the DMA interrupt; RESUME makes it RUNNING from POS rounded down to 64 bytes, and ABANDON ends it, for a STALLED stream alone; an ABANDON of a
spill clears SP_SIZE.EN. An invalidation is BUSY until it completes.
Some clauses rest on choices of the model: log entries 38 and 84. -/
def Obligations.StreamsAndTranslations : Prop :=
  ∀ (s : State),
    (∀ u k cause va, s.inReset = false → u < 64 → k < 11 → k ≠ 7 → k ≠ 8 → 1 ≤ cause → cause ≤ 8 → s.dsState u k = 1 →
      Does (.dmaFault u k cause va) s (formSpots ++ irqSpots ++ [DS_STAT_STATE.at_ (ds u k), DS_STAT_POS.at_ (ds u k),
          DS_FAULT_CAUSE.at_ (ds u k), DS_FAULT_ADDR.at_ (ds u k), LG_STATUS_PF_STALL.at_ u]) (.out :: formParts) (fun t =>
        t.dsState u k = 2 ∧ (∀ o, s.dsOffset u k va = some o → t.getF DS_STAT_POS (ds u k) = o / 64 * 64 % 2 ^ DS_STAT_POS.width) ∧
        (s.dsOffset u k va = none → t.getF DS_STAT_POS (ds u k) = s.getF DS_STAT_POS (ds u k)) ∧
        (∀ d, 3 ≤ k → k < 7 → d = s.streamDesc u (k - 3) → d.src ≤ va → va < d.src + d.len →
          t.getF DS_STAT_POS (ds u k) = (va - d.src) / 64 * 64 % 2 ^ DS_STAT_POS.width) ∧ t.getF DS_FAULT_CAUSE (ds u k) = cause ∧
        t.getF DS_FAULT_ADDR (ds u k) = va % 2 ^ 48 ∧ t.arrBit .IRQ_PEND 5 = true ∧ (k = 2 → t.flag LG_STATUS_PF_STALL u = true))) ∧
    (∀ u d cause va, s.inReset = false → u < 64 → 1 ≤ cause → cause ≤ 8 → s.dsState u 8 = 1 → s.load = some d → d.tenant = u →
      Does (.dmaFault u 8 cause va) s (formSpots ++ irqSpots ++ [DS_STAT_STATE.at_ (ds u 8), DS_STAT_POS.at_ (ds u 8),
          DS_FAULT_CAUSE.at_ (ds u 8), DS_FAULT_ADDR.at_ (ds u 8), LD_STAT_FAULT.at_ 0, LD_STAT_POS.at_ 0]) (.load :: .out :: formParts) (fun t =>
        t.dsState u 8 = 2 ∧ t.getF DS_FAULT_CAUSE (ds u 8) = cause ∧ t.getF DS_FAULT_ADDR (ds u 8) = va % 2 ^ 48 ∧
        t.flag LD_STAT_FAULT 0 = true ∧ (d.body = false → t.load = s.load) ∧
        ∃ bs, t.load = some { d with got := bs } ∧ t.getF LD_STAT_POS 0 =
          (va + 2 ^ 48 - d.src) % 2 ^ 48 / 64 * 64 % 2 ^ LD_STAT_POS.width)) ∧
    (∀ u k, s.ready = true → u < 64 → k < 16 → s.dsState u k ≠ 2 ∨ k = 7 ∨ 11 ≤ k → Idle (.dsResume u k) s ∧ Idle (.dsAbandon u k) s) ∧
    (∀ u k, s.ready = true → u < 64 → k < 11 → k ≠ 7 → k ≠ 8 → s.dsState u k = 2 →
      Does (.dsResume u k) s [DS_STAT_STATE.at_ (ds u k), DS_STAT_POS.at_ (ds u k), LG_STATUS_PF_STALL.at_ u] [.qm] (fun t =>
        (k ≠ 1 → t.qm = s.qm) ∧ t.dsState u k = 1 ∧ t.getF DS_STAT_POS (ds u k) = s.getF DS_STAT_POS (ds u k) / 64 * 64 ∧
        (k = 2 → t.flag LG_STATUS_PF_STALL u = false) ∧ (k ≠ 2 → t.flag LG_STATUS_PF_STALL u = s.flag LG_STATUS_PF_STALL u))) ∧
    (∀ u k, s.ready = true → u < 64 → k < 11 → k ≠ 7 → s.dsState u k = 2 →
      Does (.dsResume u k) s streamCmdSpots ([.cores, .ctxs, .imago, .load, .mtx, .out, .taps] ++ formParts) (fun _ => True) ∧
      Does (.dsAbandon u k) s streamCmdSpots ([.cores, .ctxs, .imago, .load, .mtx, .out, .taps] ++ formParts) (fun t =>
        (k ≠ 8 → t.dsState u k = 0 ∧ t.getF DS_STAT_LAST (ds u k) = 2) ∧
        (k = 0 → t.flag SP_SIZE_EN u = false ∧ (t.ring u).spill = none ∧ (t.ring u).ents = (s.ring u).ents) ∧
        (k = 2 → t.lgState u = 5) ∧ (3 ≤ k → k < 7 → s.modelState u (k - 3) ∈ [1, 3] → t.modelState u (k - 3) = 4) ∧ (k = 9 → t.taps.rake = none) ∧ (k = 10 → t.taps.image = none) ∧
        (∀ d, k = 8 → s.load = some d → d.tenant = u → s.flag LD_STAT_FAULT 0 = true →
          t.load = none ∧ t.getF LD_STAT_REASON 0 = 6 ∧ t.dsState u 8 = 0))) ∧
    (∀ d, s.ready = true → XL_INV_GO.of d = 1 → Does (.xlInvalidate d) s [XL_INV_BUSY.at_ 0] [] (fun t => t.flag XL_INV_BUSY 0 = true)) ∧
    (s.inReset = false → s.flag XL_INV_BUSY 0 = true → Does .xlInvComplete s [XL_INV_BUSY.at_ 0] [] (fun t => t.flag XL_INV_BUSY 0 = false))

/-! ### Windows and losses (chapter 10) -/

/-- The record `r`, of class 0 or 1, is formed: when its queue takes records and is sound and no flight recorder, it lies in that queue,
with the SEQ and the generation that acceptance gives it. -/
def forms (s t : State) (r : Rec) : Prop :=
  ∀ q, s.route r.source r.tenant r.cls = some q → s.refuse q r = 0 → (s.queue q).desc = 0 → s.flag QM_QCFG_FR q = false →
    ∃ c ∈ (t.queue q).cells, ∃ x ∈ c.recs, x = { r with seq := x.seq, gen := x.gen }

/-- Every dependence of the tenant's contexts on generation `g` has ended, with DVOID for a void; the other contexts are as before. -/
def dependencesEnd (s t : State) (u g : Nat) (voided : Bool) : Prop :=
  (∀ c, s.ownerOf c = some u → (s.ctx c).dep = some g →
    t.ctx c = { s.ctx c with dep := none, dvoid := (s.ctx c).dvoid || voided } ∧ t.flag CX_STATUS_DEP c = false) ∧
  (∀ c, (∀ x, (c, x) ∈ s.ctxs → x.dep ≠ some g) → t.ctx c = s.ctx c)

/-- The window of tenant `u` is the next one, newly opened (R316, R318): CUR is the old NEXT, NEXT follows it and skips 0, the counts are
empty and the configuration is latched. -/
def windowOpens (s t : State) (u : Nat) : Prop :=
  t.getF WN_GEN_CUR u = s.getF WN_GEN_NEXT u ∧
  t.getF WN_GEN_NEXT u = (if s.getF WN_GEN_NEXT u + 1 = 2 ^ 32 then 1 else s.getF WN_GEN_NEXT u + 1) ∧ t.getF WN_STAT_STATE u = 1 ∧
  (t.window u).c1 = 0 ∧ (t.window u).c2 = 0 ∧ (t.window u).c3 = 0 ∧ (t.window u).slots = 0 ∧ (t.window u).digest = 0 ∧
  (t.window u).openStamp = s.shortNow ∧ (t.window u).align = s.getF WN_CFG_ALIGN u ∧ (t.window u).k = s.getF WN_CFG_K u ∧
  (t.window u).maxk = s.getF WN_CFG_MAXK u ∧ (t.window u).grp = s.getF WN_CFG_GRP u

/-- The successor of a closed window (R318, R389): the next one opens, but for a tenant with WIN_MIRROR on a JOINING block, which has no window
then. -/
def windowFollows (s t : State) (u : Nat) : Prop :=
  (s.joining = false ∨ s.flag PR_TEN_WIN_MIRROR u = false → windowOpens s t u) ∧
  (s.joining = true → s.flag PR_TEN_WIN_MIRROR u = true → t.getF WN_GEN_CUR u = 0 ∧ t.getF WN_STAT_STATE u = 0 ∧
    t.getF WN_GEN_NEXT u = s.getF WN_GEN_NEXT u)

/-- Window CUR of tenant `u` is crystallised with an outcome (R319): WN_LAST and WN_LASTCNT tell of it, its SEAL is formed, dependences end,
parked posts are shown or wait for READY, marks are cleared, and the tenant interrupt comes when SEAL_IRQ asks for it. -/
def crystallised (s t : State) (u outcome : Nat) : Prop :=
  ∀ g w, g = s.getF WN_GEN_CUR u → w = s.window u →
    t.getF WN_LAST_OUTCOME u = outcome ∧ t.getF WN_LAST_GEN u = g ∧
    t.getF WN_LASTCNT_RECORDS u = (w.c1 + w.c2 + w.c3) % 2 ^ 32 ∧ t.getF WN_LASTCNT_DIGEST u = w.digest % 2 ^ 32 ∧
    forms s t (s.unitRec 0x50 (if w.grp = 0 then 3 else if w.grp = 1 then 5 else 7) 1 u 0x8303 (sealPayload w g outcome)) ∧
    dependencesEnd s t u g false ∧
    (∀ j p, j < 4 → (s.mailbox (4 * u + j)).parked = some p → p.gen = g → p.sealed = false →
      (s.flag MB_HDR_READY (4 * u + j) = false → (t.mailbox (4 * u + j)).parked = none ∧
        (t.mailbox (4 * u + j)).shown = padTo 48 (padTo p.len p.data) ∧ t.flag MB_HDR_READY (4 * u + j) = true ∧
        t.getF MB_HDR_SEQ (4 * u + j) = (s.getF MB_HDR_SEQ (4 * u + j) + 1) % 2 ^ MB_HDR_SEQ.width) ∧
      (s.flag MB_HDR_READY (4 * u + j) = true → (t.mailbox (4 * u + j)).parked = some { p with sealed := true } ∧
        (t.mailbox (4 * u + j)).shown = (s.mailbox (4 * u + j)).shown)) ∧
    (∀ q, s.getF QM_QCFG_TENANT q = u → ((∃ a b, (s.queue q).mark = .set g a b) ∨ (s.queue q).mark = .lost g) →
      (t.queue q).mark = .none) ∧
    (s.flag WN_CFG_SEAL_IRQ u = true → t.flag IRQ_TCAUSE_WINDOW u = true ∧ t.arrBit .IRQ_PEND (64 + u) = true)

/-- Window CUR of tenant `u` is voided (R322): WN_LAST shows VOIDED with no digest, dependences end with DVOID, parked posts are discarded, the
records of the generation that its marked queues hold are GONE, its VOID waits for the settlement, and its successor follows. -/
def voided (s t : State) (u reason : Nat) : Prop :=
  ∀ g w, g = s.getF WN_GEN_CUR u → w = s.window u →
    t.getF WN_LAST_OUTCOME u = 8 ∧ t.getF WN_LAST_GEN u = g ∧ t.getF WN_LASTCNT_RECORDS u = (w.c1 + w.c2 + w.c3) % 2 ^ 32 ∧
    t.getF WN_LASTCNT_DIGEST u = 0 ∧ t.getF WN_STAT_VOIDS u = (s.getF WN_STAT_VOIDS u + 1) % 2 ^ WN_STAT_VOIDS.width ∧
    (∃ job, (t.window u).jobs = w.jobs ++ [job] ∧ job.gen = g ∧ job.reason = reason ∧ job.formed = w.c1 + w.c2 + w.c3 ∧
      job.refused = w.refused ∧ job.stamp = s.shortNow) ∧
    dependencesEnd s t u g true ∧
    (∀ j p, j < 4 → (s.mailbox (4 * u + j)).parked = some p → p.gen = g → p.sealed = false →
      (t.mailbox (4 * u + j)).parked = none ∧ (t.mailbox (4 * u + j)).shown = (s.mailbox (4 * u + j)).shown ∧
      t.getF MB_HDR_VOIDED (4 * u + j) = (s.getF MB_HDR_VOIDED (4 * u + j) + 1) % 2 ^ MB_HDR_VOIDED.width) ∧
    (∀ q a b, g ≠ 0 → s.getF QM_QCFG_TENANT q = u → (s.queue q).mark = .set g a b →
      ∀ c ∈ (t.queue q).cells, ∀ r ∈ c.recs, r.gen = g → r.gone = true) ∧
    windowFollows s t u

/-- A refused request for tenant `u` counts in REFUSED. -/
def countsRefusal (s t : State) (u : Nat) : Prop :=
  t.getF WN_STAT_REFUSED u = (s.getF WN_STAT_REFUSED u + 1) % 2 ^ WN_STAT_REFUSED.width

/-- Windows (R157, R316, R318, R319, R322, R323, R345). EN = 1 opens the window of an ACTIVE tenant, EN = 0 crystallises the open one as DISABLED; a
request for the open generation seals it EARLY or voids it, and its successor opens in the same cycle; a request for another
generation counts in REFUSED; a window whose interval has ended closes first, as BOUNDARY, and refuses the request; VOID goes before
SEAL in one write; the end of an interval and the cap close with outcomes 0 and 1. -/
def windows : Prop :=
  ∀ (s : State) (u : Nat), u < 64 →
    (∀ d, s.ready = true → WN_CFG_EN.of d = 1 →
      Does (.wnEnSet u d) s [Reg.at_ .WN_CFG u, Reg.at_ .WN_GEN u, WN_STAT_STATE.at_ u] [.win, .mtx] (fun t =>
        t.getReg .WN_CFG u = storeFields false d allBits Reg.WN_CFG.fields (s.getReg .WN_CFG u) ∧
        (s.getF WN_STAT_STATE u = 0 → s.getF TN_STATUS_STATE u = 1 → (s.joining = false ∨ s.flag PR_TEN_WIN_MIRROR u = false) →
          windowOpens (s.setReg .WN_CFG u (t.getReg .WN_CFG u)) t u) ∧
        (s.getF WN_STAT_STATE u ≠ 0 ∨ s.getF TN_STATUS_STATE u ≠ 1 ∨ (s.joining = true ∧ s.flag PR_TEN_WIN_MIRROR u = true) →
          t.getReg .WN_GEN u = s.getReg .WN_GEN u ∧
          t.getF WN_STAT_STATE u = s.getF WN_STAT_STATE u ∧ t.win = s.win))) ∧
    (∀ d, s.ready = true → WN_CFG_EN.of d = 0 →
      Does (.wnEnClear u d) s (Reg.at_ .WN_CFG u :: windowSpots u) windowParts (fun t =>
        t.getReg .WN_CFG u = storeFields false d allBits Reg.WN_CFG.fields (s.getReg .WN_CFG u) ∧
        (s.getF WN_STAT_STATE u = 1 → crystallised (s.setReg .WN_CFG u (t.getReg .WN_CFG u)) t u 5 ∧ t.getF WN_STAT_STATE u = 0 ∧
          t.getF WN_GEN_CUR u = 0 ∧ t.getF WN_GEN_NEXT u = s.getF WN_GEN_NEXT u) ∧
        (s.getF WN_STAT_STATE u ≠ 1 → t.getReg .WN_GEN u = s.getReg .WN_GEN u ∧ t.getReg .WN_LAST u = s.getReg .WN_LAST u))) ∧
    (s.inReset = false → s.intervalOver u = true → Does (.windowNaturalEnd u) s (windowSpots u) windowParts (fun t =>
      crystallised s t u 0 ∧ windowFollows s t u)) ∧
    (s.inReset = false → s.capDue u = true → Does (.windowCap u) s (windowSpots u) windowParts (fun t =>
      crystallised s t u 1 ∧ windowFollows s t u)) ∧
    (∀ i d void_, s.ready = true → (i = .wnSeal u d ∧ WN_CMD_SEAL.of d = 1 ∧ WN_CMD_VOID.of d = 0 ∧ void_ = false) ∨
        (i = .wnVoid u d ∧ WN_CMD_VOID.of d = 1 ∧ WN_CMD_SEAL.of d = 0 ∧ void_ = true) →
      (s.intervalOver u = true → Does i s (windowSpots u) windowParts (fun t => crystallised s t u 0 ∧ windowFollows s t u ∧
        countsRefusal s t u)) ∧
      (s.intervalOver u = false → s.getF WN_STAT_STATE u = 1 → s.getF WN_GEN_CUR u = WN_CMD_GEN.of d →
        Does i s (windowSpots u) windowParts (fun t =>
          (void_ = false → crystallised s t u 2 ∧ windowFollows s t u) ∧ (void_ = true → voided s t u 2))) ∧
      (s.intervalOver u = false → s.getF WN_STAT_STATE u ≠ 1 ∨ s.getF WN_GEN_CUR u ≠ WN_CMD_GEN.of d →
        Does i s [WN_STAT_REFUSED.at_ u] [] (fun t => countsRefusal s t u))) ∧
    (∀ d i, s.ready = true → WN_CMD_SEAL.of d = 1 → WN_CMD_VOID.of d = 1 → i ∈ [Instr.wnSeal u d, .wnVoid u d] →
      s.intervalOver u = false → s.getF WN_STAT_STATE u = 1 → s.getF WN_GEN_CUR u = WN_CMD_GEN.of d →
      s.getF WN_GEN_NEXT u ≠ WN_CMD_GEN.of d →
      Does i s (windowSpots u) windowParts (fun t => voided s t u 2 ∧ countsRefusal s t u)) ∧
    (∀ c f i void_ x gen, (i = .seal c f ∧ void_ = false) ∨ (i = .void c f ∧ void_ = true) → s.tenantOf c = u →
      s.ownerOf c = some u → f.rd = 0 → f.rb = 0 → f.ctl = 0 → (s.ctx c).latch = none → x = s.ctx c →
      gen = (x.gr f.ra).toNat % 2 ^ 32 → Fetches s c 1 i →
      ∃ t ok, exec i s = .next t ∧ Only (windowSpots u) windowParts (s.begin c) t ∧
        { t.ctx c with flow := {}, dep := none, dvoid := false } =
          { x.next.setP f.pd.toNat ok with flow := {}, dep := none, dvoid := false } ∧
        (ok = true ↔ s.intervalOver u = false ∧ s.getF WN_STAT_STATE u = 1 ∧ s.getF WN_GEN_CUR u = gen) ∧
        (s.intervalOver u = true → windowFollows s t u ∧ countsRefusal s t u ∧ t.getF WN_LAST_OUTCOME u = 0 ∧
          t.getF WN_LAST_GEN u = s.getF WN_GEN_CUR u) ∧
        (ok = true → windowFollows s t u ∧ t.getF WN_LAST_OUTCOME u = (if void_ then 8 else 2) ∧ t.getF WN_LAST_GEN u = gen ∧
          (void_ = true → ∃ job, (t.window u).jobs = (s.window u).jobs ++ [job] ∧ job.reason = 1)) ∧
        (s.intervalOver u = true ∨ ok = true →
          (x.dep = some (s.getF WN_GEN_CUR u) → (t.ctx c).dep = none ∧ (t.ctx c).dvoid = (x.dvoid || (void_ && ok))) ∧
          ((∀ y, (c, y) ∈ s.ctxs → y.dep ≠ some (s.getF WN_GEN_CUR u)) → (t.ctx c).dep = x.dep ∧ (t.ctx c).dvoid = x.dvoid) ∧
          (∀ d, d ≠ c → (∀ y, (d, y) ∈ s.ctxs → y.dep ≠ some (s.getF WN_GEN_CUR u)) → t.ctx d = s.ctx d)) ∧
        (s.intervalOver u = false → ok = false → countsRefusal s t u ∧ (t.ctx c).dep = x.dep ∧ (t.ctx c).dvoid = x.dvoid ∧
          t.getReg .WN_GEN u = s.getReg .WN_GEN u ∧ t.getReg .WN_LAST u = s.getReg .WN_LAST u ∧ ∀ d, d ≠ c → t.ctx d = s.ctx d))

/-- The settlement of voids, and loss tallies (R322, R323, R328, R329). The oldest void of a tenant is settled by its VOID record, with SEAL_IRQ's
interrupt; a tally that has stood for 16 microseconds closes, and its LOSS is formed, or waits in the unit when it is refused; the refused ones are
offered again, in order. -/
def voidsAndLosses : Prop :=
  ∀ (s : State), s.inReset = false →
    (∀ u j js, (s.window u).jobs = j :: js →
      Does (.voidSettle u) s (formSpots ++ irqSpots ++ [IRQ_TCAUSE_WINDOW.at_ u]) (.out :: formParts) (fun t =>
        (t.window u).jobs = js ∧
        forms s t { typ := 0x51, slots := 1, cls := 1, tenant := u, source := 0x8303, seq := 0, stamp := j.stamp, epoch := j.epoch,
                    payload := leBytes 4 j.gen ++ leBytes 1 j.reason ++ leBytes 1 j.failed.toNat ++ leBytes 2 (min j.refused 65535) ++
                      leBytes 4 j.formed ++ leBytes 4 j.rolled } ∧
        (s.flag WN_CFG_SEAL_IRQ u = true → u < 64 → t.flag IRQ_TCAUSE_WINDOW u = true ∧ t.arrBit .IRQ_PEND (64 + u) = true))) ∧
    (∀ source y, smGet none s.win.tallies source = some y → y.firstUs + 16 ≤ s.us →
      Does (.lossTallyTimeout source) s formSpots formParts (fun t =>
        (∀ z ∈ s.win.closed, z.tried = true) → y.tried = false →
          forms s t (s.lossRec y) ∧
          (∀ r, r = s.lossRec y → (∀ q, s.route r.source r.tenant r.cls = some q → s.refuse q r ≠ 0) →
            smGet none t.win.tallies source = none ∧ t.win.closed = s.win.closed ++ [{ y with tried := true }]))) ∧
    (∀ source, (∀ y, smGet none s.win.tallies source = some y → s.us < y.firstUs + 16) → Idle (.lossTallyTimeout source) s) ∧
    (∀ y rest, s.win.closed = y :: rest → y.tried = true →
      Does .lossReoffer s formSpots formParts (fun t => forms s t (s.lossRec y) ∧
        (∀ r, r = s.lossRec y → (∀ q, s.route r.source r.tenant r.cls = some q → s.refuse q r ≠ 0) →
          { y with tried := true } ∈ t.win.closed)))

/-- Windows, voids and losses (chapter 10).
Some clauses rest on choices of the model: log entries 54, 73 and 74. -/
def Obligations.WindowsAndLosses : Prop := windows ∧ voidsAndLosses

/-! ### The export unit (chapter 11) -/

/-- The frame `f` as it closes: SHED as it stands now, held while EN is 0 (R336, R434). -/
def closedFrame (s : State) (f : ExFrame) : ExFrame :=
  { f with shed := s.getF EX_SHSTAT_SHED3 f.tenant + 16 * s.getF EX_SHSTAT_D f.tenant, held := decide (s.getF EX_CFG_EN 0 ≠ 1) }

/-- Record `r` of the tenant `u` joins the open frame of its stream and class (R335): a frame of another epoch or generation, or one that the record
would take beyond 280 slots, closes first; a frame of 280 slots closes at once. -/
def joinsFrame (s t : State) (r : Rec) : Prop :=
  ∀ prov g, s.genState r.tenant r.gen = g → prov = decide (g ≠ .final) →
    t.ex.used = s.ex.used + r.slots ∧
    (∀ f, s.openFrame r.tenant r.cls = some f → f.tenant = r.tenant → f.epoch = r.epoch → f.gen = r.gen → f.slots + r.slots ≤ 280 →
      ∀ f', f' = { f with slots := f.slots + r.slots, recs := f.recs ++ [(r, prov)] } →
        (f.slots + r.slots < 280 → t.openFrame r.tenant r.cls = some f' ∧ t.ex.ready = s.ex.ready) ∧
        (f.slots + r.slots = 280 → t.openFrame r.tenant r.cls = none ∧ t.ex.ready = s.ex.ready ++ [closedFrame s f'])) ∧
    (r.slots < 280 → ∀ f0 : ExFrame,
      f0 = { tenant := r.tenant, cls := r.cls, epoch := r.epoch, gen := r.gen, slots := r.slots, born := s.rawNow, recs := [(r, prov)] } →
      (s.openFrame r.tenant r.cls = none → t.openFrame r.tenant r.cls = some f0 ∧ t.ex.ready = s.ex.ready) ∧
      (∀ f, s.openFrame r.tenant r.cls = some f → f.tenant = r.tenant →
        f.epoch ≠ r.epoch ∨ f.gen ≠ r.gen ∨ 280 < f.slots + r.slots →
        t.openFrame r.tenant r.cls = some f0 ∧ t.ex.ready = s.ex.ready ++ [closedFrame s f]))

/-- The drain and the frames (R334 to R337, R340, R343). The drain takes the head of a queue whose turn it is into the open frame of its stream and
class, and its record leaves the queue; a class-3 head is discarded and tallied while SHED3 is set. A frame closes when FLUSH_NS have passed. An UP and
free port starts the frame that its classes and round robins choose, one of classes 1 to 3 while it has allowance of the microsecond left, which carries the next FSEQ, or the one it was held with, is charged to SENTc and leaves the queue;
class c goes only when no class before it may; a sent frame leaves the block whole.
Some clauses rest on choices of the model: log entries 55 and 72. -/
def Obligations.ExportDrain : Prop :=
  ∀ (s : State), s.inReset = false →
    (∀ q, s.served q = true → Does (.exportTake q) s (QM_ERR_MEMERR.at_ 0 :: formSpots) (.ex :: formParts) (fun _ => True)) ∧
    (∀ q, s.served q = true → (s.queue q).desc = 0 →
      (s.headOf q = .empty ∨ s.headOf q = .remote → Idle (.exportTake q) s) ∧
      (∀ r x, s.headOf q = .item r x → r.err = 0 →
        (s.shedsHead r = true → quietSource s r.source → Does (.exportTake q) s formSpots [.qm, .win] (fun t =>
          t.getF EX_SHSTAT_SHED r.tenant = (s.getF EX_SHSTAT_SHED r.tenant + 1) % 2 ^ EX_SHSTAT_SHED.width ∧
          t.getF QM_QSTAT_COUNT q = s.getF QM_QSTAT_COUNT q - 1 ∧
          ∃ y, smGet none t.win.tallies r.source = some y ∧ y.cause = 11 ∧ y.count = 1 ∧ y.formed = true ∧ y.firstSeq = r.seq)) ∧
        (s.shedsHead r = false → s.drainTurn q = false → Idle (.exportTake q) s) ∧
        (s.shedsHead r = false → s.drainTurn q = true → Does (.exportTake q) s [QM_QSTAT_COUNT.at_ q, QM_QSTAT_MARK_SET.at_ q,
            QM_QSTAT_RESIDENT.at_ q, QM_POOL_FREE.at_ 0, QT_USE_RESIDENT.at_ (s.getF QM_QCFG_TENANT q),
            QT_USE_FULL.at_ (s.getF QM_QCFG_TENANT q)] [.qm, .ex] (fun t =>
          t.getF QM_QSTAT_COUNT q = s.getF QM_QSTAT_COUNT q - 1 ∧ joinsFrame s t r)))) ∧
    (∀ u cls f, s.openFrame u cls = some f → f.tenant = u → 25 * s.getF EX_CFG_FLUSH_NS 0 ≤ 16 * (s.rawNow - f.born) →
      Does (.frameFlushTimeout u cls) s [] [.ex] (fun t => t.openFrame u cls = none ∧ t.ex.ready = s.ex.ready ++ [closedFrame s f])) ∧
    (∀ p f, s.chooseFrame p = some f → f ∈ s.ex.ready ∧ s.targetPort f.tenant = some p ∧ s.paused p (s.prio f.cls) = false ∧
      s.covers f.tenant f.cls f.slots = true ∧ (∀ cls, cls < f.cls → s.pickFrame p cls = none) ∧
      (s.portUp p = true → (s.exPort p).cur = none → s.flag EX_CFG_EN 0 = true → s.locked = true →
        Does (.frameStart p) s [EX_CRSTAT_LEFT1.at_ f.tenant, EX_CRSTAT_LEFT2.at_ f.tenant, EX_CRSTAT_LEFT3.at_ f.tenant] [.ex] (fun t =>
          (∃ x body, (t.exPort p).cur = some x ∧ x.frame = f ∧ x.bytes = body ++ leBytes 4 (crc32 body) ∧
            body = s.frameHead f ++ s.frameHeader f (f.fseq.getD (s.stream f.tenant).fseq).toNat (fun c => t.creditUnits f.tenant c) ++
              f.recs.flatMap (fun r => r.1.bytes r.2)) ∧
          (t.stream f.tenant).fseq = (if f.fseq = none then (s.stream f.tenant).fseq + 1 else (s.stream f.tenant).fseq) ∧
          smGet 0 (t.stream f.tenant).sent f.cls = (smGet 0 (s.stream f.tenant).sent f.cls + f.slots) % 2 ^ 32 ∧
          (f.cls = 0 → (t.exPort p).shaped = (s.exPort p).shaped ∧ (t.exPort p).allowed = (s.exPort p).allowed) ∧
          (f.cls ≠ 0 → (s.exPort p).shaped < s.allowance p ∧ (t.exPort p).shaped = (s.exPort p).shaped + s.wireBytes f ∧
            (t.exPort p).allowed = some (s.allowance p)) ∧
          t.ex.used = s.ex.used - f.slots ∧ t.ex.ready = s.ex.ready.erase f ∧ (∀ o, o ≠ p → t.exPort o = s.exPort o)))) ∧
    (∀ p x, (s.exPort p).cur = some x →
      ((s.exPort p).stop = false → Does (.frameEnd p) s counterSpots [.ex, .out] (fun t =>
        t.out = s.out ++ [.exportFrame p x.bytes] ∧ (t.exPort p).cur = none)) ∧
      ((s.exPort p).stop = true → s.flag EX_CFG_EN 0 = false → Does (.frameEnd p) s (formSpots ++ [EX_PORT_FAILED.at_ p, EX_PORT_LANES.at_ p,
          EX_PORT_RATE.at_ p, EX_PORT_STATE.at_ p]) ([.ex, .out] ++ formParts) (fun t =>
        t.out = s.out ++ [.exportFrame p x.bytes] ∧ (t.exPort p).cur = none ∧ t.getF EX_PORT_STATE p = 0)) ∧
      ((s.exPort p).stop = true → s.flag EX_CFG_EN 0 = true → Does (.frameEnd p) s (formSpots ++ [EX_PORT_FAILED.at_ p, EX_PORT_LANES.at_ p,
          EX_PORT_RATE.at_ p, EX_PORT_STATE.at_ p]) ([.ex, .out] ++ formParts) (fun t =>
        t.out = s.out ++ [.exportFrame p x.bytes] ∧ (t.exPort p).cur = none ∧ (t.exPort p).stop = false ∧
        (portMask (s.getF EX_CFG_MODE 0) p ≠ 0 → t.getF EX_PORT_STATE p = if (t.layout p).2 = 0 then 3 else 1))))

/-- What a change of the state of port `p` shows. -/
def exPortSpots : List Spot := formSpots ++ [EX_PORT_FAILED.all, EX_PORT_LANES.all, EX_PORT_RATE.all, EX_PORT_STATE.all]

/-- The frames of tenant `u` that have no FSEQ yet. -/
def newlyHeld (u : Nat) (fs : List ExFrame) : Nat := (fs.filter (fun f => f.tenant == u && f.fseq.isNone)).length

/-- Port `p` of the mode trains, or is DOWN for want of lanes (R332). -/
def trains (t : State) (p : Nat) : Prop := t.getF EX_PORT_STATE p = if (t.layout p).2 = 0 then 3 else 1

/-- Export ports, pause and credits (R332, R338 to R340, R434). Training ends in UP with the layout's rate and lanes; a lane failure
aborts the frame of its port, which trains again on what is left, or goes OFF when EN = 0 had stopped it; EN = 1 trains the ports of the mode,
unless a self-test runs, EN = 0 holds what is formed, each frame with the next FSEQ of its stream, and lets a port that sends go OFF
after its frame; a PFC frame pauses the priorities it names, each until its time or until a frame with
time 0; a good return frame sets the credits of its stream, and any other frame is discarded and counted; a credit that times out ends
credit control. -/
def exportPorts : Prop :=
  ∀ (s : State),
    (∀ p, s.inReset = false → s.getF EX_PORT_STATE p = 1 → s.flag MYB_BIST_STAT_BUSY 0 = false →
      Does (.portTrained p) s (formSpots ++ [EX_PORT_FAILED.at_ p, EX_PORT_LANES.at_ p, EX_PORT_RATE.at_ p, EX_PORT_STATE.at_ p]) formParts
        (fun t => t.getF EX_PORT_STATE p = 2 ∧ t.getF EX_PORT_RATE p = (s.layout p).2 % 2 ^ EX_PORT_RATE.width ∧
          t.getF EX_PORT_LANES p = (s.layout p).1 % 2 ^ EX_PORT_LANES.width)) ∧
    (∀ lane, s.inReset = false → lane < 8 → s.ex.dead / 2 ^ lane % 2 = 0 →
      Does (.exportLaneFailure lane) s (exPortSpots ++ [EX_STAT_LINK_ABORT.at_ 0, MYB_CAPS_EXPORT_LANES_OK.at_ 0]) (.ex :: .board :: formParts) (fun t =>
        t.ex.dead = s.ex.dead + 2 ^ lane ∧
        t.getF MYB_CAPS_EXPORT_LANES_OK 0 = s.getF MYB_CAPS_EXPORT_LANES_OK 0 - (if (.exportLane, lane) ∈ s.board.fallen then 0 else 1) ∧
        t.getF EX_STAT_LINK_ABORT 0 = (s.getF EX_STAT_LINK_ABORT 0 + ((List.range 4).filter (fun p =>
          decide (s.getF EX_PORT_LANES p / 2 ^ lane % 2 = 1) && (s.exPort p).cur.isSome)).length) % 2 ^ EX_STAT_LINK_ABORT.width ∧
        ∀ p < 4, (s.getF EX_PORT_LANES p / 2 ^ lane % 2 = 1 → (t.exPort p).cur = none ∧
            (portMask (s.getF EX_CFG_MODE 0) p ≠ 0 → (s.exPort p).stop = false ∨ s.flag EX_CFG_EN 0 = true → trains t p) ∧
            ((s.exPort p).stop = true → (t.exPort p).stop = false ∧ (s.flag EX_CFG_EN 0 = false → t.getF EX_PORT_STATE p = 0))) ∧
          (s.getF EX_PORT_LANES p / 2 ^ lane % 2 = 0 → t.exPort p = s.exPort p ∧ t.getF EX_PORT_STATE p = s.getF EX_PORT_STATE p ∧
            t.getF EX_PORT_LANES p = s.getF EX_PORT_LANES p ∧ t.getF EX_PORT_RATE p = s.getF EX_PORT_RATE p))) ∧
    (∀ d i, s.ready = true → (i = .exportEnable d ∧ EX_CFG_EN.of d = 1) ∨ (i = .exportDisable d ∧ EX_CFG_EN.of d = 0) →
      (EX_CFG_EN.of d = s.getF EX_CFG_EN 0 → Does i s [Reg.at_ .EX_CFG 0] [] (fun t =>
        t.getF EX_CFG_EN 0 = EX_CFG_EN.of d ∧ (EX_CFG_EN.of d = 1 → t.getF EX_CFG_MODE 0 = s.getF EX_CFG_MODE 0))) ∧
      (EX_CFG_EN.of d = 1 → s.getF EX_CFG_EN 0 = 0 → Does i s (Reg.at_ .EX_CFG 0 :: exPortSpots) formParts (fun t =>
        t.getF EX_CFG_EN 0 = 1 ∧ ∀ p < 4, (s.flag MYB_BIST_STAT_BUSY 0 = false → (s.exPort p).stop = false →
            portMask (t.getF EX_CFG_MODE 0) p ≠ 0 → trains t p) ∧
          (s.flag MYB_BIST_STAT_BUSY 0 = true ∨ (s.exPort p).stop = true ∨ portMask (t.getF EX_CFG_MODE 0) p = 0 → t.getF EX_PORT_STATE p = s.getF EX_PORT_STATE p))) ∧
      (EX_CFG_EN.of d = 0 → s.getF EX_CFG_EN 0 = 1 → Does i s (Reg.at_ .EX_CFG 0 :: exPortSpots) (.ex :: formParts) (fun t =>
        t.getF EX_CFG_EN 0 = 0 ∧ t.getF EX_CFG_MODE 0 = s.getF EX_CFG_MODE 0 ∧
        t.ex.ready.length = s.ex.ready.length ∧
        (∀ i (f : ExFrame), s.ex.ready[i]? = some f → t.ex.ready[i]? = some { f with held := true, fseq := some (f.fseq.getD ((s.stream f.tenant).fseq +
          BitVec.ofNat 32 (newlyHeld f.tenant (s.ex.ready.take i)))) }) ∧
        (∀ u, (t.stream u).fseq = (s.stream u).fseq + BitVec.ofNat 32 (newlyHeld u s.ex.ready)) ∧
        ∀ p < 4, ((s.exPort p).cur = none → t.getF EX_PORT_STATE p = 0 ∧ t.exPort p = s.exPort p) ∧
          ((s.exPort p).cur ≠ none → t.getF EX_PORT_STATE p = s.getF EX_PORT_STATE p ∧
            t.exPort p = { s.exPort p with stop := true })))) ∧
    (∀ p mask quanta, s.inReset = false →
      (s.portUp p = false ∨ s.flag EX_PFC_PFC_EN 0 = false → Idle (.pfcReceive p mask quanta) s) ∧
      (s.portUp p = true → s.flag EX_PFC_PFC_EN 0 = true → Does (.pfcReceive p mask quanta) s [] [.ex] (fun t =>
        (∀ o, o ≠ p → t.exPort o = s.exPort o) ∧ (t.exPort p).cur = (s.exPort p).cur ∧
        ∀ i < 8, ∀ n, n = quanta.getD i 0 % 65536 →
          (mask.getLsbD i = false → t.paused p i = s.paused p i) ∧ (mask.getLsbD i = true → n = 0 → t.paused p i = false) ∧
          (mask.getLsbD i = true → n ≠ 0 → smGet 0 (t.exPort p).pause i =
            s.rawNow * 640 + n * (if s.getF EX_PORT_RATE p = 3 then 320 else if s.getF EX_PORT_RATE p = 2 then 640 else 1280))))) ∧
    (∀ p prio e, s.inReset = false → e = smGet 0 (s.exPort p).pause prio →
      (e ≠ 0 → e ≤ s.rawNow * 640 → Does (.pauseExpire p prio) s [] [.ex] (fun t => t.paused p prio = false ∧
        (∀ o, o ≠ prio → t.paused p o = s.paused p o))) ∧
      (e = 0 ∨ s.rawNow * 640 < e → Idle (.pauseExpire p prio) s)) ∧
    (∀ p dmac hdr, s.inReset = false → s.portUp p = true →
      (dmac % 2 ^ 48 ≠ s.getF EX_MAC_MAC 0 ∨ s.goodReturn hdr = false → Does (.returnFrame p dmac hdr) s [EX_STAT_RX_DISCARD.at_ 0] [] (fun t =>
        t.getF EX_STAT_RX_DISCARD 0 = (s.getF EX_STAT_RX_DISCARD 0 + 1) % 2 ^ EX_STAT_RX_DISCARD.width)) ∧
      (dmac % 2 ^ 48 = s.getF EX_MAC_MAC 0 → s.goodReturn hdr = true →
        Does (.returnFrame p dmac hdr) s [EX_CRSTAT_EN1.all, EX_CRSTAT_EN2.all, EX_CRSTAT_EN3.all, EX_CRSTAT_LEFT1.all, EX_CRSTAT_LEFT2.all,
            EX_CRSTAT_LEFT3.all, EX_STAT_RET_FRAMES.at_ 0] [.ex] (fun t =>
          t.getF EX_STAT_RET_FRAMES 0 = (s.getF EX_STAT_RET_FRAMES 0 + 1) % 2 ^ EX_STAT_RET_FRAMES.width ∧
          ∀ u < 64,
            (s.flag EX_STREAM_VALID u = true → s.getF EX_STREAM_STREAM u = leNat ((hdr.drop 4).take 2) →
              t.creditBits u = leNat ((hdr.drop 6).take 1) &&& 0x0E ∧ (t.stream u).crTicks = 0 ∧
              (∀ c, 1 ≤ c → c ≤ 3 → smGet 0 (t.stream u).limit c = leNat ((hdr.drop (8 + 4 * c)).take 4)) ∧
              t.getF EX_CRSTAT_LEFT1 u = t.creditUnits u 1 ∧ t.getF EX_CRSTAT_LEFT2 u = t.creditUnits u 2 ∧
              t.getF EX_CRSTAT_LEFT3 u = t.creditUnits u 3 ∧ (t.stream u).sent = (s.stream u).sent) ∧
            (s.flag EX_STREAM_VALID u = false ∨ s.getF EX_STREAM_STREAM u ≠ leNat ((hdr.drop 4).take 2) →
              t.stream u = s.stream u ∧ t.creditBits u = s.creditBits u))) ∧
      Does (.exportRxOther p) s [EX_STAT_RX_DISCARD.at_ 0] [] (fun t =>
        t.getF EX_STAT_RX_DISCARD 0 = (s.getF EX_STAT_RX_DISCARD 0 + 1) % 2 ^ EX_STAT_RX_DISCARD.width)) ∧
    (∀ u, s.inReset = false → u < 64 → s.creditBits u ≠ 0 → s.getF EX_CFG_CRED_TO 0 ≠ 0 →
      s.getF EX_CFG_CRED_TO 0 ≤ (s.stream u).crTicks →
      Does (.creditTimeout u) s (formSpots ++ [EX_CRSTAT_EN1.at_ u, EX_CRSTAT_EN2.at_ u, EX_CRSTAT_EN3.at_ u, EX_CRSTAT_LEFT1.at_ u,
          EX_CRSTAT_LEFT2.at_ u, EX_CRSTAT_LEFT3.at_ u]) formParts (fun t =>
        t.creditBits u = 0 ∧ t.getF EX_CRSTAT_LEFT1 u = 0xFFFF ∧ t.getF EX_CRSTAT_LEFT2 u = 0xFFFF ∧ t.getF EX_CRSTAT_LEFT3 u = 0xFFFF))

/-- Shedding (R341). An evaluation shows each tenant's pressure; SHED3 is set at T3 or under FREE3, and cleared below T3 by more than HYST with enough
free cells; d steps up at T2 or under FREE2, to DMAX, and down below T2 by more than HYST, one step in STEP_US. -/
def shedding : Prop :=
  ∀ (s : State), s.inReset = false →
    Does .shedEvaluate s (formSpots ++ [EX_SHSTAT_D.all, EX_SHSTAT_P.all, EX_SHSTAT_SHED3.all]) (.ex :: formParts) (fun t =>
      ((∀ u, t.getF EX_SHSTAT_D u = s.getF EX_SHSTAT_D u ∧ t.flag EX_SHSTAT_SHED3 u = s.flag EX_SHSTAT_SHED3 u) →
        ∀ u < 64, t.getF EX_SHSTAT_P u = (s.pressure u).1) ∧
      ∀ u < 64, ∀ p free t3 t2 h d due, p = t.getF EX_SHSTAT_P u → free = s.getF QM_POOL_FREE 0 → t3 = s.getF EX_SHED_T3 u →
        t2 = s.getF EX_SHED_T2 u → h = s.getF EX_SHED_HYST u → d = s.getF EX_SHSTAT_D u →
        due = (∀ v, (s.stream u).lastStep = some v → v + s.getF EX_SHED_STEP_US u ≤ s.us) →
        (t3 ≤ p ∨ free < s.getF EX_GSHED_FREE3 0 → t.flag EX_SHSTAT_SHED3 u = true) ∧
        (p + h < t3 → s.getF EX_GSHED_FREE3 0 ≤ free → t.flag EX_SHSTAT_SHED3 u = false) ∧
        (p < t3 → t3 ≤ p + h → s.getF EX_GSHED_FREE3 0 ≤ free → t.flag EX_SHSTAT_SHED3 u = s.flag EX_SHSTAT_SHED3 u) ∧
        (due → t2 ≤ p ∨ free < s.getF EX_GSHED_FREE2 0 → d < s.getF EX_SHED_DMAX u → t.getF EX_SHSTAT_D u = d + 1) ∧
        (due → p + h < t2 → s.getF EX_GSHED_FREE2 0 ≤ free → t.getF EX_SHSTAT_D u = d - 1) ∧
        (¬ due ∨ (p < t2 ∧ t2 ≤ p + h ∧ s.getF EX_GSHED_FREE2 0 ≤ free) ∨
            ((t2 ≤ p ∨ free < s.getF EX_GSHED_FREE2 0) ∧ s.getF EX_SHED_DMAX u ≤ d) →
          t.getF EX_SHSTAT_D u = d ∧ (t.stream u).lastStep = (s.stream u).lastStep))

/-- Export ports, pause, credits and shedding.
Some clauses rest on choices of the model: log entries 55, 56, 65 and 81. -/
def Obligations.ExportPortsAndShedding : Prop := exportPorts ∧ shedding

/-! ### Imago units, models and health (chapter 12) -/

/-- Launch `x` of tenant `u` ends with an ERROR code (R354, R356): it leaves the queue, and its STATUS word stands in scratch over what `z` holds
there; a code other than 0 counts in ERRORS. -/
def launchEnds (s z t : State) (u : Nat) (x : Launch) (unit err : Nat) : Prop :=
  t.launches u = (s.launches u).erase x ∧
  (t.core (coreOf x.ctx)).scratch = memWrite (z.core (coreOf x.ctx)).scratch (s.scrBase x.ctx + x.at_)
    (leBytes 1 (if err = 0 then 2 else 3) ++ leBytes 1 err ++ leBytes 1 unit ++ leBytes 1 0 ++ leBytes 4 x.ticket) ∧
  t.getF IM_TSTAT_ERRORS u = (s.getF IM_TSTAT_ERRORS u + if err = 0 then 0 else 1) % 2 ^ IM_TSTAT_ERRORS.width

/-- What a launch that starts or ends on unit `k` for tenant `u` shows. -/
def launchSpots (u k : Nat) : List Spot :=
  [IM_TSTAT_QUEUED.at_ u, IM_TSTAT_ERRORS.at_ u, IM_UNIT_BUSY.at_ k, IM_UNIT_TENANT.at_ k, IM_UNIT_LAUNCHES.at_ k]

/-- Launches (R310, R354 to R356, R359, R360). A free unit that is not mapped out takes the oldest launch of the tenant that is not started and may start:
it ends at once with the first failing check, or runs, and starts the stream of a streamed model. It completes with its results in scratch,
then its STATUS, and its unit is free, and the stream that it alone has read is COMPLETE with POS at the end of its last range; a stream that cannot be
read stalls instead, with POS at the fault in its range.
Of two launches with one ticket, as a restore may bring, neither touches the other. It does not complete while the tenant's share of the unit's
cycles is none, or while its streamed model's stream rests; one that reads a LOADING model completes when the copy, which runs, has passed
its range.
Some clauses rest on choices of the model: log entries 26, 27, 29 and 98. -/
def Obligations.Launches : Prop :=
  ∀ (s : State), s.inReset = false →
    (∀ k u x, s.startable k u = some x → (s.launches u).find? (fun y => y.unit.isNone) = some x ∧ s.getF TN_STATUS_STATE u = 1 ∧
      ((parseDesc x.desc).op = 5 ↔ k = 4)) ∧
    (∀ k u x d err, k ≤ 4 → s.running? k = none → (k < 4 → s.flag IM_UNIT_MAPPED_OUT k = false) → s.nextTenant k = some u →
      s.startable k u = some x → d = parseDesc x.desc → err = s.launchError u x →
      Does (.launchStart k) s (launchSpots u k ++ [DS_STAT_STATE.at_ (ds u (3 + d.model)), DS_STAT_POS.at_ (ds u (3 + d.model))])
        [.imago, .cores] (fun t =>
        (err = 0 → t.launches u = (s.launches u).replace x { x with unit := some k, begun := true } ∧
          (k < 4 → t.flag IM_UNIT_BUSY k = true ∧ t.getF IM_UNIT_TENANT k = u % 64) ∧
          (s.weightStream u d = true → s.dsState u (3 + d.model) = 0 → t.dsState u (3 + d.model) = 1 ∧ t.weightPos u d.model = 0 ∧
            (d.aStore = true → t.streamDesc u d.model = { src := (s.model u d.model).waddr + d.aOfs, dst := 0, len := d.aBytes })) ∧
          ∀ j, t.core j = s.core j) ∧
        (err ≠ 0 → launchEnds s s t u x (if k < 4 then k else 255) err ∧ (k < 4 → t.flag IM_UNIT_BUSY k = false ∧
          t.getF IM_UNIT_LAUNCHES k = (s.getF IM_UNIT_LAUNCHES k + 1) % 2 ^ 32)))) ∧
    (∀ k u x d, s.running? k = some (u, x) → d = parseDesc x.desc →
      (∀ cycles, cycles = (s.imago.further.getD (s.getF IM_UNIT_DUTY k)) *
          (if s.getF IM_TCFG_SHARE u = 0 then 16 else s.getF IM_TCFG_SHARE u) / 16 → ∀ waits : Prop,
        (waits ↔ d.readsStore = true ∧ ((s.modelState u d.model = 1 ∧ s.weightPos u d.model < d.storeEnd) ∨
          (s.modelState u d.model = 3 ∧ s.dsState u (3 + d.model) ≠ 1))) → k < 4 →
        (cycles = 0 → Idle (.launchComplete k) s) ∧
        (waits → s.modelState u d.model ≠ 1 ∨ s.dsState u (3 + d.model) ≠ 1 → Idle (.launchComplete k) s) ∧
        (cycles ≠ 0 → ¬ waits →
          (∀ a b, s.operands u x = (a, b, none) →
            Does (.launchComplete k) s (launchSpots u k ++ [DS_STAT_STATE.at_ (ds u (3 + d.model)), DS_STAT_LAST.at_ (ds u (3 + d.model)),
                DS_STAT_POS.at_ (ds u (3 + d.model))])
              [.imago, .cores] (fun t => launchEnds s (s.writeTiles x a b x.tile (d.tiles - x.tile)) t u x k 0 ∧
                (s.weightStream u d = true → (∀ y ∈ t.launches u, y.unit.isSome = true → (parseDesc y.desc).readsStore = true →
                    (parseDesc y.desc).model ≠ d.model) →
                  t.dsState u (3 + d.model) = 0 ∧ t.getF DS_STAT_LAST (ds u (3 + d.model)) = 1 ∧ t.getF DS_STAT_POS (ds u (3 + d.model)) =
                    (if d.usesB = true ∧ d.bStore = true then d.bBytes else d.aBytes) % 2 ^ DS_STAT_POS.width) ∧
                t.flag IM_UNIT_BUSY k = false ∧ t.getF IM_UNIT_LAUNCHES k = (s.getF IM_UNIT_LAUNCHES k + 1) % 2 ^ 32)) ∧
          (∀ a b cause va, s.operands u x = (a, b, some (cause, va)) →
            Does (.launchComplete k) s (formSpots ++ irqSpots ++ [DS_STAT_STATE.at_ (ds u (3 + d.model)), DS_STAT_POS.at_ (ds u (3 + d.model)),
              DS_FAULT_CAUSE.at_ (ds u (3 + d.model)), DS_FAULT_ADDR.at_ (ds u (3 + d.model))]) (.imago :: .out :: formParts) (fun t =>
                t.dsState u (3 + d.model) = 2 ∧ t.getF DS_FAULT_CAUSE (ds u (3 + d.model)) = cause % 256 ∧
                (∀ base, base = (s.model u d.model).waddr + d.aOfs → d.aStore = true → base ≤ va → va < base + d.aBytes →
                  t.getF DS_STAT_POS (ds u (3 + d.model)) = (va - base) % 2 ^ DS_STAT_POS.width) ∧
                t.getF DS_FAULT_ADDR (ds u (3 + d.model)) = va % 2 ^ 48 ∧ t.launches u = s.launches u))) ∧
        (cycles ≠ 0 → waits → s.modelState u d.model = 1 → s.dsState u (3 + d.model) = 1 → ∀ w pos, w = s.streamDesc u d.model →
          pos = s.weightPos u d.model →
          (∀ bs, s.streamed u (w.src + pos) ((min d.storeEnd w.len - pos + 63) / 64) = (bs, none) → d.storeEnd ≤ pos + bs.length →
            pos + bs.length < 2 ^ DS_STAT_POS.width →
            ∃ s1 t, exec (.launchComplete k) s = .next t ∧ Only [DS_STAT_POS.at_ (ds u (3 + d.model))] [.imago] s s1 ∧
              (s.ownUnits u d.model w = true → s1.imago = { s.imago with store := memWrite s.imago.store (w.dst + pos) bs }) ∧
              s1.weightPos u d.model = pos + bs.length ∧
              Only (DS_STAT_POS.at_ (ds u (3 + d.model)) :: launchSpots u k) [.imago, .cores] s t ∧
              ∀ a b, s1.operands u x = (a, b, none) → launchEnds s (s1.writeTiles x a b x.tile (d.tiles - x.tile)) t u x k 0 ∧
                t.flag IM_UNIT_BUSY k = false) ∧
          (∀ bs cause va, s.streamed u (w.src + pos) ((min d.storeEnd w.len - pos + 63) / 64) = (bs, some (cause, va)) →
            Does (.launchComplete k) s (formSpots ++ irqSpots ++ [DS_STAT_STATE.at_ (ds u (3 + d.model)), DS_STAT_POS.at_ (ds u (3 + d.model)),
              DS_FAULT_CAUSE.at_ (ds u (3 + d.model)), DS_FAULT_ADDR.at_ (ds u (3 + d.model))]) (.imago :: .out :: formParts) (fun t =>
                t.dsState u (3 + d.model) = 2 ∧ t.getF DS_FAULT_CAUSE (ds u (3 + d.model)) = cause % 256 ∧ t.launches u = s.launches u)))) ∧
      (k = 4 → x.entry < d.m → Idle (.launchComplete k) s) ∧
      (k = 4 → d.m ≤ x.entry → Does (.launchComplete k) s [IM_TSTAT_QUEUED.at_ u] [.imago, .cores] (fun t =>
        launchEnds s s t u x 255 0)))

/-- Model `m` of tenant `u` shows a period (R358): the greater of TARGET and the need, and REDUCED when the need is greater; with
an infinite need, the greatest number and REDUCED. -/
def showsPeriod (s t : State) (u m target : Nat) (need : Option Nat) : Prop :=
  (∀ n, need = some n → t.getF HM_CTL_PERIOD_US (hm u m) = min (max target n) (2 ^ 32 - 1) ∧
    t.flag HM_CTL_REDUCED (hm u m) = decide (target < n)) ∧
  (need = none → t.getF HM_CTL_PERIOD_US (hm u m) = 2 ^ 32 - 1 ∧ t.flag HM_CTL_REDUCED (hm u m) = true) ∧
  ∀ i, i ≠ hm u m → t.getF HM_CTL_PERIOD_US i = s.getF HM_CTL_PERIOD_US i

/-- Models (R357 to R361, R372). LOAD refuses a slot in use, a size out of range and a cadence that cannot be kept, each with its REASON; else it
places the weights in the tenant's range and copies them, or streams them when they do not fit. UNLOAD ends the launches that read
the model and empties the slot, and of an EMPTY slot sets DONE alone (the model's choice, log entry 28). The end of the copy makes the model RESIDENT with its weights in the store; an uncorrectable error of
a RESIDENT model makes it FAULTED. A recomputation shows every loaded model's period and whether it exceeds LIMIT.
Some clauses rest on choices of the model: log entry 29. -/
def Obligations.Models : Prop :=
  ∀ (s : State),
    (∀ u m i st wkib work units place need, s.ready = true → u < 64 → m < 4 → i = hm u m → st = s.modelState u m →
      wkib = s.getF HM_WORK_WKIB i → work = s.getF HM_WORK_WORK i → units = (wkib + 63) / 64 → place = s.wsPlace u m units →
      need = s.needUs u wkib work place.isNone → ∀ refusal : Nat, (refusal = if st ≠ 0 ∧ st ≠ 4 then 1 else
        if wkib = 0 ∨ 524288 < wkib then 3 else if ∀ n, need = some n → s.getF HM_CAD_LIMIT_US i < n then 4 else 0) →
      (refusal ≠ 0 → Does (.modelLoad u m) s [HM_CTL_REASON.at_ i, HM_CTL_DONE.at_ i] [] (fun t =>
        t.getF HM_CTL_REASON i = refusal ∧ t.flag HM_CTL_DONE i = true)) ∧
      (refusal = 0 → Does (.modelLoad u m) s [Reg.at_ .HM_CTL i, DS_STAT_STATE.at_ (ds u (3 + m)), DS_STAT_POS.at_ (ds u (3 + m))] [.imago]
        (fun t => showsPeriod s t u m (s.getF HM_CAD_TARGET_US i) need ∧ t.flag HM_CTL_UNDERRUN i = false ∧ t.getF HM_CTL_REASON i = 0 ∧
          (t.model u m).wkib = wkib ∧ (t.model u m).work = work ∧ (t.model u m).waddr = s.getF HM_WADDR_ADDR i * 65536 ∧
          (t.model u m).target = s.getF HM_CAD_TARGET_US i ∧ (t.model u m).limit = s.getF HM_CAD_LIMIT_US i ∧
          (∀ a, place = some a → t.modelState u m = 1 ∧ (t.model u m).first = a ∧ (t.model u m).count = units ∧
            t.dsState u (3 + m) = 1 ∧ t.getF DS_STAT_POS (ds u (3 + m)) = 0 ∧ t.flag HM_CTL_DONE i = s.flag HM_CTL_DONE i) ∧
          (place = none → t.modelState u m = 3 ∧ (t.model u m).count = 0 ∧ t.flag HM_CTL_DONE i = true ∧
            t.dsState u (3 + m) = s.dsState u (3 + m))))) ∧
    (∀ u m n a, s.wsPlace u m n = some a → s.getF IM_TCFG_WS_BASE u ≤ a ∧ (0 < n →
      a + n ≤ s.getF IM_TCFG_WS_BASE u + s.getF IM_TCFG_WS_LEN u) ∧
      ∀ k < 4, k ≠ m → ∀ j < n, a + j < (s.model u k).first ∨ (s.model u k).first + (s.model u k).count ≤ a + j) ∧
    (∀ u m i, s.ready = true → u < 64 → m < 4 → i = hm u m →
      (s.modelState u m = 0 → Does (.modelUnload u m) s [HM_CTL_DONE.at_ i] [] (fun t => t.flag HM_CTL_DONE i = true)) ∧
      (s.modelState u m ≠ 0 → Does (.modelUnload u m) s [Reg.at_ .HM_CTL i, DS_STAT_STATE.at_ (ds u (3 + m)), DS_STAT_LAST.at_ (ds u (3 + m)),
          IM_TSTAT_QUEUED.at_ u, IM_TSTAT_ERRORS.at_ u, IM_UNIT_BUSY.all, IM_UNIT_TENANT.all, IM_UNIT_LAUNCHES.all] [.imago, .cores] (fun t =>
        t.modelState u m = 0 ∧ t.flag HM_CTL_DONE i = true ∧ t.getF HM_CTL_REASON i = 0 ∧ t.getF HM_CTL_PERIOD_US i = 0 ∧
        (t.model u m).count = 0 ∧ t.dsState u (3 + m) = 0 ∧
        ∀ x ∈ t.launches u, x.unit.isSome = true → (parseDesc x.desc).readsStore = true → (parseDesc x.desc).model ≠ m))) ∧
    (∀ u m i x, s.inReset = false → u < 64 → m < 4 → i = hm u m → x = s.model u m →
      smGet none s.imago.streams i = none → s.streamDesc u m = { src := x.waddr, dst := 65536 * x.first, len := x.wkib * 1024 }) ∧
    (∀ u m i d pos, s.inReset = false → u < 64 → m < 4 → i = hm u m → s.modelState u m = 1 → s.dsState u (3 + m) = 1 → d = s.streamDesc u m →
      pos = s.weightPos u m →
      (∀ bs, s.streamed u (d.src + pos) ((d.len - pos + 63) / 64) = (bs, none) →
        Does (.modelCopyComplete u m) s [HM_CTL_STATE.at_ i, HM_CTL_REASON.at_ i, HM_CTL_DONE.at_ i, DS_STAT_STATE.at_ (ds u (3 + m)),
          DS_STAT_POS.at_ (ds u (3 + m)), DS_STAT_LAST.at_ (ds u (3 + m))] [.imago] (fun t => t.modelState u m = 2 ∧
            t.flag HM_CTL_DONE i = true ∧ t.getF HM_CTL_REASON i = 0 ∧ t.dsState u (3 + m) = 0 ∧ t.getF DS_STAT_LAST (ds u (3 + m)) = 1 ∧
            t.getF DS_STAT_POS (ds u (3 + m)) = min d.len (pos + bs.length) % 2 ^ DS_STAT_POS.width ∧ t.imago.models = s.imago.models ∧
            smGet none t.imago.streams i = none ∧
            (s.ownUnits u m d = true → t.imago.store = memWrite s.imago.store (d.dst + pos) bs))) ∧
      (∀ bs cause va, s.streamed u (d.src + pos) ((d.len - pos + 63) / 64) = (bs, some (cause, va)) →
        Does (.modelCopyComplete u m) s (formSpots ++ irqSpots ++ [DS_STAT_STATE.at_ (ds u (3 + m)), DS_STAT_POS.at_ (ds u (3 + m)),
          DS_FAULT_CAUSE.at_ (ds u (3 + m)), DS_FAULT_ADDR.at_ (ds u (3 + m))]) (.imago :: .out :: formParts) (fun t =>
            t.dsState u (3 + m) = 2 ∧ t.getF DS_FAULT_CAUSE (ds u (3 + m)) = cause % 256 ∧ t.arrBit .IRQ_PEND 5 = true ∧
            t.getF DS_STAT_POS (ds u (3 + m)) = (va - d.src) % 2 ^ DS_STAT_POS.width))) ∧
    (∀ u m, s.inReset = false → u < 64 → m < 4 → s.modelState u m = 2 →
      Does (.weightStoreMemerr u m) s (formSpots ++ [HM_CTL_STATE.at_ (hm u m), HM_CTL_REASON.at_ (hm u m), IM_TSTAT_QUEUED.at_ u,
          IM_TSTAT_ERRORS.at_ u, IM_UNIT_BUSY.all, IM_UNIT_TENANT.all, IM_UNIT_LAUNCHES.all]) ([.imago, .cores] ++ formParts) (fun t =>
        t.modelState u m = 4 ∧ t.getF HM_CTL_REASON (hm u m) = 6 ∧ t.model u m = s.model u m ∧
        ∀ x ∈ t.launches u, x.unit.isSome = true → (parseDesc x.desc).readsStore = true → (parseDesc x.desc).model ≠ m)) ∧
    (s.inReset = false → Does .cadenceRecompute s (formSpots ++ [HM_CTL_PERIOD_US.all, HM_CTL_REDUCED.all, HM_CTL_UNDERRUN.all]) formParts
      (fun t => ∀ u < 64, ∀ m < 4, ∀ need, need = s.needUs u (s.model u m).wkib (s.model u m).work (decide (s.modelState u m = 3)) →
        (s.modelState u m ∈ [1, 2, 3] →
          (∀ n, need = some n → t.getF HM_CTL_PERIOD_US (hm u m) = min (max (s.model u m).target n) (2 ^ 32 - 1) ∧
            t.flag HM_CTL_REDUCED (hm u m) = decide ((s.model u m).target < n) ∧
            t.flag HM_CTL_UNDERRUN (hm u m) = decide ((s.model u m).limit < n)) ∧
          (need = none → t.getF HM_CTL_PERIOD_US (hm u m) = 2 ^ 32 - 1 ∧ t.flag HM_CTL_REDUCED (hm u m) = true ∧
            t.flag HM_CTL_UNDERRUN (hm u m) = true)) ∧
        (s.modelState u m ∉ [1, 2, 3] → t.getReg .HM_CTL (hm u m) = s.getReg .HM_CTL (hm u m))))

/-- The VERDICT record of the health unit about entry `i` for tenant `u`: MISSES, SPARE and LEVEL as they stand (R366). -/
def verdictPayload (t : State) (u i v req flags model score phase pass advice : Nat) : List Byte :=
  leBytes 1 i ++ leBytes 1 v ++ leBytes 1 req ++ leBytes 1 0 ++ leBytes 1 flags ++ leBytes 1 model ++
    leBytes 2 (t.getF LS_ENT_MISSES i) ++ leBytes 4 score ++ leBytes 4 phase ++
    (if v = 1 ∨ v = 4 then leBytes 4 pass ++ leBytes 2 advice ++ leBytes 2 (t.getF GV_SPARE_SPARE u) ++
      leBytes 8 (t.getF GV_LEVEL_LEVEL u) ++ leBytes 16 0 else [])

/-- Verdicts and the governor (R364 to R366, R370, R371). The next entry of a VERDICT launch is passed over when REQ is 7, skipped and counted when a
field, the score or the home entry is not one that it may name, and withheld and counted from a DISPUTED or DEAD one; else LAST takes the
verdict and a VERDICT record is formed unless the verdict and the last one are OK and ALL is 0. A fresh EXPEL passes the governor while
SPARE is not below FLOOR, CAP is not 0 and a token is there, and charges both; a refused one becomes the verdict EXPEL_REFUSED. Buckets refill to CAP.
Some clauses rest on choices of the model: log entries 30 and 33. -/
def Obligations.VerdictsAndGovernor : Prop :=
  ∀ (s : State),
    (∀ u x d e i req score advice, s.inReset = false → (s.launches u).find? (fun x => x.unit == some 4) = some x → d = parseDesc x.desc →
      x.entry < d.m → e = s.scrBytes x.ctx (d.aOfs + 16 * x.entry) 16 → i = leNat (e.take 1) → req = leNat ((e.drop 2).take 1) →
      score = leNat ((e.drop 4).take 4) → advice = leNat ((e.drop 8).take 2) → ∀ bad : Prop,
      (bad ↔ 4 < req ∨ leNat ((e.drop 1).take 1) ≠ 0 ∨ leNat ((e.drop 3).take 1) ≠ 0 ∨ leNat ((e.drop 10).take 6) ≠ 0 ∨ 1024 < advice ∨
        (0x3F800000 < score ∧ score ≠ 0x80000000) ∨ s.homeValid i = false ∨ s.homeTenant i ≠ u) →
      ∀ next : State → Prop, next = (fun t => t.launches u = (s.launches u).replace x { x with entry := x.entry + 1 }) →
      (req = 7 → Does (.verdictEntry u) s [IM_TSTAT_QUEUED.at_ u] [.imago] next) ∧
      (req ≠ 7 → bad → Does (.verdictEntry u) s [IM_TSTAT_QUEUED.at_ u, HL_TEN_SKIPPED.at_ u] [.imago] (fun t => next t ∧
        t.getF HL_TEN_SKIPPED u = (s.getF HL_TEN_SKIPPED u + 1) % 2 ^ HL_TEN_SKIPPED.width)) ∧
      (req ≠ 7 → ¬ bad → s.liveness i ∈ [3, 4] → Does (.verdictEntry u) s [IM_TSTAT_QUEUED.at_ u, HL_TEN_WITHHELD.at_ u] [.imago] (fun t =>
        next t ∧ t.getF HL_TEN_WITHHELD u = (s.getF HL_TEN_WITHHELD u + 1) % 2 ^ HL_TEN_WITHHELD.width)) ∧
      (∀ again why v flags, req ≠ 7 → ¬ bad → s.liveness i ∉ [3, 4] → again = decide (req = 3 ∧ s.flag LS_ENT_EXPEL_SENT i = true) →
        why = (if req ≠ 3 ∨ again = true then 0 else if s.getF GV_SPARE_SPARE u < s.getF GV_CFG_FLOOR u then 1 else
          if s.getF GV_CFG_CAP u = 0 ∨ s.getF GV_LEVEL_LEVEL u < 2 ^ 32 then 2 else 0) → v = (if why = 0 then req else 4) →
        flags = (if why = 0 then 0 else 1) + (if why = 2 then 2 else 0) + (if again = true then 4 else 0) →
        Does (.verdictEntry u) s (formSpots ++ tenantIrqSpots ++ [IM_TSTAT_QUEUED.at_ u, LS_ENT_LAST.at_ i, LS_ENT_EXPEL_SENT.at_ i,
            GV_LEVEL_LEVEL.at_ u, GV_SPARE_SPARE.at_ u, GV_SPARE_PASSED.at_ u, GV_SPARE_SUPPRESSED.at_ u])
          ([.imago, .mtx, .out] ++ formParts) (fun t => next t ∧ t.getF LS_ENT_LAST i = v ∧
          (req = 3 → again = false → why = 0 → t.flag LS_ENT_EXPEL_SENT i = true ∧
            t.getF GV_LEVEL_LEVEL u = s.getF GV_LEVEL_LEVEL u - 2 ^ 32 ∧ t.getF GV_SPARE_SPARE u = s.getF GV_SPARE_SPARE u - 1 ∧
            t.getF GV_SPARE_PASSED u = (s.getF GV_SPARE_PASSED u + 1) % 2 ^ 24) ∧
          (req ≠ 3 ∨ again = true ∨ why ≠ 0 → t.getF LS_ENT_EXPEL_SENT i = s.getF LS_ENT_EXPEL_SENT i ∧
            t.getF GV_LEVEL_LEVEL u = s.getF GV_LEVEL_LEVEL u ∧ t.getF GV_SPARE_SPARE u = s.getF GV_SPARE_SPARE u) ∧
          (why ≠ 0 → t.getF GV_SPARE_SUPPRESSED u = (s.getF GV_SPARE_SUPPRESSED u + 1) % 2 ^ 24) ∧
          (s.flag HL_TEN_ALL u = true ∨ v ≠ 0 ∨ s.getF LS_ENT_LAST i ≠ 0 →
            forms s t (s.unitRec 0x40 (if v = 1 ∨ v = 4 then 2 else 1) 1 u 0x830C
              (verdictPayload t u i v req flags d.model score (d.param % 2 ^ 21) (d.param / 2 ^ 32) advice)) ∧
            (v ≠ 0 → s.flag HL_TEN_IRQ u = true → t.flag IRQ_TCAUSE_HEALTH u = true ∧ t.arrBit .IRQ_PEND (64 + u) = true))))) ∧
    (s.inReset = false → Does .governorRefill s [GV_LEVEL_LEVEL.all] [.mtx] (fun t => ∀ u < 64, ∀ cap, cap = s.getF GV_CFG_CAP u * 2 ^ 32 →
      t.getF GV_LEVEL_LEVEL u = min cap (s.getF GV_LEVEL_LEVEL u + cap / (s.getF GV_CFG_WINDOW_S u * 1000)))) ∧
    (∀ u d, s.ready = true → Does (.gvLevelWrite u d) s [GV_LEVEL_LEVEL.at_ u] [] (fun t =>
      t.getF GV_LEVEL_LEVEL u = min (d.toNat % 2 ^ 40) (s.getF GV_CFG_CAP u * 2 ^ 32)))

/-- Leases and liveness (R367 to R369). At the end of a period each valid entry that this block owns misses unless a packet renewed it, and an ALIVE one
becomes SUSPECT_DEAD at MISS_MAX, and no renewal counts for the next period; the job's view of DEAD against ALIVE, or of ALIVE against SUSPECT_DEAD, is DISPUTED with its record, and its
view of DEAD of a suspect is DEAD; the host's decision revives a DISPUTED or DEAD entry or ends a DISPUTED one as DEAD.
Some clauses rest on choices of the model: log entries 31 and 32. -/
def Obligations.LeasesAndLiveness : Prop :=
  ∀ (s : State),
    (s.inReset = false → s.flag LS_CFG_EN 0 = true → s.getF LS_CFG_PERIOD_US 0 ≤ s.leases.ticks →
      Does .leasePeriodEnd s (formSpots ++ tenantIrqSpots ++ [LS_ENT_MISSES.all, LS_ENT_STATE.all]) ([.leases, .mtx, .out] ++ formParts)
        (fun t => t.leases.ticks = 0 ∧ ∀ i < 256, smGet false t.leases.renewed i = false ∧
          (s.homeValid i = false ∨ s.standby i = true → t.getReg .LS_ENT i = s.getReg .LS_ENT i) ∧
          (s.homeValid i = true → s.standby i = false → smGet false s.leases.renewed i = true → t.getReg .LS_ENT i = s.getReg .LS_ENT i) ∧
          (s.homeValid i = true → s.standby i = false → smGet false s.leases.renewed i = false → ∀ n, n = min (s.getF LS_ENT_MISSES i + 1) 255 →
            t.getF LS_ENT_MISSES i = n ∧
            (s.liveness i = 1 → s.getF LS_CFG_MISS_MAX 0 ≤ n → t.liveness i = 2) ∧
            (s.liveness i ≠ 1 ∨ n < s.getF LS_CFG_MISS_MAX 0 → t.liveness i = s.liveness i)))) ∧
    (∀ i d v st, s.ready = true → v = LS_ENT_VIEW.of d → LS_ENT_DECIDE.of d = 0 → v = 1 ∨ v = 2 → st = s.liveness i →
      (st = 0 → Idle (.lsView i d) s) ∧
      (st ≠ 0 → Does (.lsView i d) s (formSpots ++ tenantIrqSpots ++ [LS_ENT_STATE.at_ i, LS_ENT_JOB_VIEW.at_ i]) ([.mtx, .out] ++ formParts)
        (fun t => t.getF LS_ENT_JOB_VIEW i = v ∧
          t.liveness i = (if (st = 1 ∧ v = 2) ∨ (st = 2 ∧ v = 1) then 3 else if st = 2 then 4 else st) ∧
          ((st = 1 ∧ v = 2) ∨ (st = 2 ∧ v = 1) → forms s t (s.unitRec 0x41 1 1 (s.homeTenant i) 0x830D
            (leBytes 1 i ++ leBytes 1 st ++ leBytes 1 v ++ leBytes 1 (s.getF LS_ENT_MISSES i) ++ leBytes 4 0 ++
              leBytes 8 (smGet 0 s.leases.stamps i))))))) ∧
    (∀ i d v st, s.ready = true → v = LS_ENT_DECIDE.of d → LS_ENT_VIEW.of d = 0 → v ≠ 0 → st = s.liveness i →
      (v = 1 → st ∈ [3, 4] → Does (.lsDecide i d) s [LS_ENT_STATE.at_ i, LS_ENT_MISSES.at_ i, LS_ENT_JOB_VIEW.at_ i] [.mtx] (fun t =>
        t.liveness i = 1 ∧ t.getF LS_ENT_MISSES i = 0 ∧ t.getF LS_ENT_JOB_VIEW i = 1)) ∧
      (v = 2 → st = 3 → Does (.lsDecide i d) s [LS_ENT_STATE.at_ i, LS_ENT_JOB_VIEW.at_ i] [.mtx] (fun t =>
        t.liveness i = 4 ∧ t.getF LS_ENT_JOB_VIEW i = 2)) ∧
      ((v = 1 ∧ st ∉ [3, 4]) ∨ (v = 2 ∧ st ≠ 3) ∨ v = 3 → Idle (.lsDecide i d) s))

/-! ### Pairing (chapter 13) -/

/-- What the loss of a partner, a takeover and an admission may change. -/
def takeSpots : List Spot :=
  formSpots ++ irqSpots ++ [HT_CRED_CEPOCH.all, HT_CTL_PENDING.all, HT_STAT_LIMIT.all, HT_STAT_RECV.all, LS_ENT_EXPEL_SENT.all,
    LS_ENT_JOB_VIEW.all, LS_ENT_MISSES.all, LS_ENT_STATE.all, PR_STATUS_JOIN_READY.at_ 0, PR_STATUS_STATE.at_ 0, Reg.all .PR_TAKEN,
    Reg.all .TI_SEQVAL]

def takeParts : List Part := [.funnel, .mtx, .out, .pair] ++ formParts

/-- Home entry `i` is taken up (R386, R393): a new credit epoch, and the liveness and the view of the job that are given, with MISSES 0. -/
def takesUp (s t : State) (i live view : Nat) : Prop :=
  t.getF HT_CRED_CEPOCH i = (s.getF HT_CRED_CEPOCH i + 1) % 2 ^ HT_CRED_CEPOCH.width ∧ t.getF HT_STAT_LIMIT i = 0 ∧
  t.getF HT_STAT_RECV i = 0 ∧ t.getF LS_ENT_MISSES i = 0 ∧ t.getF LS_ENT_EXPEL_SENT i = (s.imgLive i).expelSent % 2 ∧
  t.liveness i = live ∧ t.getF LS_ENT_JOB_VIEW i = view

/-- The survivor takes over every valid standby entry, and no other (R386): with the liveness of the image, where OFF becomes ALIVE. -/
def takesOver (s t : State) : Prop :=
  ∀ i < 256, (s.homeValid i = true → s.standby i = true → t.arrBit .PR_TAKEN i = true ∧
      takesUp s t i (if (s.imgLive i).state = 0 then 1 else (s.imgLive i).state % 8)
        (if (s.imgLive i).state = 0 then 1 else (s.imgLive i).jobView % 4)) ∧
    (s.homeValid i = false ∨ s.standby i = false → t.arrBit .PR_TAKEN i = s.arrBit .PR_TAKEN i ∧ t.liveness i = s.liveness i)

/-- The pairing unit is OFF: only the failed lanes and the number of its snapshots are kept (R384). -/
def goesOff (s t : State) : Prop :=
  t.pairState = 0 ∧ t.getF PR_LINK_LANES 0 = 0 ∧ t.getF PR_STATUS_PEER_STATE 0 = 0 ∧ t.getF PR_STATUS_MISS_BOTH 0 = 0 ∧
  t.getF PR_STATUS_MISS_MIR 0 = 0 ∧ t.mtx = {} ∧ t.pair = { failedLanes := s.pair.failedLanes, snapNum := s.pair.snapNum }

/-- The header of a frame on the mirror link (R377): version 1, the kind, BLOCK_ID, PAIR_ID, the number of messages, the MSEQ of the first one,
the MSEQ that this block expects, and 16 reserved bytes. -/
def linkHeader (s : State) (kind nmsg mseq : Nat) : List Byte :=
  [1, BitVec.ofNat 8 kind] ++ leBytes 2 s.blockId ++ leBytes 2 (s.getF PR_CTL_PAIR_ID 0) ++ leBytes 2 nmsg ++ leBytes 4 mseq ++
    leBytes 4 s.pair.expect ++ List.replicate 16 0

/-- A mirror frame of this block with the messages `ms`, the first of MSEQ `n` (R377): each message with its kind. -/
def frameOf (s : State) (n : Nat) (ms : List MirMsg) : Out :=
  .mirrorFrame (linkHeader s 0x40 ms.length (n % 2 ^ 32)) (ms.map (fun m => (BitVec.ofNat 8 m.kind, m)))

/-- The frame of the messages that wait, with LEAVE behind them. -/
def leaveFrame (s : State) : Out := frameOf s (s.mtx.base.toNat + s.mtx.framed) (s.unframed.map (·.2) ++ s.mtx.extra ++ [.leave])

/-- What the opening of windows that R389 held back may change. -/
def heldSpots : List Spot := [WN_GEN_CUR.all, WN_GEN_NEXT.all, WN_STAT_STATE.all]

/-- Nothing holds a window back any more (R318, R389): each ACTIVE tenant with EN = 1 and no window opens its next one, and no other does. -/
def heldOpen (s t : State) : Prop :=
  ∀ u < 64, ∀ opens : Prop, (opens ↔ s.getF WN_STAT_STATE u = 0 ∧ s.getF TN_STATUS_STATE u = 1 ∧ s.flag WN_CFG_EN u = true) →
    (opens → t.getF WN_STAT_STATE u = 1 ∧ t.getF WN_GEN_CUR u = s.getF WN_GEN_NEXT u ∧
      t.getF WN_GEN_NEXT u = (if s.getF WN_GEN_NEXT u + 1 = 2 ^ 32 then 1 else s.getF WN_GEN_NEXT u + 1)) ∧
    (¬ opens → t.getF WN_STAT_STATE u = s.getF WN_STAT_STATE u ∧ t.getReg .WN_GEN u = s.getReg .WN_GEN u)

/-- The partner expects MSEQ `n` (R378): what lies before it is acknowledged and leaves the buffer, unless `n` names no message that was sent. -/
def acknowledges (s t : State) (n : Nat) : Prop :=
  ∀ k, k = (n + 2 ^ 32 - s.mtx.base.toNat) % 2 ^ 32 →
    (k ≤ s.mtx.framed → t.mtx.base = s.mtx.base + BitVec.ofNat 32 k ∧ t.mtx.framed = s.mtx.framed - k ∧
      t.mtx.unacked.map (·.2) = (s.mtx.unacked.drop k).map (·.2) ++ s.mtx.extra.take (4096 - (s.mtx.unacked.drop k).length) ∧
      t.mtx.extra = s.mtx.extra.drop (4096 - (s.mtx.unacked.drop k).length)) ∧
    (s.mtx.framed < k → t.mtx = s.mtx)

/-- What OFF clears. -/
def offSpots : List Spot :=
  [PR_STATUS_STATE.at_ 0, PR_STATUS_JOIN_READY.at_ 0, PR_LINK_LANES.at_ 0, PR_STATUS_PEER_STATE.at_ 0, PR_STATUS_MISS_BOTH.at_ 0,
    PR_STATUS_MISS_MIR.at_ 0]

/-- The 32 bytes of a BEAT with TX `tx` (R383): the epoch, the quality and the pairing state, JOIN_READY and LOCKED, the MSEQ expected, and the
exchange of R391: the partner's TX and how long it has been here. -/
def beatOf (s : State) (tx : Nat) : List Byte :=
  leBytes 8 tx ++ leBytes 2 s.epoch ++ [BitVec.ofNat 8 (s.quality + 16 * s.pairState),
    BitVec.ofNat 8 (s.getF PR_STATUS_JOIN_READY 0 + 2 * (if s.quality = 2 then 1 else 0))] ++ leBytes 4 s.pair.expect ++
  leBytes 8 s.pair.echo ++ leBytes 8 (if s.pair.echo = 0 then 0 else (s.shortNow + 2 ^ 64 - s.pair.echoAt) % 2 ^ 64)

/-- The host's commands to the pairing unit, its BEATs and its lanes (R376, R383 to R386, R391, R392). EN starts SEEKING on the lanes that work, and
before LOCK changes nothing but its register (the model's choice, log entry 57); EN = 0 sends LEAVE behind what waits and goes OFF, where no window is held back any more; YIELD belongs to DETACHED, TAKE to LOST without AUTO, ADMIT to
SERVING with a partner that is ready, and each is refused with REASON 1 elsewhere; LEAVE goes to the partner of a block that mirrors, and of one that
is SEEKING or DETACHED, where it leaves at once; a LOST block goes OFF, and only one that is OFF already refuses it. A BEAT
leaves on the mirror path, as a frame of KIND BEAT, and as a PAIR_BEAT packet from TI_ADDR to the partner.
Some clauses rest on choices of the model: log entries 61 and 65. -/
def Obligations.PairingCommands : Prop :=
  ∀ (s : State),
    (∀ d new, s.ready = true → PR_CTL_EN.of d = 1 → new = storeFields false d allBits Reg.PR_CTL.fields (s.getReg .PR_CTL 0) →
      (s.pairState = 0 → s.locked = true → Does (.pairEnable d) s [Reg.at_ .PR_CTL 0, PR_STATUS_STATE.at_ 0, PR_STATUS_JOIN_READY.at_ 0,
          PR_LINK_LANES.at_ 0] [] (fun t => t.pairState = 1 ∧ t.getReg .PR_CTL 0 = new ∧ t.getF PR_LINK_LANES 0 =
            (if s.flag MYB_BIST_STAT_BUSY 0 then 0 else 3 - s.pair.failedLanes % 4))) ∧
      (s.pairState = 0 → s.locked = false → Does (.pairEnable d) s [Reg.at_ .PR_CTL 0] [] (fun t =>
        t.pairState = 0 ∧ t.getReg .PR_CTL 0 = new)) ∧
      (s.pairState ≠ 0 → Does (.pairEnable d) s [PR_CTL_EN.at_ 0] [] (fun t => t.flag PR_CTL_EN 0 = true))) ∧
    (∀ d, s.ready = true → PR_CTL_EN.of d = 0 →
      (s.pairState = 0 → Does (.pairDisable d) s [Reg.at_ .PR_CTL 0] [] (fun t => t.getReg .PR_CTL 0 =
        storeFields false d allBits Reg.PR_CTL.fields (s.getReg .PR_CTL 0))) ∧
      (s.pairState ≠ 0 → Does (.pairDisable d) s (PR_CTL_EN.at_ 0 :: offSpots ++ heldSpots) [.mtx, .out, .pair, .win] (fun t =>
        goesOff s t ∧ heldOpen s t ∧ t.flag PR_CTL_EN 0 = false ∧ (s.mirrorUp = false → t.out = s.out) ∧
        (s.mirrorUp = true → s.unframed.length + s.mtx.extra.length < 280 → t.out = s.out ++ [leaveFrame s])))) ∧
    (∀ d, s.ready = true → PR_CMD_LEAVE.of d = 1 → PR_CMD_YIELD.of d = 0 → PR_CMD_TAKE.of d = 0 → PR_CMD_ADMIT.of d = 0 →
      (s.mirrors = true → Does (.prLeave d) s [] [.mtx] (fun t => s.mtx.unacked.length < 4096 → s.mtx.extra = [] →
        t.mtx = { s.mtx with unacked := s.mtx.unacked ++ [(s.rawNow, .leave)] })) ∧
      (s.pairState = 1 ∨ s.pairState = 3 → Does (.prLeave d) s [] [.out] (fun t => (s.mirrorUp = false → t.out = s.out) ∧
        (s.mirrorUp = true → s.unframed.length + s.mtx.extra.length < 280 → t.out = s.out ++ [leaveFrame s]))) ∧
      (s.pairState = 4 → Does (.prLeave d) s (offSpots ++ heldSpots) [.mtx, .pair, .win] (fun t => goesOff s t ∧ heldOpen s t)) ∧
      (s.mirrors = false → s.pairState ∉ [1, 3, 4] → Does (.prLeave d) s [PR_STATUS_REASON.at_ 0] [] (fun t => t.getF PR_STATUS_REASON 0 = 1))) ∧
    (∀ d, s.ready = true → PR_CMD_LEAVE.of d = 0 → PR_CMD_YIELD.of d = 1 → PR_CMD_TAKE.of d = 0 → PR_CMD_ADMIT.of d = 0 →
      (s.pairState = 3 → Does (.prYield d) s [PR_STATUS_STATE.at_ 0, PR_STATUS_JOIN_READY.at_ 0] [.mtx, .pair] (fun t =>
        t.pairState = 5 ∧ t.pair.yielded = true ∧ t.pair.asked = 1 ∧ t.pair.complete = 0 ∧ t.pair.expect = 0 ∧ t.mtx = {})) ∧
      (s.pairState ≠ 3 → Does (.prYield d) s [PR_STATUS_REASON.at_ 0] [] (fun t => t.getF PR_STATUS_REASON 0 = 1))) ∧
    (∀ d, s.ready = true → PR_CMD_LEAVE.of d = 0 → PR_CMD_YIELD.of d = 0 → PR_CMD_TAKE.of d = 1 → PR_CMD_ADMIT.of d = 0 →
      (s.pairState = 4 → s.flag PR_CTL_AUTO 0 = false → Does (.prTake d) s takeSpots takeParts (fun t =>
        takesOver s t ∧ t.pairState = 4 ∧ t.arrBit .IRQ_PEND 6 = true)) ∧
      (s.pairState ≠ 4 ∨ s.flag PR_CTL_AUTO 0 = true → Does (.prTake d) s [PR_STATUS_REASON.at_ 0] [] (fun t =>
        t.getF PR_STATUS_REASON 0 = 1))) ∧
    (∀ d, s.ready = true → PR_CMD_LEAVE.of d = 0 → PR_CMD_YIELD.of d = 0 → PR_CMD_TAKE.of d = 0 → PR_CMD_ADMIT.of d = 1 →
      (s.pairState = 6 → s.pair.peerReady = true → s.pair.admitAt = none → Does (.prAdmit d) s [] [.mtx, .pair] (fun t =>
        t.pair.admitAt = some ⟨s.now16 + s.getF PR_CTL_ADMIT_LEAD 0 * microsecond16, s.epoch⟩)) ∧
      (s.pairState ≠ 6 ∨ s.pair.peerReady = false ∨ s.pair.admitAt ≠ none → Does (.prAdmit d) s [PR_STATUS_REASON.at_ 0] [] (fun t =>
        t.getF PR_STATUS_REASON 0 = 1))) ∧
    (s.inReset = false → s.pairState ≠ 0 → Does .beatSend s [PR_STATUS_JOIN_READY.at_ 0] [.out] (fun t =>
      t.getF PR_STATUS_JOIN_READY 0 = s.joinReady.toNat ∧
      t.out = s.out ++ (if s.mirrorUp then [.mirrorBeat (linkHeader s 0x41 1 0 ++ beatOf t s.shortNow)] else []) ++
        [.pairBeat (s.getF PR_PEER_PEER_ADDR 0) (s.getF TI_ADDR_ADDR 0) (beatOf t 0)])) ∧
    (s.mirrorUp = true ↔ s.getF PR_LINK_LANES 0 ≠ 0 ∧ s.flag MYB_BIST_STAT_BUSY 0 = false) ∧
    (∀ lane, s.inReset = false → s.pairState ≠ 0 → lane < 2 → s.pair.failedLanes / 2 ^ lane % 2 = 0 →
      Does (.mirrorLaneFailure lane) s (formSpots ++ irqSpots ++ [MYB_CAPS_MIRROR_LANES_OK.at_ 0, PR_LINK_LANES.at_ 0])
        ([.board, .out, .pair] ++ formParts) (fun t => t.pair.failedLanes = s.pair.failedLanes + 2 ^ lane ∧
          t.getF PR_LINK_LANES 0 = (if s.flag MYB_BIST_STAT_BUSY 0 then 0 else 3 - (s.pair.failedLanes + 2 ^ lane) % 4) ∧
          t.getF MYB_CAPS_MIRROR_LANES_OK 0 = s.getF MYB_CAPS_MIRROR_LANES_OK 0 - (if (.mirrorLane, lane) ∈ s.board.fallen then 0 else 1) ∧ t.arrBit .IRQ_PEND 6 = true))

/-- The command `c` is the arrival of the message. -/
def arrives (c : Instr) : MirMsg → Prop
  | .time offset incr epoch quality effect => c = .mirrorTime offset incr epoch quality effect
  | .scAdd n a e => c = .mirrorScAdd n a e
  | .ledger u st pass next pbase epoch b => c = .mirrorLedger u st pass next pbase epoch b
  | .window u cur next cfg => c = .mirrorWindow u cur next cfg
  | .tenant u st cfg stream r => c = .mirrorTenant u st cfg stream r
  | .home i addr cred live view sent w => c = .mirrorHome i addr cred live view sent w
  | .govCharge u tokens spares => c = .mirrorGovCharge u tokens spares
  | .govState u level spare => c = .mirrorGovState u level spare
  | .soft offset lo hi => c = .mirrorSoft offset lo hi
  | .snapBegin n => c = .mirrorSnapBegin n
  | .snapEnd n count => c = .mirrorSnapEnd n count
  | .admission i epoch => c = .mirrorAdmit i epoch
  | .scState n value exp flags lost => c = .mirrorScState n value exp flags lost
  | .leave => c = .mirrorLeave

/-- What the message names exists. -/
abbrev inRange : MirMsg → Prop
  | .scAdd n _ _ | .scState n _ _ _ _ => n < 16384
  | .ledger u _ _ _ _ _ _ | .window u _ _ _ | .tenant u _ _ _ _ | .govCharge u _ _ | .govState u _ _ => u < 64
  | .home i _ _ _ _ _ _ => i < 256
  | .soft offset _ _ => offset % 16 = 0 ∧ offset < 4096
  | _ => True

/-- The messages are taken one after the other (R378): each as the command of its arrival. -/
def takenInOrder : List MirMsg → State → State → Prop
  | [], s, t => t = s
  | m :: ms, s, t => ∃ c u, arrives c m ∧ exec c s = .next u ∧ takenInOrder ms u t

/-- Heartbeats and mirror frames (R376 to R378, R383 to R386). A BEAT that does not name this pair is discarded, and counted on the mirror path; a
valid one clears the misses, acknowledges, and moves SEEKING, DETACHED and LOST as the partner's state says; a pair that becomes whole from SEEKING
has no entry taken over (the model's choice, log entry 57). A period without BEATs counts; at 16 of
both paths the partner is lost, or a JOINING block is SEEKING again; at 16 of the mirror path a PAIRED block is DETACHED. A frame closes when it
is full or due and is retransmitted after 4 microseconds. A frame that is received acknowledges, its messages are taken when they come in order
and discarded otherwise; one that is no frame of this link or not of this pair is discarded and counted; DETACHED takes LEAVE alone.
Some clauses rest on choices of the model: log entry 61. -/
def Obligations.HeartbeatsAndFrames : Prop :=
  ∀ (s : State), s.inReset = false →
    (∀ b, s.pairState ≠ 0 → (b.mirror = true → s.mirrorUp = true) →
      ∀ valid : Prop, (valid ↔ b.pairId = s.getF PR_CTL_PAIR_ID 0 ∧ b.blockId = s.getF PR_PEER_PEER_ID 0) →
      (¬ valid → b.mirror = true → Does (.beatReceive b) s [PR_LINK_DISCARD.at_ 0] [] (fun t =>
        t.getF PR_LINK_DISCARD 0 = (s.getF PR_LINK_DISCARD 0 + 1) % 2 ^ 16)) ∧
      (¬ valid → b.mirror = false → Idle (.beatReceive b) s) ∧
      (valid → Does (.beatReceive b) s (irqSpots ++ [PR_DELAY_D.at_ 0, PR_DELAY_OFS.at_ 0, PR_STATUS_JOIN_READY.at_ 0, PR_STATUS_MISS_BOTH.at_ 0,
          PR_STATUS_MISS_MIR.at_ 0, PR_STATUS_PEER_STATE.at_ 0, PR_STATUS_REASON.at_ 0, PR_STATUS_STATE.at_ 0, Reg.all .PR_TAKEN, TB_REJ_REASON.at_ 0,
          TB_REJ_REJ.at_ 0, TB_REJ_REJ_COUNT.at_ 0, TB_STATUS_PENDING.at_ 0, TB_STATUS_PENDING_STEP.at_ 0]) [.mtx, .out, .pair, .time]
        (fun t => t.getF PR_STATUS_MISS_BOTH 0 = 0 ∧ t.getF PR_STATUS_PEER_STATE 0 = b.state % 16 ∧
          (b.mirror = true → t.getF PR_STATUS_MISS_MIR 0 = 0 ∧ t.pair.seenMirror = true ∧ t.pair.echo = b.tx ∧ t.pair.echoAt = b.receipt) ∧
          (b.mirror = false → t.getF PR_STATUS_MISS_MIR 0 = s.getF PR_STATUS_MISS_MIR 0 ∧ t.pair.seenFabric = true) ∧
          (s.pairState = 1 → b.state = 1 → t.pairState = 2 ∧ t.mtx = {} ∧ t.pair.expect = 0 ∧ ∀ i < 4, t.getReg .PR_TAKEN i = 0) ∧
          (s.pairState ≠ 1 ∨ b.state ≠ 1 → ∀ i, t.getReg .PR_TAKEN i = s.getReg .PR_TAKEN i) ∧
          (s.pairState = 1 → b.state = 4 ∨ ((b.state = 2 ∨ b.state = 3) ∧ s.pair.yielded = true) → t.pairState = 5 ∧ t.mtx = {}) ∧
          (s.pairState = 1 → b.state ∉ [1, 4] → (b.state ∉ [2, 3] ∨ s.pair.yielded = false) → t.pairState = 1) ∧
          (s.pairState ∈ [3, 4] → b.state = 5 → t.pairState = 6 ∧ t.pair.snapNum = s.pair.snapNum + 1) ∧
          (s.pairState ∈ [3, 4] → b.state ≠ 5 → t.pairState = s.pairState) ∧
          (s.pairState ∉ [1, 3, 4] → t.pairState = s.pairState) ∧ (s.pairState ∈ [2, 5, 6] → acknowledges s t b.ack)))) ∧
    (∀ mm mb, s.pairState ≠ 0 →
      mm = (if s.pair.seenMirror then s.getF PR_STATUS_MISS_MIR 0 else min (s.getF PR_STATUS_MISS_MIR 0 + 1) 63) →
      mb = (if s.pair.seenMirror || s.pair.seenFabric then s.getF PR_STATUS_MISS_BOTH 0 else min (s.getF PR_STATUS_MISS_BOTH 0 + 1) 63) →
      (mb < 16 → (s.pairState = 2 → mm < 16) → Does .beatPeriodEnd s [PR_LINK_MISSED.at_ 0, PR_STATUS_MISS_BOTH.at_ 0, PR_STATUS_MISS_MIR.at_ 0]
        [.pair] (fun t => t.getF PR_STATUS_MISS_MIR 0 = mm ∧ t.getF PR_STATUS_MISS_BOTH 0 = mb ∧
          t.pair = { s.pair with seenMirror := false, seenFabric := false })) ∧
      Does .beatPeriodEnd s (takeSpots ++ heldSpots ++ [PR_LINK_MISSED.at_ 0, PR_STATUS_MISS_BOTH.at_ 0, PR_STATUS_MISS_MIR.at_ 0]) takeParts (fun t =>
        t.getF PR_STATUS_MISS_MIR 0 = mm ∧ t.getF PR_STATUS_MISS_BOTH 0 = mb ∧
        t.pair.seenMirror = false ∧ t.pair.seenFabric = false ∧
        t.getF PR_LINK_MISSED 0 = (s.getF PR_LINK_MISSED 0 + if s.pair.seenMirror || s.pair.seenFabric then 0 else 1) % 2 ^ 16 ∧
        (16 ≤ mb → s.pairState ∈ [2, 3, 6] → t.pairState = 4 ∧ t.mtx = {} ∧ t.arrBit .IRQ_PEND 6 = true ∧
          (s.flag PR_CTL_AUTO 0 = true → takesOver s t) ∧ (s.flag PR_CTL_AUTO 0 = false → ∀ i, t.getReg .PR_TAKEN i = s.getReg .PR_TAKEN i)) ∧
        (16 ≤ mb → s.pairState = 5 → t.pairState = 1 ∧ t.mtx = {} ∧ heldOpen s t) ∧
        (16 ≤ mb → s.pairState ∉ [2, 3, 5, 6] → t.pairState = s.pairState) ∧
        (mb < 16 → s.pairState = 2 → 16 ≤ mm → t.pairState = 3 ∧ t.mtx = {}))) ∧
    (s.frameDue = true → Does .mirrorFrameClose s [] [.mtx, .out] (fun t =>
      t.out = s.out ++ (if s.mirrorUp then [frameOf s (s.mtx.base.toNat + s.mtx.framed) ((s.unframed.take 280).map (·.2))] else []) ∧
      t.mtx = { s.mtx with framed := s.mtx.framed + min 280 s.unframed.length })) ∧
    (s.frameDue = false → Idle .mirrorFrameClose s) ∧
    (s.retransmitDue = true → Does .mirrorRetransmit s [PR_LINK_RETX.at_ 0] [.mtx, .out] (fun t =>
      t.getF PR_LINK_RETX 0 = (s.getF PR_LINK_RETX 0 + 1) % 2 ^ 16 ∧ t.mtx.unacked.map (·.2) = s.mtx.unacked.map (·.2) ∧
      t.mtx.framed = s.mtx.framed ∧ (s.mtx.framed ≤ 280 → s.mirrorUp = true → t.out = s.out ++ [frameOf s s.mtx.base.toNat
        ((s.mtx.unacked.take s.mtx.framed).map (·.2))]))) ∧
    (∀ fr, s.pairState ≠ 0 → s.mirrorUp = true → ∀ valid : Prop,
      (valid ↔ fr.etherType = 0x88B5 ∧ fr.tagged = false ∧ fr.bytes ≤ 9216 ∧ fr.pairId = s.getF PR_CTL_PAIR_ID 0 ∧
        fr.blockId = s.getF PR_PEER_PEER_ID 0) →
      (¬ valid → Does (.mirrorFrameReceive fr) s [PR_LINK_DISCARD.at_ 0] [] (fun t =>
        t.getF PR_LINK_DISCARD 0 = (s.getF PR_LINK_DISCARD 0 + 1) % 2 ^ 16)) ∧
      (valid → s.mirrors = false → s.pairState ≠ 3 ∨ .leave ∉ fr.msgs → Idle (.mirrorFrameReceive fr) s) ∧
      (valid → s.pairState = 3 → .leave ∈ fr.msgs → Does (.mirrorFrameReceive fr) s takeSpots takeParts (fun t => t.pairState = 4 ∧ t.mtx = {} ∧
        (s.flag PR_CTL_AUTO 0 = true → takesOver s t))) ∧
      (valid → s.mirrors = true → (∀ j < fr.msgs.length, (fr.mseq + j) % 2 ^ 32 ≠ s.pair.expect) →
        Does (.mirrorFrameReceive fr) s [] [.mtx] (fun t => acknowledges s t fr.ack)) ∧
      (valid → s.mirrors = true → fr.mseq % 2 ^ 32 = s.pair.expect → (∀ m ∈ fr.msgs, inRange m) → .leave ∉ fr.msgs →
        ∃ s1 t, exec (.mirrorFrameReceive fr) s = .next t ∧ Only [] [.mtx] s s1 ∧ acknowledges s s1 fr.ack ∧ takenInOrder fr.msgs s1 t ∧
          t.pair.expect = (s.pair.expect + fr.msgs.length) % 2 ^ 32) ∧
      (valid → s.mirrors = true → fr.mseq % 2 ^ 32 = s.pair.expect → fr.msgs = [.leave] →
        ∃ s1 t, exec (.mirrorFrameReceive fr) s = .next t ∧ Only [] [.mtx] s s1 ∧ acknowledges s s1 fr.ack ∧ takenInOrder [.leave] s1 t))

/-- The message of the next MSEQ is applied (R378). -/
def applied (s t : State) : Prop :=
  t.getF PR_STATUS_APPLIED 0 = s.pair.expect % 2 ^ 32 ∧ t.pair.expect = (s.pair.expect + 1) % 2 ^ 32

/-- A message in order that changes APPLIED and the pairing unit alone, which becomes `p` but for the MSEQ that it expects. -/
def notes (c : Instr) (s : State) (p : PairUnit) : Prop :=
  Does c s [PR_STATUS_APPLIED.at_ 0] [.pair] (fun t => applied s t ∧ t.pair = { p with expect := (s.pair.expect + 1) % 2 ^ 32 })

/-- The partner image with the tenant `u` replaced. -/
def withTen (s : State) (u : Nat) (x : ImgTen) : PairUnit :=
  { s.pair with image := { s.pair.image with tens := smSet {} s.pair.image.tens u x } }

/-- The partner image with the liveness of entry `i` replaced. -/
def withLive (s : State) (i : Nat) (x : ImgLive) : PairUnit :=
  { s.pair with image := { s.pair.image with lives := smSet {} s.pair.image.lives i x } }

/-- What an admission may change. -/
def admissionSpots : List Spot := takeSpots ++ heldSpots

/-- The pair is whole again (R392, R393): PAIRED with no instant set and no entry taken over (log entry 57); the SERVING block hands every entry back, the JOINING one takes up the
entries that it owns with the liveness of the image as it is, and opens the windows that were held back with the partner's generation. -/
def admitted (s t : State) : Prop :=
  t.pairState = 2 ∧ t.pair.admitAt = none ∧ t.pair.yielded = false ∧ t.arrBit .IRQ_PEND 6 = true ∧
  (∀ i, i < 4 → t.getReg .PR_TAKEN i = 0) ∧
  (s.pairState = 5 → (∀ i < 256, s.homeValid i = true → s.arrBit .PR_OWN i = false →
      takesUp s t i ((s.imgLive i).state % 8) ((s.imgLive i).jobView % 4)) ∧
    (∀ u < 64, s.flag PR_TEN_WIN_MIRROR u = true → s.getF WN_STAT_STATE u = 0 → s.getF TN_STATUS_STATE u = 1 → s.flag WN_CFG_EN u = true →
      t.getF WN_STAT_STATE u = 1 ∧ t.getF WN_GEN_CUR u = (if (s.imgTen u).cur ≠ 0 then (s.imgTen u).cur else
        if (s.imgTen u).next ≠ 0 then (s.imgTen u).next else s.getF WN_GEN_NEXT u) % 2 ^ 32))

/-- Mirror messages in order (R379 to R382, R386, R390 to R393). What the partner reports of its time, ledgers, windows, tenants, liveness, governor
and software page is held in the image with its MSEQ; adds and charges are applied; home entries follow outside a snapshot, where a write starts a new
credit epoch and a message that would create a duplicate is discarded whole; governor levels and counters are loaded within one, and an add or a
load completes the waits that it satisfies; a partition is sent afresh when the partner requests it; a ledger that waits starts at the partner's
next step boundary (a LEDGER says whether it is of one, a TENANT whether it requests, a HOME whether it is of a write: the model's choice, log
entry 99); ADMIT is acted on at its instant, or at once and LATE;
LEAVE loses the partner, but not for a JOINING block, and is all that a DETACHED block takes.
Some clauses rest on choices of the model: log entries 33, 34, 57, 58 and 99. -/
def Obligations.MirrorMessages : Prop :=
  (∀ s, s.inReset = false → s.pairState = 3 → Does .mirrorLeave s takeSpots takeParts (fun t => t.pairState = 4 ∧ t.mtx = {} ∧
    (s.flag PR_CTL_AUTO 0 = true → takesOver s t) ∧ (s.flag PR_CTL_AUTO 0 = false → ∀ i, t.getReg .PR_TAKEN i = s.getReg .PR_TAKEN i))) ∧
  (∀ s c m, s.mirrors = false → arrives c m → m ≠ .leave ∨ s.pairState ≠ 3 → Idle c s) ∧
  ∀ (s : State) (n : Nat), s.inReset = false → s.mirrors = true → n = s.pair.expect →
    (∀ o i e q x, notes (.mirrorTime o i e q x) s
      { s.pair with image := { s.pair.image with time := { offset := o, incr := i, epoch := e, quality := q, mseq := n } } }) ∧
    (∀ c a e, c < 16384 → Does (.mirrorScAdd c a e) s (PR_STATUS_APPLIED.at_ 0 :: CX_STATUS_STATE.all :: SC_EXP_EXP.at_ c :: addSpots c)
      [.pair, .ctxs, .out] (fun t => applied s t ∧ added s t c a ∧ t.getF SC_EXP_EXP c = (s.getF SC_EXP_EXP c + e) % 2 ^ SC_EXP_EXP.width ∧
        (0 < a → s.flag SC_COUNT_POISONED c = false → evaluated s t none c) ∧
        (a = 0 ∨ s.flag SC_COUNT_POISONED c = true → ∀ d, t.cxState d = s.cxState d ∧ t.ctx d = s.ctx d))) ∧
    (∀ u st pass next pbase ep boundary y, u < 64 →
      y = { s.imgTen u with lgState := st, pass := pass, lgNext := next, pbase := pbase, epoch := ep, mseq := n } →
      (u ∉ s.pair.started ∨ boundary = false → notes (.mirrorLedger u st pass next pbase ep boundary) s (withTen s u y)) ∧
      (u ∈ s.pair.started → boundary = true → s.lgState u ≠ 1 → notes (.mirrorLedger u st pass next pbase ep boundary) s
        { withTen s u y with started := s.pair.started.filter (fun v => decide (v ≠ u)) }) ∧
      (u ∈ s.pair.started → boundary = true → s.lgState u = 1 → Does (.mirrorLedger u st pass next pbase ep boundary) s
        (PR_STATUS_APPLIED.at_ 0 :: ledgerSpots u ++ [Reg.at_ .LG_CURSOR u, Reg.at_ .LG_PBASE_LO u, Reg.at_ .LG_PBASE_HI u])
        [.pair, .ledgers, .mtx] (fun t => applied s t ∧ t.lgState u = 2 ∧ t.imgTen u = y ∧ u ∉ t.pair.started ∧ (t.ledger u).ents = [] ∧
          (t.ledger u).pf = s.getF LG_LEN_LOOP_FIRST u ∧ (t.ledger u).from_ = s.getF LG_LEN_LOOP_FIRST u ∧
          t.getF LG_CURSOR_PASS u = pass % 2 ^ LG_CURSOR_PASS.width ∧ t.getF LG_CURSOR_NEXT u = s.getF LG_LEN_LOOP_FIRST u ∧
          t.getReg .LG_PBASE_LO u = BitVec.ofNat 64 (unitsOf pbase % (1000000000 * 65536)) ∧
          t.getF LG_PBASE_HI_EPOCH u = ep % 2 ^ LG_PBASE_HI_EPOCH.width))) ∧
    (∀ u cur next cfg, u < 64 → notes (.mirrorWindow u cur next cfg) s
      (withTen s u { s.imgTen u with cur := cur, next := next, wnCfg := cfg, mseq := n })) ∧
    (∀ u st cfg stream request y, u < 64 → y = { s.imgTen u with state := st, tnCfg := cfg, stream := stream, mseq := n } → ∀ asks : Prop,
      (asks ↔ request = true ∧ s.flag PR_TEN_SC_MIRROR u = true ∧ (s.pairState = 2 ∨ s.pairState = 6)) →
      (¬ asks → notes (.mirrorTenant u st cfg stream request) s (withTen s u y)) ∧
      (asks → Does (.mirrorTenant u st cfg stream request) s [PR_STATUS_APPLIED.at_ 0] [.pair, .mtx] (fun t => applied s t ∧ t.imgTen u = y ∧
        t.pair.snapNum = s.pair.snapNum + 1 ∧
        (s.mtx.extra = [] → s.mtx.unacked.length + (s.counters u).length + 2 ≤ 4096 → t.mtx.unacked.map (·.2) = s.mtx.unacked.map (·.2) ++
          [.snapBegin (s.pair.snapNum + 1)] ++ (s.counters u).map (fun k => .scState k (s.getF SC_COUNT_VALUE k) (s.getF SC_EXP_EXP k)
            (s.counterFlags k) (s.getF SC_AUX_LOST k)) ++ [.snapEnd (s.pair.snapNum + 1) ((s.counters u).length + 2)])))) ∧
    (∀ i addr cred live view sent written x, i < 256 → x = { state := live, jobView := view, expelSent := sent, mseq := n } →
      (s.pair.inSnap = true → notes (.mirrorHome i addr cred live view sent written) s (withLive s i x)) ∧
      (s.pair.inSnap = false → addr ≠ s.getReg .HT_ADDR i → s.duplicates i addr = true →
        notes (.mirrorHome i addr cred live view sent written) s s.pair) ∧
      (s.pair.inSnap = false → addr = s.getReg .HT_ADDR i ∨ s.duplicates i addr = false → Does (.mirrorHome i addr cred live view sent written) s
        [PR_STATUS_APPLIED.at_ 0, Reg.at_ .HT_ADDR i, HT_CRED_CEPOCH.at_ i, HT_CRED_DEPTH.at_ i, HT_CRED_RATE.at_ i, HT_CTL_PENDING.at_ i,
          HT_STAT_LIMIT.at_ i, HT_STAT_RECV.at_ i, LS_ENT_STATE.at_ i, LS_ENT_MISSES.at_ i, LS_ENT_EXPEL_SENT.at_ i, LS_ENT_LAST.at_ i,
          LS_ENT_JOB_VIEW.at_ i, Reg.all .TI_SEQVAL] [.pair, .funnel, .leases] (fun t => applied s t ∧ t.imgLive i = x ∧
            t.getReg .HT_ADDR i = addr ∧ t.getF HT_CRED_DEPTH i = HT_CRED_DEPTH.of cred ∧ t.getF HT_CRED_RATE i = HT_CRED_RATE.of cred ∧
            (addr ≠ s.getReg .HT_ADDR i → t.getF HT_CRED_CEPOCH i = (s.getF HT_CRED_CEPOCH i + 1) % 2 ^ HT_CRED_CEPOCH.width ∧
              t.getF HT_STAT_RECV i = 0 ∧ t.liveness i = HT_ADDR_VALID.of addr ∧
              (HT_ADDR_VALID.of addr = 0 → smGet false t.leases.renewed i = false)) ∧
            (addr = s.getReg .HT_ADDR i ∨ HT_ADDR_VALID.of addr = 1 → t.leases = s.leases) ∧
            (addr = s.getReg .HT_ADDR i → t.getReg .LS_ENT i = s.getReg .LS_ENT i ∧
              (written = true → t.getF HT_CRED_CEPOCH i = (s.getF HT_CRED_CEPOCH i + 1) % 2 ^ HT_CRED_CEPOCH.width ∧ t.getF HT_STAT_RECV i = 0 ∧
                t.getF HT_STAT_LIMIT i = 0) ∧
              (written = false → t.getF HT_CRED_CEPOCH i = s.getF HT_CRED_CEPOCH i ∧ t.getF HT_STAT_RECV i = s.getF HT_STAT_RECV i))))) ∧
    (∀ u k p, u < 64 → Does (.mirrorGovCharge u k p) s [PR_STATUS_APPLIED.at_ 0, GV_LEVEL_LEVEL.at_ u, GV_SPARE_SPARE.at_ u] [.pair] (fun t =>
      applied s t ∧ t.getF GV_LEVEL_LEVEL u = s.getF GV_LEVEL_LEVEL u - k * 2 ^ 32 ∧ t.getF GV_SPARE_SPARE u = s.getF GV_SPARE_SPARE u - p)) ∧
    (∀ u level spare y, u < 64 → y = { s.imgTen u with level := level, spare := spare, mseq := n } → ∀ loads : Prop,
      (loads ↔ s.pairState = 5 ∧ s.pair.inSnap = true ∧ s.flag PR_TEN_GOV_MIRROR u = true) →
      (¬ loads → notes (.mirrorGovState u level spare) s (withTen s u y)) ∧
      (loads → Does (.mirrorGovState u level spare) s [PR_STATUS_APPLIED.at_ 0, GV_LEVEL_LEVEL.at_ u, GV_SPARE_SPARE.at_ u] [.pair] (fun t =>
        applied s t ∧ t.imgTen u = y ∧ t.getF GV_LEVEL_LEVEL u = level % 2 ^ 40 ∧ t.getF GV_SPARE_SPARE u = spare % 2 ^ 16))) ∧
    (∀ o lo hi, o % 16 = 0 → o < 4096 → notes (.mirrorSoft o lo hi) s
      { s.pair with image := { s.pair.image with soft := smSet 0 (smSet 0 s.pair.image.soft (o / 8) lo) (o / 8 + 1) hi } }) ∧
    (∀ k, notes (.mirrorSnapBegin k) s { s.pair with inSnap := true }) ∧
    (∀ k count, Does (.mirrorSnapEnd k count) s [PR_STATUS_APPLIED.at_ 0, PR_STATUS_JOIN_READY.at_ 0] [.pair] (fun t => applied s t ∧
      t.pair.inSnap = false ∧ t.pair.complete = s.pair.complete + 1 ∧ t.flag PR_STATUS_JOIN_READY 0 = t.joinReady)) ∧
    (∀ c v e f l, c < 16384 → ∀ loads : Prop,
      (loads ↔ (s.pairState = 5 ∨ s.pair.complete < s.pair.asked) ∧ s.counterActive c = true) →
      (¬ loads → notes (.mirrorScState c v e f l) s s.pair) ∧
      (loads → Does (.mirrorScState c v e f l) s (irqSpots ++ [PR_STATUS_APPLIED.at_ 0, Reg.at_ .SC_COUNT c, Reg.at_ .SC_EXP c,
          Reg.at_ .SC_AUX c, SC_WCFG_STATE.all, Reg.all .SC_WPEND, CX_STATUS_STATE.all]) [.pair, .ctxs, .out] (fun t => applied s t ∧
        evaluated s t none c ∧
        t.getF SC_COUNT_VALUE c = v % 2 ^ SC_COUNT_VALUE.width ∧ t.getF SC_EXP_EXP c = e % 2 ^ SC_EXP_EXP.width ∧
        t.getF SC_AUX_LOST c = l % 2 ^ SC_AUX_LOST.width ∧ t.flag SC_COUNT_POISONED c = false ∧ t.counterFlags c = f % 32))) ∧
    (∀ i ep, (s.pairState ≠ 5 → notes (.mirrorAdmit i ep) s s.pair) ∧
      (s.pairState = 5 → s.running = false ∨ s.now16 ≤ unitsOf i → notes (.mirrorAdmit i ep) s { s.pair with admitAt := some ⟨unitsOf i, ep⟩ }) ∧
      (s.pairState = 5 → s.running = true → unitsOf i < s.now16 → Does (.mirrorAdmit i ep) s
        (admissionSpots ++ [PR_STATUS_APPLIED.at_ 0, PR_STATUS_ADMIT_LATE.at_ 0]) takeParts (fun t => applied s t ∧
          t.flag PR_STATUS_ADMIT_LATE 0 = true ∧ admitted s t))) ∧
    (s.pairState = 5 → notes .mirrorLeave s s.pair) ∧
    (s.pairState ≠ 5 → Does .mirrorLeave s (PR_STATUS_APPLIED.at_ 0 :: takeSpots) takeParts (fun t => applied s t ∧ t.pairState = 4 ∧
      t.mtx = {} ∧ t.pair.admitAt = none ∧ (s.flag PR_CTL_AUTO 0 = true → takesOver s t) ∧
      (s.flag PR_CTL_AUTO 0 = false → ∀ i, t.getReg .PR_TAKEN i = s.getReg .PR_TAKEN i))) ∧
    (∀ i, s.admitDue = some i → Does .admissionInstant s admissionSpots takeParts (fun t => admitted s t)) ∧
    (s.admitDue = none → Idle .admissionInstant s) ∧
    (∀ i, s.admitDue = some i ↔ s.pair.admitAt = some i ∧ (s.pairState = 5 ∨ s.pairState = 6) ∧ s.running = true ∧ i.at_ ≤ s.now16)

/-! ### The boundary (chapter 14) -/

/-- Reset, READY and the reference clock (R399, R400, R403 to R405). Power-off, the pin and MYB_CTRL hold block reset with their cause, and the time
bus goes dead, no gate holds a queue, and PM_DRAW shows 24, or 0 without power; the reset is held while either pin is low; the release gives every register its reset value but for RESET_CAUSE,
REF_LOCK and MYB_CAPS, whose fallen fields wait for a self-test (R32; the model's reading beside R427, log entry 65), keeps the memories outside the block and what has left it, and READY ends
the initialisation. Until then host writes do nothing; while reset is held events do nothing. A lost
reference is shown and reported.
Some clauses rest on choices of the model: log entries 40, 66, 80 and 83. -/
def Obligations.ResetAndClock : Prop :=
  ∀ (s : State),
    (∀ c cause, (∃ rst, c = .resetAssert false rst ∧ cause = 1) ∨ (c = .resetAssert true false ∧ cause = 2) ∨
        (∃ d, c = .blockReset d ∧ s.ready = true ∧ MYB_CTRL_BLOCK_RESET.of d = 1 ∧ cause = 3) →
      Does c s [MYB_STATUS_READY.at_ 0, MYB_STATUS_RESET_CAUSE.at_ 0] [.inReset, .time, .board] (fun t =>
        (cause = 1 → ∃ rst, c = .resetAssert false rst ∧ t.board = { s.board with pwrOk := false, chipRstN := rst }) ∧
        (cause = 2 → t.board = { s.board with pwrOk := true, chipRstN := false }) ∧ (cause = 3 → t.board = s.board) ∧
        t.pmDraw = (if t.board.pwrOk then 24 else 0) ∧ (∀ p q, t.egressOf p q = .opened) ∧
        t.inReset = true ∧ t.ready = false ∧ t.getF MYB_STATUS_RESET_CAUSE 0 = cause ∧ t.time.ppsHigh = false ∧ t.time.raw = s.time.raw ∧
        t.time.hist = s.time.hist ∧ ∀ k, (t.tile k).disc = false)) ∧
    Does (.resetAssert true true) s [] [.board] (fun t => t.board = { s.board with pwrOk := true, chipRstN := true }) ∧
    (s.board.pwrOk = false ∨ s.board.chipRstN = false → Idle .blockResetRelease s) ∧
    (s.inReset = true → s.board.pwrOk = true → s.board.chipRstN = true → ∃ t, exec .blockResetRelease s = .next t ∧ t.inReset = false ∧ t.pending = s.pending ∧ t.out = s.out ∧
      t.salt = s.salt ∧ t.host = s.host ∧ t.memBad = s.memBad ∧ t.hostResp = s.hostResp ∧ t.freeCtr = s.freeCtr ∧ t.us = 0 ∧
      t.time.tiles = s.time.tiles ∧ t.taps.ports = s.taps.ports ∧ t.qm = {} ∧ t.win = {} ∧ t.ex = {} ∧ t.ctxs = [] ∧ t.cores = [] ∧
      t.mbox = [] ∧ t.load = none ∧ t.saves = [] ∧ t.restores = [] ∧ t.funnel = {} ∧ t.seqrs = [] ∧ t.ledgers = [] ∧ t.watches = [] ∧
      t.imago = {} ∧ t.leases = {} ∧ t.mtx = {} ∧ t.pair = {} ∧ t.board = { fallen := s.board.fallen } ∧ t.time.raw = 0 ∧ t.time.hist = [] ∧
      t.getF MYB_STATUS_RESET_CAUSE 0 = s.getF MYB_STATUS_RESET_CAUSE 0 ∧ t.flag MYB_STATUS_REF_LOCK 0 = true ∧ t.ready = false ∧
      t.getReg .MYB_CAPS 0 = s.getReg .MYB_CAPS 0 ∧
      ∀ r i, (r ≠ .MYB_STATUS ∧ r ≠ .MYB_CAPS) ∨ i ≠ 0 → t.getReg r i = r.resetVal i) ∧
    (s.inReset = false → Idle .blockResetRelease s) ∧
    (s.inReset = false → Does .blockReady s [MYB_STATUS_READY.at_ 0] [] (fun t => t.ready = true)) ∧
    (s.ready = false → ∀ off lanes d, Idle (.registerWrite off lanes d) s) ∧
    (s.inReset = true → Idle .microsecondTick s ∧ Idle .tick s ∧ (∀ r, Idle (.recordAppend r) s) ∧ ∀ c f, Idle (.add c f) s) ∧
    (s.inReset = false → Does .refLost s (formSpots ++ irqSpots ++ [MYB_STATUS_REF_LOST.at_ 0, MYB_STATUS_REF_LOCK.at_ 0]) (.out :: formParts)
      (fun t => t.flag MYB_STATUS_REF_LOST 0 = true ∧ t.flag MYB_STATUS_REF_LOCK 0 = false ∧ t.arrBit .IRQ_PEND 2 = true ∧
        (s.flag TB_CTRL_RUN 0 = true → forms s t (s.unitRec 0x60 1 0 s.sysTenant 0x830F (leBytes 2 0x0F02 ++ leBytes 2 0))))) ∧
    (s.inReset = false → Does .pllRelock s [MYB_STATUS_REF_LOCK.at_ 0] [] (fun t => t.flag MYB_STATUS_REF_LOCK 0 = true))

/-- What the map-out of a unit may change. -/
def mapSpots : List Spot :=
  formSpots ++ irqSpots ++ [CORE_STAT_BUDGET.all, CORE_STAT_MAPPED_OUT.all, CX_STATUS_CORE_FAIL.all, CX_STATUS_IMAGE_VALID.all,
    CX_STATUS_PRIOR.all, CX_STATUS_STATE.all, DS_STAT_LAST.all, DS_STAT_STATE.all, EX_PORT_FAILED.all, EX_PORT_LANES.all, EX_PORT_RATE.all,
    EX_PORT_STATE.all, EX_STAT_LINK_ABORT.at_ 0, IM_TSTAT_QUEUED.all, IM_UNIT_BUSY.all, IM_UNIT_LAUNCHES.all, IM_UNIT_MAPPED_OUT.all,
    IM_UNIT_TENANT.all, CX_STATUS_DEP.all, IRQ_TCAUSE_CORE_FAIL.all, LD_STAT_BUSY.at_ 0, LD_STAT_DONE.at_ 0, LD_STAT_FAULT.at_ 0, LD_STAT_REASON.at_ 0,
    MYB_CAPS_CORES_OK.at_ 0, MYB_CAPS_EXPORT_LANES_OK.at_ 0, MYB_CAPS_IMAGO_OK.at_ 0, MYB_CAPS_MIRROR_LANES_OK.at_ 0,
    MYB_CAPS_POOL_BANKS_OK.at_ 0, PR_LINK_LANES.at_ 0, Reg.at_ .QM_BANK 0, QM_POOL_USABLE.at_ 0]

def mapParts : List Part := [.board, .cores, .ctxs, .ex, .imago, .load, .out, .pair] ++ formParts

/-- Units mapped out, and self-test (R32, R103, R363, R376, R406). A core that is mapped out has no budget, and its contexts that are not OFF are STOPPED
at an instruction boundary, at the YIELD inside one, with CORE_FAIL and PRIOR; a bank, an imago unit or a lane leaves service and MYB_CAPS falls,
unless it has not counted the unit since before a block reset (the model's choice, log entry 65).
Self-test runs only while time, capture, export and pairing are off and every tenant is FREE, else GO is refused; a frame that a port still sends
then is lost and the port is OFF (the model's choice, log entry 68); a test of cores or imago
units waits for their allowance; it ends with its failing units shown and mapped out and the interrupt; when it passes, MYB_CAPS of the tested kinds
is at what works, and when it does not no field of MYB_CAPS rises.
Some clauses rest on choices of the model: log entry 69. -/
def Obligations.UnitsAndSelfTest : Prop :=
  ∀ (s : State),
    (∀ k, s.inReset = false → k < 64 → s.flag CORE_STAT_MAPPED_OUT k = false → (∀ d, s.load = some d → d.core ≠ k) →
      Does (.unitMapOut .core k) s (formSpots ++ irqSpots ++ [CORE_STAT_BUDGET.at_ k, CORE_STAT_MAPPED_OUT.at_ k, MYB_CAPS_CORES_OK.at_ 0,
          IRQ_TCAUSE_CORE_FAIL.all] ++ (List.range 4).flatMap (fun j => [CX_STATUS_CORE_FAIL.at_ (4 * k + j), CX_STATUS_PRIOR.at_ (4 * k + j),
          CX_STATUS_STATE.at_ (4 * k + j)])) ([.board, .ctxs, .cores, .out] ++ formParts) (fun t =>
        t.flag CORE_STAT_MAPPED_OUT k = true ∧ t.getF CORE_STAT_BUDGET k = 0 ∧
        t.getF MYB_CAPS_CORES_OK 0 = s.getF MYB_CAPS_CORES_OK 0 - (if (.core, k) ∈ s.board.fallen then 0 else 1) ∧ (.core, k) ∈ t.board.fallen ∧
        (∀ c, (∀ j < 4, c ≠ 4 * k + j) → t.ctx c = s.ctx c) ∧
        ∀ j c, j < 4 → c = 4 * k + j → (s.cxState c = 0 → t.ctx c = s.ctx c ∧ t.cxState c = 0) ∧
          (s.cxState c ≠ 0 → t.cxState c = 7 ∧ t.flag CX_STATUS_CORE_FAIL c = true ∧
            (∀ x, x = { s.ctx c with pc := (s.ctx c).pc - (if s.inYield c then 4 else 0) } →
              { t.ctx c with flow := {} } = { x with pc := x.boundary, latch := none, flow := {} }) ∧ t.flag IRQ_TCAUSE_CORE_FAIL (s.tenantOf c) = true ∧
            t.getF CX_STATUS_PRIOR c = (if s.cxState c = 7 then s.getF CX_STATUS_PRIOR c else s.cxState c % 8)))) ∧
    (∀ u, s.inReset = false → u < 4 → s.flag IM_UNIT_MAPPED_OUT u = false →
      Does (.unitMapOut .imago u) s [IM_TSTAT_QUEUED.all, IM_UNIT_BUSY.at_ u, IM_UNIT_TENANT.at_ u, IM_UNIT_MAPPED_OUT.at_ u,
          MYB_CAPS_IMAGO_OK.at_ 0] [.board, .cores, .freeCtr, .imago] (fun t => t.flag IM_UNIT_MAPPED_OUT u = true ∧
        t.getF MYB_CAPS_IMAGO_OK 0 = s.getF MYB_CAPS_IMAGO_OK 0 - (if (.imago, u) ∈ s.board.fallen then 0 else 1) ∧
        ∀ v x, s.running? u = some (v, x) → t.flag IM_UNIT_BUSY u = false ∧
          ∃ n, x.tile ≤ n ∧ t.launches v = (s.launches v).replace x { x with unit := none, tile := n })) ∧
    (∀ lane, s.inReset = false → lane < 2 → s.pair.failedLanes / 2 ^ lane % 2 = 0 →
      Does (.unitMapOut .mirrorLane lane) s [MYB_CAPS_MIRROR_LANES_OK.at_ 0, PR_LINK_LANES.at_ 0] [.board, .pair] (fun t =>
        t.pair.failedLanes = s.pair.failedLanes + 2 ^ lane ∧
        t.getF MYB_CAPS_MIRROR_LANES_OK 0 = s.getF MYB_CAPS_MIRROR_LANES_OK 0 - (if (.mirrorLane, lane) ∈ s.board.fallen then 0 else 1) ∧
        (s.pairState ≠ 0 → t.getF PR_LINK_LANES 0 =
          if s.flag MYB_BIST_STAT_BUSY 0 then 0 else 3 - (s.pair.failedLanes + 2 ^ lane) % 4))) ∧
    (∀ b, s.inReset = false → s.ready = true → b < 64 → exec (.unitMapOut .bank b) s = exec (.qmBankMapout (BitVec.twoPow 64 b)) s) ∧
    (∀ lane, lane < 8 → exec (.unitMapOut .exportLane lane) s = exec (.exportLaneFailure lane) s) ∧
    (∀ kind n, s.inReset = false → Does (.unitMapOut kind n) s mapSpots mapParts (fun _ => True)) ∧
    (∀ d, s.ready = true → MYB_BIST_GO.of d = 1 → ∀ may : Prop,
      (may ↔ s.flag TB_CTRL_RUN 0 = false ∧ s.flag TI_CTRL_ENABLE 0 = false ∧ s.flag EX_CFG_EN 0 = false ∧ s.flag PR_CTL_EN 0 = false ∧
        (∀ u < 64, s.getF TN_STATUS_STATE u = 0) ∧ s.flag MYB_BIST_STAT_BUSY 0 = false) →
      (may → (∀ p < 4, (s.exPort p).cur = none) → Does (.bistGo d) s [MYB_BIST_STAT_BUSY.at_ 0] [.board] (fun t =>
        t.flag MYB_BIST_STAT_BUSY 0 = true ∧ t.board = { s.board with bistUnits := MYB_BIST_UNITS.of d })) ∧
      (may → Does (.bistGo d) s (formSpots ++ [MYB_BIST_STAT_BUSY.at_ 0, EX_PORT_FAILED.all, EX_PORT_LANES.all, EX_PORT_RATE.all,
          EX_PORT_STATE.all, EX_STAT_LINK_ABORT.at_ 0]) (.board :: .ex :: formParts) (fun t => t.flag MYB_BIST_STAT_BUSY 0 = true ∧
        t.board = { s.board with bistUnits := MYB_BIST_UNITS.of d } ∧ ∀ p < 4, (t.exPort p).cur = none ∧
          ((s.exPort p).cur ≠ none → t.getF EX_PORT_STATE p = 0) ∧ ((s.exPort p).cur = none → t.exPort p = s.exPort p))) ∧
      (¬ may → Does (.bistGo d) s (irqSpots ++ [MYB_BIST_STAT_REFUSED.at_ 0]) [.out] (fun t => t.flag MYB_BIST_STAT_REFUSED 0 = true ∧
        t.arrBit .IRQ_PEND 1 = true))) ∧
    (∀ r (paced : Prop), s.inReset = false → (paced ↔ (s.board.bistUnits / 2 % 2 = 1 → s.getF PW_ALLOC_CORE 0 ≠ 0) ∧
        (s.board.bistUnits / 4 % 2 = 1 → s.getF PW_ALLOC_IMAGO 0 ≠ 0)) →
      (s.flag MYB_BIST_STAT_BUSY 0 = false ∨ ¬ paced → Idle (.bistDone r) s) ∧
      (s.flag MYB_BIST_STAT_BUSY 0 = true → paced → ∀ f : Nat → Nat → Nat, (∀ b w, f b w = if s.board.bistUnits / 2 ^ b % 2 = 1 then w else 0) →
        Does (.bistDone r) s (mapSpots ++ [MYB_BIST_STAT_BUSY.at_ 0, MYB_BIST_STAT_DONE.at_ 0, MYB_BIST_STAT_PASS.at_ 0,
          MYB_BIST_STAT_FAILED.at_ 0, Reg.at_ .MYB_BIST_BANKS 0, Reg.at_ .MYB_BIST_CORES 0, Reg.at_ .MYB_BIST_MISC 0]) mapParts (fun t =>
            t.flag MYB_BIST_STAT_BUSY 0 = false ∧ t.flag MYB_BIST_STAT_DONE 0 = true ∧ t.arrBit .IRQ_PEND 1 = true ∧
            t.getReg .MYB_BIST_BANKS 0 = BitVec.ofNat 64 (f 0 r.banks.toNat) ∧ t.getReg .MYB_BIST_CORES 0 = BitVec.ofNat 64 (f 1 r.cores.toNat) ∧
            t.getF MYB_BIST_MISC_IMAGO 0 = f 2 r.imago.toNat ∧ t.getF MYB_BIST_MISC_EXPORT 0 = f 3 r.exportLanes.toNat ∧
            t.getF MYB_BIST_MISC_MIRROR 0 = f 4 r.mirrorLanes.toNat ∧
            (t.flag MYB_BIST_STAT_PASS 0 = true ↔ f 0 r.banks.toNat = 0 ∧ f 1 r.cores.toNat = 0 ∧ f 2 r.imago.toNat = 0 ∧
              f 3 r.exportLanes.toNat = 0 ∧ f 4 r.mirrorLanes.toNat = 0) ∧
            (∀ k < 64, f 1 r.cores.toNat / 2 ^ k % 2 = 1 → t.flag CORE_STAT_MAPPED_OUT k = true) ∧
            (∀ k < 64, f 0 r.banks.toNat / 2 ^ k % 2 = 1 → t.bankOut k = true) ∧
            (t.flag MYB_BIST_STAT_PASS 0 = true →
              t.getF MYB_CAPS_CORES_OK 0 = (if s.board.bistUnits / 2 % 2 = 1 then
                ((List.range 64).filter (fun k => !t.flag CORE_STAT_MAPPED_OUT k)).length else s.getF MYB_CAPS_CORES_OK 0) ∧
              t.getF MYB_CAPS_POOL_BANKS_OK 0 = (if s.board.bistUnits % 2 = 1 then ((List.range 64).filter (fun b => !t.bankOut b)).length
                else s.getF MYB_CAPS_POOL_BANKS_OK 0)) ∧
            (t.flag MYB_BIST_STAT_PASS 0 = false →
              t.getF MYB_CAPS_CORES_OK 0 = s.getF MYB_CAPS_CORES_OK 0 - ((List.range 64).filter (fun k => f 1 r.cores.toNat / 2 ^ k % 2 = 1 ∧
                s.flag CORE_STAT_MAPPED_OUT k = false ∧ (.core, k) ∉ s.board.fallen)).length ∧
              t.getF MYB_CAPS_POOL_BANKS_OK 0 = s.getF MYB_CAPS_POOL_BANKS_OK 0 - ((List.range 64).filter (fun b =>
                f 0 r.banks.toNat / 2 ^ b % 2 = 1 ∧ s.bankOut b = false ∧ (.bank, b) ∉ s.board.fallen)).length))))

/-- The power arbiter and the microsecond (R337, R340, R348, R367, R411, R412, R414). The allowances divide the grant: fixed, guard, cores, imago and what is left,
with the caps of the cores and of the imago units, or SHORT with nothing for both; at a tick they come into force with the budgets
and duties, and the units on the microsecond clock count it; a cut binds the cores and the imago units at once for the rest of the microsecond and
never raises a budget, and a grant above the one in force waits for the tick. -/
def powerArbiter : Prop :=
  (∀ (s : State) a, a = s.allot →
    (a.short = true ↔ s.board.grant * 125 < s.fixedMw + s.getF PW_CFG_GUARD 0 * 125) ∧ (a.short = true → a.p = 0 ∧ a.g = 0 ∧ a.unused = 0) ∧
    (a.short = false → a.fixed + s.getF PW_CFG_GUARD 0 * 125 + a.p + a.g + a.unused = s.board.grant * 125) ∧
    a.p ≤ s.getF PW_CFG_CORE_MAX 0 * 125 ∧ a.g ≤ 22000) ∧
  (∀ (s : State) a, s.inReset = false → a = s.allot →
    Does .microsecondTick s (formSpots ++ irqSpots ++ [CORE_STAT_BUDGET.all, EX_PORT_PAUSED_US.all, IM_UNIT_DUTY.all, PW_ALLOC_CORE.at_ 0,
        PW_ALLOC_FIXED.at_ 0, PW_ALLOC_IMAGO.at_ 0, PW_ALLOC_UNUSED.at_ 0, PW_ALLOC_SHORT.at_ 0, PW_GRANT_GRANT.at_ 0,
        TB_STATUS_HOLD_LEFT.at_ 0]) ([.board, .cores, .ex, .imago, .leases, .out, .taps, .us] ++ formParts) (fun t =>
      t.us = s.us + 1 ∧ t.getF PW_GRANT_GRANT 0 = s.board.grant % 1024 ∧ t.getF PW_ALLOC_FIXED 0 = a.fixed / 125 % 1024 ∧
      t.getF PW_ALLOC_CORE 0 = a.p / 125 % 1024 ∧ t.getF PW_ALLOC_IMAGO 0 = a.g / 125 % 1024 ∧
      t.getF PW_ALLOC_UNUSED 0 = a.unused / 125 % 1024 ∧ t.flag PW_ALLOC_SHORT 0 = a.short ∧
      (a.short = true → s.flag PW_ALLOC_SHORT 0 = false → t.arrBit .IRQ_PEND 3 = true) ∧
      (∀ u < 4, t.getF IM_UNIT_DUTY u = min 1600 (1600 * a.g / 22000)) ∧
      (∀ k < 64, t.getF CORE_STAT_BUDGET k = (if s.flag CORE_STAT_MAPPED_OUT k then 0 else min 1600 (1600 * a.p / 9600)) ∧
        t.core k = { s.core k with used := 0, usedBy := [], cuts := [] }) ∧
      t.getF TB_STATUS_HOLD_LEFT 0 = s.getF TB_STATUS_HOLD_LEFT 0 - (if s.time.holdRun then 1 else 0) ∧
      t.leases = { s.leases with ticks := s.leases.ticks + if s.flag LS_CFG_EN 0 then 1 else 0 } ∧
      t.taps = { s.taps with ingested := 0 } ∧ t.imago = { s.imago with further := none } ∧
      (∀ p < 4, (t.exPort p).shaped = (match (s.exPort p).allowed with | some n => (s.exPort p).shaped - n | none => 0) ∧
        (t.exPort p).allowed = none ∧ (t.exPort p).pause = (s.exPort p).pause ∧
        t.getF EX_PORT_PAUSED_US p = (s.getF EX_PORT_PAUSED_US p +
          if (s.exPort p).pausedNow || (s.exPort p).pause.any (fun e => e.2 != 0) then 1 else 0) % 2 ^ 32) ∧
      (∀ u < 64, (t.stream u).crTicks = (s.stream u).crTicks + if s.creditBits u = 0 then 0 else 1) ∧
      t.board.sampTicks = (if s.flag PW_SAMP_EN 0 then s.board.sampTicks + 1 else 0) ∧
      t.board.latest = [s.board.grant, a.fixed / 125, a.p / 125, a.g / 125])) ∧
  (∀ (s : State) n, s.inReset = false → Does (.pmGrant n) s [] [.board] (fun t => t.board = { s.board with grant := min 560 n })) ∧
  (∀ (s : State) n l a, s.inReset = false → a = State.allot { s with board := { s.board with grant := min 560 n } } →
    (s.getF PW_GRANT_GRANT 0 < min 560 n → Does (.pmCut n l) s [PW_GRANT_CUTS.at_ 0] [.board] (fun t =>
      t.board = { s.board with grant := min 560 n } ∧ t.getF PW_GRANT_CUTS 0 = (s.getF PW_GRANT_CUTS 0 + 1) % 2 ^ 32)) ∧
    (min 560 n ≤ s.getF PW_GRANT_GRANT 0 →
      Does (.pmCut n l) s (formSpots ++ irqSpots ++ [CORE_STAT_BUDGET.all, IM_UNIT_DUTY.all, PW_ALLOC_CORE.at_ 0, PW_ALLOC_FIXED.at_ 0,
        PW_ALLOC_IMAGO.at_ 0, PW_ALLOC_UNUSED.at_ 0, PW_ALLOC_SHORT.at_ 0, PW_GRANT_GRANT.at_ 0, PW_GRANT_CUTS.at_ 0])
      ([.board, .cores, .imago, .out] ++ formParts) (fun t => t.board = { s.board with grant := min 560 n } ∧
      t.getF PW_GRANT_CUTS 0 = (s.getF PW_GRANT_CUTS 0 + 1) % 2 ^ 32 ∧ t.getF PW_GRANT_GRANT 0 = min 560 n ∧
      t.getF PW_ALLOC_CORE 0 = a.p / 125 % 1024 ∧ t.flag PW_ALLOC_SHORT 0 = a.short ∧
      (∀ u < 4, t.getF IM_UNIT_DUTY u = min 1600 (1600 * a.g / 22000)) ∧
      (∀ x, x = min 1600 (1600 * a.g / 22000) * min l 1600 / 1600 → t.imago = { s.imago with further := some (match s.imago.further with
        | some m => min m x
        | none => x) }) ∧
      ∀ k < 64, (s.flag CORE_STAT_MAPPED_OUT k = true → t.getF CORE_STAT_BUDGET k = s.getF CORE_STAT_BUDGET k) ∧
        (s.flag CORE_STAT_MAPPED_OUT k = false → t.getF CORE_STAT_BUDGET k =
          min (s.getF CORE_STAT_BUDGET k) ((s.core k).used + min 1600 (1600 * a.p / 9600) * min l 1600 / 1600)))))

/-- The sensor reader (R415 to R419). A sample starts when PERIOD_US have passed and none is in progress, and asks the device with its five read commands; its end counts in
SAMPLES and, with a reply within 5 ms, in PW_SENSE; a failure counts in FAILS, and the third in a row raises POWER and starts the count again. -/
def sensorReader : Prop :=
  ∀ (s : State), s.inReset = false →
    (s.flag PW_SAMP_EN 0 = true → s.board.sampling = false → s.getF PW_SAMP_PERIOD_US 0 ≤ s.board.sampTicks →
      Does .sensorSampleStart s [] [.board, .out] (fun t => t.out = s.out ++ [0x88, 0x89, 0x97, 0x8D, 0x79].map (.sensorRead (s.getF PW_SAMP_PMBUS_ADDR 0)) ∧
        t.board = { s.board with sampling := true, sampTicks := 0, sampAt := s.us, shown := s.board.latest })) ∧
    (s.flag PW_SAMP_EN 0 = false ∨ s.board.sampling = true ∨ s.board.sampTicks < s.getF PW_SAMP_PERIOD_US 0 → Idle .sensorSampleStart s) ∧
    (∀ r, s.board.sampling = false → Idle (.sensorSampleEnd r) s) ∧
    (∀ r : Sensor, s.board.sampling = true → s.us ≤ s.board.sampAt + 5000 → Does (.sensorSampleEnd (some r)) s (formSpots ++ [PW_SENSE_VIN.at_ 0, PW_SENSE_IIN.at_ 0,
        PW_SENSE_PIN.at_ 0, PW_SENSE_STATUS.at_ 0, PW_SENSE2_TEMP.at_ 0, PW_SENSE2_SAMPLES.at_ 0]) (.board :: formParts) (fun t =>
      t.getF PW_SENSE_VIN 0 = r.vin.toNat ∧ t.getF PW_SENSE_IIN 0 = r.iin.toNat ∧ t.getF PW_SENSE_PIN 0 = r.pin.toNat ∧
      t.getF PW_SENSE_STATUS 0 = r.status.toNat ∧ t.getF PW_SENSE2_TEMP 0 = r.temp.toNat ∧
      t.getF PW_SENSE2_SAMPLES 0 = (s.getF PW_SENSE2_SAMPLES 0 + 1) % 2 ^ 32 ∧
      t.board = { s.board with sampling := false, misses := 0 })) ∧
    (∀ r, s.board.sampling = true → r = none ∨ s.board.sampAt + 5000 < s.us → Does (.sensorSampleEnd r) s (formSpots ++ irqSpots ++ [PW_SENSE2_FAILS.at_ 0, PW_SENSE2_SAMPLES.at_ 0])
      ([.board, .out] ++ formParts) (fun t => t.getF PW_SENSE2_FAILS 0 = (s.getF PW_SENSE2_FAILS 0 + 1) % 2 ^ 16 ∧
        t.getF PW_SENSE2_SAMPLES 0 = (s.getF PW_SENSE2_SAMPLES 0 + 1) % 2 ^ 32 ∧ t.board.sampling = false ∧
        (s.board.misses < 2 → t.board.misses = s.board.misses + 1 ∧ ∀ v, t.arrBit .IRQ_PEND v = s.arrBit .IRQ_PEND v) ∧
        (2 ≤ s.board.misses → t.board.misses = 0 ∧ t.arrBit .IRQ_PEND 3 = true)))

/-- The power arbiter, the microsecond and the sensor reader.
Some clauses rest on choices of the model: log entries 55, 67 and 70. -/
def Obligations.PowerAndSensors : Prop := powerArbiter ∧ sensorReader

/-- The registers whose writes do more than set their fields; the others follow the types of their fields alone (R8). -/
def commandRegs : List Reg :=
  [.MYB_BLKID, .MYB_CTRL, .MYB_BIST, .IRQ_PEND, .IRQ_MASK, .TB_CTRL, .TB_INCR, .TB_PRJ_CMD, .TB_PORT_TIME, .TB_RX_PTR, .TB_TX_POST, .SG_CMD,
   .LD_CMD, .TN_CFG, .TN_CMD, .TN_GATES, .TN_CTX_MASK, .CX_CFG, .MB_ACK, .HV_CMD, .RK_PTR, .AN_TAG, .AN_PCFG, .HT_ADDR, .HT_CRED, .TS_CTL, .TS_CMD,
   .TS_PROG0, .TS_PROG1, .SC_PART, .SC_CMD, .SC_FLAGCLR, .SC_HOSTADD, .SC_RGRANT, .SC_WCFG, .LG_ADDR, .LG_LEN, .LG_CFG, .LG_TIMING, .LG_CURSOR,
   .LG_PBASE_LO, .LG_PBASE_HI, .LG_CMD, .QM_BANK, .QM_CMD, .QM_QCFG, .QT_LIMIT, .XL_INV, .SP_SIZE, .SP_PEAK, .DS_CMD, .WN_CFG, .WN_GEN, .WN_CMD,
   .EX_CFG, .EX_STREAM, .IM_TCFG, .GV_LEVEL, .HM_CTL, .LS_CFG, .LS_ENT, .PR_CTL, .PR_CMD, .PR_OWN, .PR_TEN, .SOFT_PAGE, .BD_LTRIM, .CTR_LIVE]

/-- The value that a field of a plain register takes under a 64-bit write (R8 to R11). -/
def fieldAfter (f : FieldDesc) (old d : Word) : Nat :=
  match f.acc with
  | .rw | .wlk => if f.reserved (bitsOf d f.hi f.lo) then bitsOf old f.hi f.lo else bitsOf d f.hi f.lo
  | .w1c => bitsOf (old &&& ~~~d) f.hi f.lo
  | .w1s => bitsOf (old ||| d) f.hi f.lo
  | .ro | .wo => bitsOf old f.hi f.lo

/-- Entry `i` of a register that takes writes in some states alone takes none now. -/
abbrev shutNow (s : State) (r : Reg) (i : Nat) : Prop :=
  (r = .CX_CFG ∧ s.cxState i ∈ [2, 3, 4, 7]) ∨ (r ∈ [.LG_ADDR, .LG_LEN, .LG_CFG, .LG_TIMING] ∧ s.lgState i ∈ [1, 2, 3]) ∨
  (r ∈ [.LG_PBASE_LO, .LG_PBASE_HI] ∧ s.lgState i ≠ 3) ∨ (r = .WN_GEN ∧ s.getF TN_STATUS_STATE i ≠ 0) ∨ (r = .PR_OWN ∧ s.pairState ≠ 0) ∨
  (r = .PR_TEN ∧ s.pairState ∉ [0, 1, 3])

/-- The registers of `shutNow`, which else follow the types of their fields. -/
def shutRegs : List Reg := [.CX_CFG, .LG_ADDR, .LG_LEN, .LG_CFG, .LG_TIMING, .LG_PBASE_LO, .LG_PBASE_HI, .WN_GEN, .PR_OWN, .PR_TEN]

/-- The field lies in the half of the register that a write of these lanes addresses (R13, R15). -/
def inLanes (f : FieldDesc) : Lanes → Prop
  | .full => True
  | .lo => f.hi < 32
  | .hi => 32 ≤ f.lo

/-- The full write of `d` to entry `i` of register `r` is the command `c`. -/
abbrev isCommand (r : Reg) (i : Nat) (d : Word) (c : Instr) : Prop :=
  (i = 0 ∧ (
    (r = .MYB_BLKID ∧ MYB_BLKID_LOCK.of d = 1 ∧ c = .blkidLock d) ∨ (r = .MYB_CTRL ∧ MYB_CTRL_BLOCK_RESET.of d = 1 ∧ c = .blockReset d) ∨
    (r = .MYB_BIST ∧ MYB_BIST_GO.of d = 1 ∧ c = .bistGo d) ∨ (r = .TB_CTRL ∧ TB_CTRL_RUN.of d = 1 ∧ c = .tbRun d) ∨
    (r = .TB_CTRL ∧ TB_CTRL_HOLD_ENTER.of d = 1 ∧ c = .holdEnter d) ∨ (r = .TB_CTRL ∧ TB_CTRL_HOLD_EXIT.of d = 1 ∧ c = .holdExit d) ∨
    (r = .TB_INCR ∧ c = .tbIncrWrite d) ∨ (r = .TB_PRJ_CMD ∧ TB_PRJ_CMD_COMMIT.of d = 1 ∧ c = .projectionCommit d) ∨
    (r = .TB_PRJ_CMD ∧ TB_PRJ_CMD_CANCEL.of d = 1 ∧ c = .projectionCancel d) ∨ (r = .TB_RX_PTR ∧ c = .rxRingHeadWrite d) ∨
    (r = .TB_TX_POST ∧ TB_TX_POST_GO.of d = 1 ∧ c = .txPost d) ∨ (r = .TB_TX_POST ∧ TB_TX_POST_WITHDRAW.of d = 1 ∧ c = .txWithdraw d) ∨
    (r = .SG_CMD ∧ SG_CMD_ARM.of d = 1 ∧ c = .sgArm d) ∨ (r = .SG_CMD ∧ SG_CMD_CANCEL.of d = 1 ∧ c = .sgCancel d) ∨
    (r = .LD_CMD ∧ LD_CMD_GO.of d = 1 ∧ c = .loaderGo d) ∨ (r = .LD_CMD ∧ LD_CMD_RESUME.of d = 1 ∧ c = .loaderResume d) ∨
    (r = .LD_CMD ∧ LD_CMD_ABANDON.of d = 1 ∧ c = .loaderAbandon d) ∨ (r = .HV_CMD ∧ HV_CMD_GO.of d = 1 ∧ c = .harvestRequest d) ∨
    (r = .RK_PTR ∧ c = .rakeHeadWrite d) ∨ (r = .SC_HOSTADD ∧ c = .scHostadd d) ∨ (r = .SC_CMD ∧ SC_CMD_CHECK.of d = 1 ∧ c = .scCheck d) ∨
    (r = .SC_FLAGCLR ∧ c = .scFlagclr d) ∨ (r = .QM_QCFG ∧ c = .qcfgWrite d) ∨ (r = .QM_BANK ∧ c = .qmBankMapout d) ∨
    (r = .QM_CMD ∧ QM_CMD_CMD.of d = 1 ∧ c = .queueReset d) ∨ (r = .QM_CMD ∧ QM_CMD_CMD.of d = 2 ∧ c = .freeze d) ∨
    (r = .QM_CMD ∧ QM_CMD_CMD.of d = 3 ∧ c = .thaw d) ∨ (r = .XL_INV ∧ XL_INV_GO.of d = 1 ∧ c = .xlInvalidate d) ∨
    (r = .EX_CFG ∧ c = if EX_CFG_EN.of d = 1 then .exportEnable d else .exportDisable d) ∨
    (r = .PR_CTL ∧ c = if PR_CTL_EN.of d = 1 then .pairEnable d else .pairDisable d) ∨
    (r = .PR_CMD ∧ PR_CMD_LEAVE.of d = 1 ∧ c = .prLeave d) ∨ (r = .PR_CMD ∧ PR_CMD_YIELD.of d = 1 ∧ c = .prYield d) ∨
    (r = .PR_CMD ∧ PR_CMD_TAKE.of d = 1 ∧ c = .prTake d) ∨ (r = .PR_CMD ∧ PR_CMD_ADMIT.of d = 1 ∧ c = .prAdmit d))) ∨
  (i < 64 ∧ (
    (r = .TN_GATES ∧ c = .tnGatesWrite i d) ∨ (r = .TN_CMD ∧ TN_CMD_CMD.of d = 1 ∧ c = .activate i) ∨
    (r = .TN_CMD ∧ TN_CMD_CMD.of d = 2 ∧ c = .preempt i) ∨ (r = .TN_CMD ∧ TN_CMD_CMD.of d = 3 ∧ c = .restore i (TN_CMD_HOLD.on d)) ∨
    (r = .TN_CMD ∧ TN_CMD_CMD.of d = 4 ∧ c = .tenantReset i) ∨ (r = .TN_CMD ∧ TN_CMD_CMD.of d = 5 ∧ c = .retrySave i) ∨
    (r = .TN_CMD ∧ TN_CMD_CMD.of d = 6 ∧ c = .release i) ∨ (r = .TS_CTL ∧ c = if TS_CTL_RUN.of d = 1 then .tsRunStart i d else .tsRunStop i d) ∨
    (r = .TS_CMD ∧ TS_CMD_FORCE.of d = 1 ∧ c = .tsForce i d) ∨ (r = .TS_CMD ∧ TS_CMD_MANUAL.of d = 1 ∧ c = .tsManual i d) ∨
    (r = .SC_PART ∧ c = .scPartWrite i d) ∨ (r = .LG_CMD ∧ LG_CMD_CMD.of d = 1 ∧ c = .lgLoad i) ∨
    (r = .LG_CMD ∧ LG_CMD_CMD.of d = 2 ∧ c = if LG_CMD_TIMED.of d = 1 then .lgRunTimed i else .lgRun i) ∨
    (r = .LG_CMD ∧ LG_CMD_CMD.of d = 3 ∧ LG_CMD_STOP_AT_PASS.of d = 0 ∧ c = if LG_CMD_AT_PASS.of d = 1 then .lgHoldAtPass i else .lgHold i) ∨
    (r = .LG_CMD ∧ LG_CMD_CMD.of d = 3 ∧ LG_CMD_STOP_AT_PASS.of d = 1 ∧ LG_CMD_AT_PASS.of d = 0 ∧ c = .lgHoldStopAtPass i) ∨
    (r = .LG_CMD ∧ LG_CMD_CMD.of d = 4 ∧ c = .lgRelease i) ∨ (r = .LG_CMD ∧ LG_CMD_CMD.of d = 5 ∧ c = .lgStop i) ∨
    (r = .SP_PEAK ∧ SP_PEAK_CLEAR.of d = 1 ∧ c = .spPeakClear i d) ∨
    (r = .WN_CFG ∧ c = if WN_CFG_EN.of d = 1 then .wnEnSet i d else .wnEnClear i d) ∨
    (r = .WN_CMD ∧ WN_CMD_SEAL.of d = 1 ∧ c = .wnSeal i d) ∨ (r = .WN_CMD ∧ WN_CMD_VOID.of d = 1 ∧ c = .wnVoid i d) ∨
    (r = .GV_LEVEL ∧ c = .gvLevelWrite i d))) ∨
  (r = .IRQ_MASK ∧ i < 4 ∧ c = .irqMaskWrite i d) ∨ (r = .TB_PORT_TIME ∧ i < 512 ∧ c = .linkDlyWrite i .full d) ∨
  (r = .TN_CTX_MASK ∧ i < 256 ∧ c = .ctxMaskWrite (i / 4) (i % 4) d) ∨ (r = .MB_ACK ∧ i < 256 ∧ c = .mbAck i d) ∨
  (r = .CTR_LIVE ∧ i < 36864 ∧ c = .counterPreset i d) ∨ (r = .AN_TAG ∧ i < 512 ∧ c = .anTagWrite i d) ∨
  (r = .HT_ADDR ∧ i < 256 ∧ c = .htAddrWrite i d) ∨ (r = .SC_WCFG ∧ i < 512 ∧ SC_WCFG_ARM.of d = 1 ∧ c = .watchArm i d) ∨
  (r = .SC_WCFG ∧ i < 512 ∧ SC_WCFG_DISARM.of d = 1 ∧ c = .watchDisarm i d) ∨
  (r = .DS_CMD ∧ i < 1024 ∧ d = BitVec.twoPow 64 63 ∧ c = .dsResume (i / 16) (i % 16)) ∨
  (r = .DS_CMD ∧ i < 1024 ∧ d = BitVec.twoPow 64 62 ∧ c = .dsAbandon (i / 16) (i % 16)) ∨
  (r = .HM_CTL ∧ i < 256 ∧ d = BitVec.twoPow 64 63 ∧ c = .modelLoad (i / 4) (i % 4)) ∨
  (r = .HM_CTL ∧ i < 256 ∧ d = BitVec.twoPow 64 62 ∧ c = .modelUnload (i / 4) (i % 4)) ∨
  (r = .LS_ENT ∧ i < 256 ∧ LS_ENT_VIEW.of d ≠ 0 ∧ c = .lsView i d) ∨ (r = .LS_ENT ∧ i < 256 ∧ LS_ENT_DECIDE.of d ≠ 0 ∧ c = .lsDecide i d)

/-- The register window and the interrupt registers (R8 to R15, R31, R118, R407, R410, R424, R428). A full write of a register without a command
sets each of its fields by its type and nothing else, unless the register takes none in its state, those of the sync expectation array among them; a
write of a half sets the fields in it, leaves the others, and leaves a field that crosses bit 32 undefined, whatever it held; a write of LS_CFG with
EN = 0 also ends the lease period under way (the model's choice, log entry 31); the write of a command register is its command; an offset that names no register
takes nothing; misaligned accesses, narrow accesses of the counter arrays and writes of tenant pages are refused, counted and answered with all ones;
BLOCK_ID cannot be written once LOCK is set; a vector that is enabled while it is pending sends one message; a page of a tenant reads as its
words.
Some clauses rest on choices of the model: log entries 7, 46, 83 and 85. -/
def Obligations.HostWindow : Prop :=
  ∀ (s : State), s.ready = true →
    (∀ (off : BitVec 24) r i d, off.toNat < 0xC00000 → off.toNat % 8 = 0 → locate off.toNat = some (r, i) →
      r ∉ commandRegs ∨ r ∈ shutRegs →
      (shutNow s r i → ∀ lanes, lanes = .full ∨ off.toNat < 0x400000 → ∃ n, exec (.registerWrite off lanes d) s = .next { s with freeCtr := n }) ∧
      (¬ shutNow s r i → Does (.registerWrite off .full d) s [Reg.at_ r (s.entryOf r i)] [] (fun t =>
        ∀ f ∈ r.fields, bitsOf (t.getReg r (s.entryOf r i)) f.hi f.lo = fieldAfter f (s.getReg r (s.entryOf r i)) d)) ∧
      (¬ shutNow s r i → ∀ lanes, lanes ≠ .full → off.toNat < 0x400000 →
        Does (.registerWrite off lanes d) s [Reg.at_ r (s.entryOf r i)] [.freeCtr] (fun t => ∀ f ∈ r.fields,
          (inLanes f lanes → bitsOf (t.getReg r (s.entryOf r i)) f.hi f.lo = fieldAfter f (s.getReg r (s.entryOf r i)) d) ∧
          (¬ inLanes f lanes → f.acc = .ro ∨ 32 ≤ f.lo ∨ f.hi < 32 →
            bitsOf (t.getReg r (s.entryOf r i)) f.hi f.lo = bitsOf (s.getReg r (s.entryOf r i)) f.hi f.lo) ∧
          (f.lo < 32 → 32 ≤ f.hi → f.acc = .rw ∨ f.acc = .wlk →
            bitsOf (t.getReg r (s.entryOf r i)) f.hi f.lo = fieldAfter f (s.getReg r (s.entryOf r i)) (Config.freeWord s.freeCtr)) ∧
          (f.lo < 32 → 32 ≤ f.hi → f.acc = .w1c ∨ f.acc = .w1s → ∃ n, s.freeCtr < n ∧ n < t.freeCtr ∧
            bitsOf (t.getReg r (s.entryOf r i)) f.hi f.lo = bitsOf (Config.freeWord n) f.hi f.lo)))) ∧
    (∀ (off : BitVec 24) n d, off.toNat % 8 = 0 → locate off.toNat = some (.SC_EXP, n) →
      Does (.registerWrite off .full d) s [Reg.at_ .SC_EXP n] [] (fun t => t.getF SC_EXP_EXP n = SC_EXP_EXP.of d ∧
        t.getF SC_EXP_BARRIER n = SC_EXP_BARRIER.of d)) ∧
    (∀ (off : BitVec 24) d, off.toNat % 8 = 0 → locate off.toNat = some (.LS_CFG, 0) →
      Does (.registerWrite off .full d) s [Reg.at_ .LS_CFG 0] [.leases] (fun t =>
        (∀ f ∈ Reg.LS_CFG.fields, bitsOf (t.getReg .LS_CFG 0) f.hi f.lo = fieldAfter f (s.getReg .LS_CFG 0) d) ∧
        (LS_CFG_EN.of d = 1 → t.leases = s.leases) ∧
        (LS_CFG_EN.of d = 0 → t.leases = { s.leases with ticks := 0, renewed := [] }))) ∧
    (∀ (off : BitVec 24) d, off.toNat < 0xC00000 → off.toNat % 8 = 0 → locate off.toNat = none → Idle (.registerWrite off .full d) s) ∧
    (∀ (off : BitVec 24) r i d c, off.toNat % 8 = 0 → locate off.toNat = some (r, i) → isCommand r i d c →
      exec (.registerWrite off .full d) s = exec c s) ∧
    (∀ (off : BitVec 24) d, off.toNat % 8 = 0 → (0x400000 ≤ off.toNat ∧ off.toNat < 0x580000) ∨ 0xC00000 ≤ off.toNat →
      exec (.registerWrite off .lo d) s = exec (.hostAccessError off false true) s ∧
      exec (.registerWrite off .hi d) s = exec (.hostAccessError (off + 4) false true) s) ∧
    (∀ (off : BitVec 24) d, off.toNat % 8 ≠ 0 ∨ 0xC00000 ≤ off.toNat → exec (.registerWrite off .full d) s = exec (.hostAccessError off true true) s) ∧
    (∀ (off : BitVec 24) wide write kind, kind = (if off.toNat % (if wide then 8 else 4) ≠ 0 then 2 else
        if wide = false ∧ 0x400000 ≤ off.toNat ∧ off.toNat < 0x580000 then 1 else if write = true ∧ 0xC00000 ≤ off.toNat then 3 else 0) →
      (kind = 0 → Idle (.hostAccessError off wide write) s) ∧
      (kind ≠ 0 → Does (.hostAccessError off wide write) s (irqSpots ++ [MYB_HOSTERR_KIND.at_ 0, MYB_HOSTERR_LAST.at_ 0, MYB_HOSTERR_COUNT.at_ 0])
        [.out, .hostResp] (fun t => t.getF MYB_HOSTERR_KIND 0 = kind ∧ t.getF MYB_HOSTERR_LAST 0 = off.toNat ∧
          t.getF MYB_HOSTERR_COUNT 0 = (s.getF MYB_HOSTERR_COUNT 0 + 1) % 2 ^ 32 ∧ t.arrBit .IRQ_PEND 0 = true ∧
          (write = true → t.hostResp = s.hostResp) ∧
          (write = false → t.hostResp = some (if wide then BitVec.allOnes 64 else BitVec.ofNat 64 (2 ^ 32 - 1)))))) ∧
    (∀ d, MYB_BLKID_LOCK.of d = 1 → Does (.blkidLock d) s [Reg.at_ .MYB_BLKID 0] [] (fun t => t.locked = true ∧
      t.blockId = if s.locked then s.blockId else MYB_BLKID_BLOCK_ID.of d)) ∧
    (∀ i d, i < 4 → Does (.irqMaskWrite i d) s [Reg.at_ .IRQ_MASK i] [.out] (fun t => t.getReg .IRQ_MASK i = d ∧
      t.out = s.out ++ ((List.range 64).filter (fun b => d.getLsbD b && !(s.getReg .IRQ_MASK i).getLsbD b &&
        (s.getReg .IRQ_PEND i).getLsbD b)).map (fun b => .msi (64 * i + b)))) ∧
    (∀ u off k, u < 64 → off < 65536 → k = off / 8 →
      (off % 8 = 0 → Does (.tenantPageRead u off true) s [] [.hostResp] (fun t => t.hostResp = some (BitVec.ofNat 64 (s.pageWord u k)))) ∧
      (off % 4 = 0 → Does (.tenantPageRead u off false) s [] [.hostResp] (fun t => t.hostResp = some (BitVec.ofNat 64
        ((BitVec.ofNat 64 (s.pageWord u k)).toNat / 2 ^ (8 * (off % 8)) % 2 ^ 32)))) ∧
      (s.flag TN_CFG_PAGE_EN u = false → s.pageWord u k = 0) ∧
      (∀ j, j < 120 → s.flag TN_CFG_PAGE_EN u = true → s.pageWord u (128 + j) =
        if s.antGranted u (s.getF TN_PAGE_FIRST u + j) then (s.getReg .HV_OVF (s.getF TN_PAGE_FIRST u + j)).toNat else 0))

/-! ### Instruction words (chapter 04) -/

/-- Decoding and encoding of the Ehrile instructions agree (R125, R128): every well-formed instruction has one word of 32 bits, which decodes to it with
every operand at its value, and a word that decodes is the word of what it decodes to; a command that no context issues has no word. -/
def Obligations.DecodeAndEncodeAgree : Prop :=
  (∀ i c, issuer i = some c → i.wf = true → ∃ w, encodeEhrile i = some w ∧ w < 2 ^ 32 ∧ decodeEhrile c w = some i) ∧
  (∀ c w i, w < 2 ^ 32 → decodeEhrile c w = some i → encodeEhrile i = some w ∧ issuer i = some c ∧ (c < 256 → i.wf = true)) ∧
  (∀ i, issuer i = none → encodeEhrile i = none)

/-- Words written out from the encodings of the spec (R125, R129 to R147): one of each format, and words of reserved opcodes and functions. -/
def Obligations.DecodedWords : Prop :=
  decodeEhrile 9 0b00100000101000110000000001100100 = some (.addi 9 ⟨5, 3, 100⟩) ∧
  decodeEhrile 9 0b00110111010001010001000000000000 = some (.cmpi 9 ⟨0b11010, 5, 4096⟩) ∧
  decodeEhrile 9 0b01000001001111111111111111111101 = some (.br 9 ⟨2, false, 0x3FFFFD⟩) ∧
  decodeEhrile 9 0b01010000111000001100000000001000 = some (.ld 9 ⟨7, 0, 3, false, 8⟩) ∧
  decodeEhrile 9 0b10001100001101001010100100000000 = some (.deq 9 ⟨1, 20, 21, 1, 0⟩) ∧
  decodeEhrile 9 0b10001000000010100101101110000001 = some (.emit 9 ⟨0, 10, 11, 3, 0x81⟩) ∧
  decodeEhrile 9 0b11111100000010000000000000001000 = some (.l 9 0x080008) ∧
  decodeEhrile 9 0b00000000001000100001101000000000 = some (.add 9 ⟨1, 2, 3, 2, false⟩) ∧
  decodeEhrile 9 0b00011000000000000000000000000000 = none ∧ decodeEhrile 9 0b00000000001000100001101001111111 = none ∧
  decodeEhrile 9 0b11011000000000000000000000000000 = none
end

