-- ==== Sys2Proof/Laws/SMap.lean ====
section
/-! SUPPORT. The laws of sparse maps: a read after a write to the same key gives the value written, every other key reads as
before, and a write keeps the canonical form. -/

namespace Sys2Proof.Machine

theorem smGet_smDrop {α : Type} (d : α) (m : SMap α) (x y : Nat) :
    smGet d (smDrop m x) y = if y ≤ x then d else smGet d m y := by
  induction m with
  | nil => simp [smDrop, smGet]
  | cons e m ih =>
    obtain ⟨k, v⟩ := e
    simp only [smDrop]
    by_cases hk : k ≤ x
    · simp only [hk, if_true, ih]
      by_cases hy : y ≤ x
      · simp [hy]
      · have h1 : ¬ y < k := by omega
        have h2 : ¬ y = k := by omega
        simp [hy, smGet, h1, h2]
    · simp only [hk, if_false]
      by_cases hy : y ≤ x
      · have h1 : y < k := by omega
        simp [hy, smGet, h1]
      · simp [hy]

@[simp] theorem smGet_smSet_same {α : Type} [DecidableEq α] (d : α) (m : SMap α) (x : Nat) (v : α) :
    smGet d (smSet d m x v) x = v := by
  induction m with
  | nil =>
    by_cases hv : v = d <;> simp [smSet, smGet, hv]
  | cons e m ih =>
    obtain ⟨k, w⟩ := e
    simp only [smSet]
    by_cases h1 : x < k
    · by_cases hv : v = d <;> simp [smGet, h1, hv]
    · by_cases h2 : x = k
      · by_cases hv : v = d
        · simp [h2, hv, smGet_smDrop]
        · simp [h2, hv, smGet]
      · simp [h1, h2, smGet, ih]

theorem smGet_smSet_ne {α : Type} [DecidableEq α] (d d' : α) (m : SMap α) {x y : Nat} (v : α) (h : y ≠ x) :
    smGet d' (smSet d m x v) y = smGet d' m y := by
  induction m with
  | nil =>
    by_cases hv : v = d
    · simp [smSet, hv]
    · simp [smSet, smGet, hv, h]
  | cons e m ih =>
    obtain ⟨k, w⟩ := e
    simp only [smSet]
    by_cases h1 : x < k
    · by_cases hv : v = d
      · simp [h1, hv]
      · simp only [h1, hv, if_true, if_false, smGet, h]
        by_cases h3 : y < x
        · have : y < k := by omega
          simp [h3, this]
        · simp [h3]
    · by_cases h2 : x = k
      · by_cases hv : v = d
        · subst h2
          simp only [hv, if_true, Nat.lt_irrefl, if_false, smGet_smDrop, smGet, h]
          by_cases h3 : y ≤ x
          · have : y < x := by omega
            simp [h3, this]
          · have : ¬ y < x := by omega
            simp [h3, this]
        · subst h2; simp [hv, smGet, h]
      · simp only [h1, h2, if_false, smGet, ih]

theorem smGet_smSet {α : Type} [DecidableEq α] (d : α) (m : SMap α) (x y : Nat) (v : α) :
    smGet d (smSet d m x v) y = if y = x then v else smGet d m y := by
  by_cases h : y = x
  · subst h; simp
  · simp [h, smGet_smSet_ne d d m v h]

/-- The head key bound that the canonical form gives. -/
theorem smWf_cons {α : Type} [DecidableEq α] (d : α) (k : Nat) (v : α) (m : SMap α) :
    smWf d ((k, v) :: m) = true ↔ v ≠ d ∧ (∀ k' v' m', m = (k', v') :: m' → k < k') ∧ smWf d m = true := by
  cases m with
  | nil => simp [smWf]
  | cons e m =>
    obtain ⟨k', v'⟩ := e
    simp only [smWf, Bool.and_eq_true, decide_eq_true_eq, ne_eq, List.cons.injEq, Prod.mk.injEq]
    constructor
    · rintro ⟨⟨h1, h2⟩, h3⟩
      exact ⟨h1, fun _ _ _ h => by obtain ⟨⟨rfl, _⟩, _⟩ := h; exact h2, h3⟩
    · rintro ⟨h1, h2, h3⟩
      exact ⟨⟨h1, h2 k' v' m ⟨⟨rfl, rfl⟩, rfl⟩⟩, h3⟩

theorem smDrop_of_head {α : Type} [DecidableEq α] (m : SMap α) (x : Nat)
    (h : ∀ k' v' m', m = (k', v') :: m' → x < k') : smDrop m x = m := by
  cases m with
  | nil => rfl
  | cons e m =>
    obtain ⟨k', v'⟩ := e
    have := h k' v' m rfl
    simp [smDrop, show ¬ k' ≤ x by omega]

theorem smSet_head {α : Type} [DecidableEq α] (d : α) (m : SMap α) (x k : Nat) (v : α) (hkx : k < x)
    (h : ∀ k' v' m', m = (k', v') :: m' → k < k') :
    ∀ k' v' m', smSet d m x v = (k', v') :: m' → k < k' := by
  intro k' v' m' he
  cases m with
  | nil =>
    by_cases hv : v = d
    · simp [smSet, hv] at he
    · simp [smSet, hv] at he; obtain ⟨⟨rfl, _⟩, _⟩ := he; exact hkx
  | cons e m =>
    obtain ⟨k2, w⟩ := e
    have hk := h k2 w m rfl
    simp only [smSet] at he
    split at he
    · split at he
      · simp at he; omega
      · simp at he; omega
    · split at he
      · split at he
        · rename_i hx _
          subst hx
          have : ∀ (m : SMap α), smDrop m x = (k', v') :: m' → x < k' := by
            intro m
            induction m with
            | nil => simp [smDrop]
            | cons e m ih =>
              obtain ⟨a, b⟩ := e
              simp only [smDrop]
              split
              · exact ih
              · intro h; simp at h; omega
          have := this m he
          omega
        · simp at he; omega
      · simp at he; omega

/-- A write keeps the canonical form. -/
theorem smWf_smSet {α : Type} [DecidableEq α] (d : α) (m : SMap α) (x : Nat) (v : α) (h : smWf d m = true) :
    smWf d (smSet d m x v) = true := by
  induction m with
  | nil => by_cases hv : v = d <;> simp [smSet, smWf, hv]
  | cons e m ih =>
    obtain ⟨k, w⟩ := e
    obtain ⟨h1, h2, h3⟩ := (smWf_cons d k w m).1 h
    simp only [smSet]
    split
    · split
      · exact h
      · rename_i hx hv
        refine (smWf_cons d x v _).2 ⟨hv, ?_, h⟩
        rintro k' v' m' he
        simp at he; omega
    · split
      · rename_i hx
        split
        · rw [smDrop_of_head m x (by subst hx; exact h2)]; exact h3
        · rename_i hv
          exact (smWf_cons d x v m).2 ⟨hv, by subst hx; exact h2, h3⟩
      · exact (smWf_cons d k w _).2 ⟨h1, smSet_head d m x k v (by omega) h2, ih h3⟩

end Sys2Proof.Machine
end

