-- ==== Sys2Proof/Laws/Regs.lean ====
section
/-! SUPPORT. The laws of the register file: entries and registers do not overlap, a field reads what was written to it, and every other
bit stays. -/

namespace Sys2Proof.Machine

/-! ### Keys -/

theorem Reg.num_eq (r : Reg) : r.num = r.ctorIdx := by cases r <;> rfl

theorem Reg.num_lt (r : Reg) : r.num < 256 := by cases r <;> decide

theorem Reg.num_inj {r r' : Reg} (h : r.num = r'.num) : r = r' := by
  rw [Reg.num_eq, Reg.num_eq] at h
  rw [← Reg.ofNat_ctorIdx r, ← Reg.ofNat_ctorIdx r', h]

theorem Reg.key_inj {r r' : Reg} {i j : Nat} : r.key i = r'.key j ↔ r = r' ∧ i = j := by
  constructor
  · intro h
    have h1 := r.num_lt
    have h2 := r'.num_lt
    simp only [Reg.key] at h
    have hi : i = j := by omega
    subst hi
    exact ⟨Reg.num_inj (by omega), rfl⟩
  · rintro ⟨rfl, rfl⟩; rfl

/-! ### Whole entries -/

@[simp] theorem State.getReg_setReg_same (s : State) (r : Reg) (i : Nat) (v : Word) : (s.setReg r i v).getReg r i = v := by
  simp [State.getReg, State.setReg]

theorem State.getReg_setReg_ne (s : State) {r r' : Reg} {i j : Nat} (v : Word) (h : r ≠ r' ∨ i ≠ j) :
    (s.setReg r' j v).getReg r i = s.getReg r i := by
  have hk : r.key i ≠ r'.key j := by
    intro he
    obtain ⟨h1, h2⟩ := Reg.key_inj.1 he
    rcases h with h | h
    · exact h h1
    · exact h h2
  simp only [State.getReg, State.setReg]
  exact smGet_smSet_ne _ _ _ _ hk

theorem State.getReg_congr {s t : State} (h : t.regs = s.regs) (r : Reg) (i : Nat) : t.getReg r i = s.getReg r i := by
  simp [State.getReg, h]

/-! ### Bits -/

theorem getLsbD_putBits (w : Word) (hi lo v b : Nat) (h1 : lo ≤ hi) (h2 : hi < 64) :
    (putBits w hi lo v).getLsbD b = if lo ≤ b ∧ b ≤ hi then v.testBit (b - lo) else w.getLsbD b := by
  by_cases hb : b < 64
  swap
  · have : ¬ (lo ≤ b ∧ b ≤ hi) := by omega
    rw [if_neg this, BitVec.getLsbD_of_ge _ b (by omega), BitVec.getLsbD_of_ge w b (by omega)]
  simp only [putBits, BitVec.getLsbD_ofNat, hb, decide_true, Bool.true_and]
  have e1 : w.toNat / 2 ^ (hi + 1) * 2 ^ (hi + 1) + v % 2 ^ (hi + 1 - lo) * 2 ^ lo + w.toNat % 2 ^ lo =
      2 ^ lo * (2 ^ (hi + 1 - lo) * (w.toNat / 2 ^ (hi + 1)) + v % 2 ^ (hi + 1 - lo)) + w.toNat % 2 ^ lo := by
    have : 2 ^ (hi + 1) = 2 ^ lo * 2 ^ (hi + 1 - lo) := by rw [← Nat.pow_add]; congr 1; omega
    rw [this]; ring
  rw [e1, Nat.testBit_two_pow_mul_add _ (Nat.mod_lt _ (by positivity)),
    Nat.testBit_two_pow_mul_add _ (Nat.mod_lt _ (by positivity))]
  simp only [Nat.testBit_mod_two_pow, Nat.testBit_div_two_pow]
  by_cases hlo : b < lo
  · have : ¬ (lo ≤ b ∧ b ≤ hi) := by omega
    simp [hlo, this, BitVec.getLsbD]
  · by_cases hhi : b ≤ hi
    · have c1 : b - lo < hi + 1 - lo := by omega
      have : lo ≤ b ∧ b ≤ hi := by omega
      simp [hlo, c1, this]
    · have c1 : ¬ b - lo < hi + 1 - lo := by omega
      have : ¬ (lo ≤ b ∧ b ≤ hi) := by omega
      have e : hi + 1 + (b - lo - (hi + 1 - lo)) = b := by omega
      have e' : b - lo - (hi + 1 - lo) + (hi + 1) = b := by omega
      simp [hlo, c1, this, BitVec.getLsbD, e']

theorem bitsOf_eq_of_bits {v w : Word} {hi lo : Nat} (h : ∀ b, lo ≤ b → b ≤ hi → v.getLsbD b = w.getLsbD b) :
    bitsOf v hi lo = bitsOf w hi lo := by
  apply Nat.eq_of_testBit_eq
  intro b
  simp only [bitsOf, Nat.testBit_mod_two_pow, Nat.testBit_div_two_pow]
  by_cases hb : b < hi + 1 - lo
  · have := h (b + lo) (by omega) (by omega)
    simpa [hb, BitVec.getLsbD, Nat.add_comm] using this
  · simp [hb]

theorem bitsOf_putBits_same (w : Word) (hi lo v : Nat) (h1 : lo ≤ hi) (h2 : hi < 64) :
    bitsOf (putBits w hi lo v) hi lo = v % 2 ^ (hi + 1 - lo) := by
  apply Nat.eq_of_testBit_eq
  intro b
  simp only [bitsOf, Nat.testBit_mod_two_pow, Nat.testBit_div_two_pow]
  by_cases hb : b < hi + 1 - lo
  · have := getLsbD_putBits w hi lo v (b + lo) h1 h2
    have c : lo ≤ b + lo ∧ b + lo ≤ hi := by omega
    simp only [BitVec.getLsbD, c, and_self, if_true] at this
    simpa [hb] using this
  · simp [hb]

theorem bitsOf_putBits_apart (w : Word) (hi lo hi' lo' v : Nat) (h1 : lo ≤ hi) (h2 : hi < 64) (h : hi' < lo ∨ hi < lo') :
    bitsOf (putBits w hi lo v) hi' lo' = bitsOf w hi' lo' := by
  apply bitsOf_eq_of_bits
  intro b hb1 hb2
  rw [getLsbD_putBits w hi lo v b h1 h2]
  have : ¬ (lo ≤ b ∧ b ≤ hi) := by omega
  simp [this]

/-! ### Fields -/

/-- A field has its bits in order inside the word. -/
def Fld.ok (f : Fld) : Bool := decide (f.lo ≤ f.hi) && decide (f.hi < 64)

/-- Two fields share no bit. -/
def Fld.apart (f g : Fld) : Bool := decide (f.reg ≠ g.reg) || decide (f.hi < g.lo) || decide (g.hi < f.lo)

theorem Fld.ok_iff {f : Fld} : f.ok = true ↔ f.lo ≤ f.hi ∧ f.hi < 64 := by simp [Fld.ok]

theorem State.getF_setF_same (s : State) (f : Fld) (i v : Nat) (hf : f.ok = true) :
    (s.setF f i v).getF f i = v % 2 ^ f.width := by
  obtain ⟨h1, h2⟩ := Fld.ok_iff.1 hf
  simp [State.getF, State.setF, bitsOf_putBits_same _ _ _ _ h1 h2, Fld.width]

theorem State.getF_setF_apart (s : State) (f g : Fld) (i j v : Nat) (hg : g.ok = true) (h : f.apart g = true) :
    (s.setF g j v).getF f i = s.getF f i := by
  obtain ⟨h1, h2⟩ := Fld.ok_iff.1 hg
  simp only [State.getF, State.setF]
  by_cases hr : f.reg = g.reg
  · by_cases hi : i = j
    · have : g.hi < f.lo ∨ f.hi < g.lo := by
        simp only [Fld.apart, Bool.or_eq_true, decide_eq_true_eq] at h
        rcases h with (h | h) | h
        · exact absurd hr h
        · exact .inr h
        · exact .inl h
      rw [hr, hi, State.getReg_setReg_same]
      exact bitsOf_putBits_apart _ _ _ _ _ _ h1 h2 (by omega)
    · rw [State.getReg_setReg_ne _ _ (.inr hi)]
  · rw [State.getReg_setReg_ne _ _ (.inl hr)]

theorem State.getF_setF_entry (s : State) (f g : Fld) (i j v : Nat) (h : i ≠ j) :
    (s.setF g j v).getF f i = s.getF f i := by
  simp only [State.getF, State.setF]
  rw [State.getReg_setReg_ne _ _ (.inr h)]

theorem State.getReg_setF_ne (s : State) (r : Reg) (g : Fld) (i j v : Nat) (h : r ≠ g.reg ∨ i ≠ j) :
    (s.setF g j v).getReg r i = s.getReg r i := State.getReg_setReg_ne _ _ h

theorem State.getF_lt (s : State) (f : Fld) (i : Nat) : s.getF f i < 2 ^ f.width := by
  simp only [State.getF, bitsOf, Fld.width]; exact Nat.mod_lt _ (by positivity)

theorem State.getF_mod (s : State) (f : Fld) (i : Nat) : s.getF f i % 2 ^ f.width = s.getF f i := Nat.mod_eq_of_lt (s.getF_lt f i)

theorem State.getF_congr {s t : State} (h : t.regs = s.regs) (f : Fld) (i : Nat) : t.getF f i = s.getF f i := by
  simp [State.getF, State.getReg, h]

theorem State.flag_congr {s t : State} (h : t.regs = s.regs) (f : Fld) (i : Nat) : t.flag f i = s.flag f i := by
  simp [State.flag, State.getF_congr h]

end Sys2Proof.Machine
end

