-- ==== Sys2Proof/Laws/Frames.lean ====
section
/-! SUPPORT. What the shared operations leave unchanged, once for each: the rules by which a frame goes through a chain of operations, then
interrupts, counters, mirror messages and the offer of a record. -/

namespace Sys2Proof.Machine

variable {ws ws' : List Spot} {ps ps' : List Part} {s t u : State}

/-! ### The relation -/

theorem Part.same_refl (s : State) (p : Part) : p.same s s := by cases p <;> rfl

theorem Part.same_trans {p : Part} (h1 : p.same s t) (h2 : p.same t u) : p.same s u := by
  cases p <;> exact Eq.trans h2 h1

theorem Only.refl (ws : List Spot) (ps : List Part) (s : State) : Only ws ps s s :=
  ⟨fun _ _ _ _ => rfl, fun p _ => p.same_refl s, rfl⟩

theorem Only.mono (h : Only ws' ps' s t) (hw : ws' ⊆ ws) (hp : ps' ⊆ ps) : Only ws ps s t :=
  ⟨fun r i b hb => h.regs r i b (fun p hp' => hb p (hw hp')), fun p hp' => h.parts p (fun hm => hp' (hp hm)), h.pending⟩

theorem Only.trans (h1 : Only ws ps s t) (h2 : Only ws ps t u) : Only ws ps s u :=
  ⟨fun r i b hb => (h2.regs r i b hb).trans (h1.regs r i b hb), fun p hp => Part.same_trans (h1.parts p hp) (h2.parts p hp),
    h2.pending.trans h1.pending⟩

/-- A further step that changes only what is already listed. -/
theorem Only.andThen (h1 : Only ws ps s t) (h2 : Only ws' ps' t u) (hw : ws' ⊆ ws) (hp : ps' ⊆ ps) : Only ws ps s u :=
  h1.trans (h2.mono hw hp)

theorem lists_mono {f : Fld} {i : Nat} (hw : ws' ⊆ ws) (h : lists ws' f i = true) : lists ws f i = true := by
  simp only [lists, List.any_eq_true] at h ⊢
  obtain ⟨p, hp, h⟩ := h
  exact ⟨p, hw hp, h⟩

/-- A register entry rewritten inside the listed places. -/
theorem Only.setReg (h : Only ws ps s t) (r : Reg) (i : Nat) (v : Word)
    (hv : ∀ b, (∀ p ∈ ws, p.has r i b = false) → v.getLsbD b = (t.getReg r i).getLsbD b) :
    Only ws ps s (t.setReg r i v) := by
  refine ⟨fun r' i' b hb => ?_, fun p hp => Part.same_trans (h.parts p hp) (by cases p <;> rfl), h.pending⟩
  by_cases hr : r' = r ∧ i' = i
  · obtain ⟨rfl, rfl⟩ := hr
    rw [State.getReg_setReg_same, hv b hb, h.regs r' i' b hb]
  · rw [State.getReg_setReg_ne, h.regs r' i' b hb]
    by_cases h1 : r' = r
    · exact .inr (fun h2 => hr ⟨h1, h2⟩)
    · exact .inl h1

/-- A whole entry that is listed. -/
theorem Only.setEntry (h : Only ws ps s t) (r : Reg) (i : Nat) (v : Word) (hc : lists ws ⟨r, 63, 0⟩ i = true) :
    Only ws ps s (t.setReg r i v) := by
  refine h.setReg r i v (fun b hb => ?_)
  simp only [lists, List.any_eq_true, Bool.and_eq_true, decide_eq_true_eq] at hc
  obtain ⟨p, hp, ⟨⟨hr, he⟩, hl⟩, hh⟩ := hc
  have := hb p hp
  simp only [Spot.has, hr, decide_true, Bool.true_and, he, Bool.and_eq_false_iff, decide_eq_false_iff_not] at this
  have hb' : 64 ≤ b := by
    rcases this with h1 | h1
    · simp at h1; omega
    · omega
  rw [BitVec.getLsbD_of_ge _ _ hb', BitVec.getLsbD_of_ge _ _ hb']

theorem Only.setF (h : Only ws ps s t) (f : Fld) (i v : Nat) (hf : f.ok = true) (hc : lists ws f i = true) :
    Only ws ps s (t.setF f i v) := by
  refine h.setReg f.reg i _ (fun b hb => ?_)
  obtain ⟨h1, h2⟩ := Fld.ok_iff.1 hf
  rw [getLsbD_putBits _ _ _ _ _ h1 h2]
  simp only [lists, List.any_eq_true, Bool.and_eq_true, decide_eq_true_eq] at hc
  obtain ⟨p, hp, ⟨⟨hr, he⟩, hl⟩, hh⟩ := hc
  have := hb p hp
  simp only [Spot.has, hr, decide_true, Bool.true_and, he, Bool.and_eq_false_iff, decide_eq_false_iff_not] at this
  have : ¬ (f.lo ≤ b ∧ b ≤ f.hi) := by omega
  rw [if_neg this]

theorem Only.setFlag (h : Only ws ps s t) (f : Fld) (i : Nat) (b : Bool) (hf : f.ok = true) (hc : lists ws f i = true) :
    Only ws ps s (t.setFlag f i b) := h.setF f i _ hf hc

theorem Only.addF (h : Only ws ps s t) (f : Fld) (i n : Nat) (hf : f.ok = true) (hc : lists ws f i = true) :
    Only ws ps s (t.addF f i n) := h.setF f i _ hf hc

theorem Only.incF (h : Only ws ps s t) (f : Fld) (i : Nat) (hf : f.ok = true) (hc : lists ws f i = true) :
    Only ws ps s (t.incF f i) := h.setF f i _ hf hc

theorem Only.decF (h : Only ws ps s t) (f : Fld) (i n : Nat) (hf : f.ok = true) (hc : lists ws f i = true) :
    Only ws ps s (t.decF f i n) := h.setF f i _ hf hc

theorem Only.setArrBit (h : Only ws ps s t) (r : Reg) (b : Nat) (v : Bool) (hc : lists ws ⟨r, 63, 0⟩ (b / 64) = true) :
    Only ws ps s (t.setArrBit r b v) := h.setEntry r _ _ hc

/-- A step that leaves the registers and the queue of commands, and every part that is not listed. -/
theorem Only.part (h : Only ws ps s t) (hr : u.regs = t.regs) (hq : u.pending = t.pending) (hp : ∀ p, p ∉ ps → p.same t u) :
    Only ws ps s u :=
  ⟨fun r i b hb => by rw [State.getReg_congr hr]; exact h.regs r i b hb,
    fun p hm => Part.same_trans (h.parts p hm) (hp p hm), hq.trans h.pending⟩

theorem Only.ite (c : Prop) [Decidable c] (h1 : Only ws ps s t) (h2 : Only ws ps s u) : Only ws ps s (if c then t else u) := by
  split
  · exact h1
  · exact h2

theorem Only.foldl {α : Type} (f : State → α → State) (hf : ∀ z x, Only ws ps s z → Only ws ps s (f z x)) (l : List α)
    (h : Only ws ps s t) : Only ws ps s (l.foldl f t) := by
  induction l generalizing t with
  | nil => exact h
  | cons x l ih => exact ih (hf t x h)

/-! ### One part replaced -/

theorem Only.withTime (h : Only ws ps s t) (hp : Part.time ∈ ps) {x} : Only ws ps s { t with time := x } :=
  h.part rfl rfl (fun q hq => by cases q <;> first | rfl | exact absurd hp hq)

theorem Only.withQm (h : Only ws ps s t) (hp : Part.qm ∈ ps) {x} : Only ws ps s { t with qm := x } :=
  h.part rfl rfl (fun q hq => by cases q <;> first | rfl | exact absurd hp hq)

theorem Only.withWin (h : Only ws ps s t) (hp : Part.win ∈ ps) {x} : Only ws ps s { t with win := x } :=
  h.part rfl rfl (fun q hq => by cases q <;> first | rfl | exact absurd hp hq)

theorem Only.withEx (h : Only ws ps s t) (hp : Part.ex ∈ ps) {x} : Only ws ps s { t with ex := x } :=
  h.part rfl rfl (fun q hq => by cases q <;> first | rfl | exact absurd hp hq)

theorem Only.withCtxs (h : Only ws ps s t) (hp : Part.ctxs ∈ ps) {x} : Only ws ps s { t with ctxs := x } :=
  h.part rfl rfl (fun q hq => by cases q <;> first | rfl | exact absurd hp hq)

theorem Only.withCores (h : Only ws ps s t) (hp : Part.cores ∈ ps) {x} : Only ws ps s { t with cores := x } :=
  h.part rfl rfl (fun q hq => by cases q <;> first | rfl | exact absurd hp hq)

theorem Only.withMbox (h : Only ws ps s t) (hp : Part.mbox ∈ ps) {x} : Only ws ps s { t with mbox := x } :=
  h.part rfl rfl (fun q hq => by cases q <;> first | rfl | exact absurd hp hq)

theorem Only.withLoad (h : Only ws ps s t) (hp : Part.load ∈ ps) {x} : Only ws ps s { t with load := x } :=
  h.part rfl rfl (fun q hq => by cases q <;> first | rfl | exact absurd hp hq)

theorem Only.withSaves (h : Only ws ps s t) (hp : Part.saves ∈ ps) {x} : Only ws ps s { t with saves := x } :=
  h.part rfl rfl (fun q hq => by cases q <;> first | rfl | exact absurd hp hq)

theorem Only.withRestores (h : Only ws ps s t) (hp : Part.restores ∈ ps) {x} : Only ws ps s { t with restores := x } :=
  h.part rfl rfl (fun q hq => by cases q <;> first | rfl | exact absurd hp hq)

theorem Only.withTaps (h : Only ws ps s t) (hp : Part.taps ∈ ps) {x} : Only ws ps s { t with taps := x } :=
  h.part rfl rfl (fun q hq => by cases q <;> first | rfl | exact absurd hp hq)

theorem Only.withFunnel (h : Only ws ps s t) (hp : Part.funnel ∈ ps) {x} : Only ws ps s { t with funnel := x } :=
  h.part rfl rfl (fun q hq => by cases q <;> first | rfl | exact absurd hp hq)

theorem Only.withSeqrs (h : Only ws ps s t) (hp : Part.seqrs ∈ ps) {x} : Only ws ps s { t with seqrs := x } :=
  h.part rfl rfl (fun q hq => by cases q <;> first | rfl | exact absurd hp hq)

theorem Only.withLedgers (h : Only ws ps s t) (hp : Part.ledgers ∈ ps) {x} : Only ws ps s { t with ledgers := x } :=
  h.part rfl rfl (fun q hq => by cases q <;> first | rfl | exact absurd hp hq)

theorem Only.withWatches (h : Only ws ps s t) (hp : Part.watches ∈ ps) {x} : Only ws ps s { t with watches := x } :=
  h.part rfl rfl (fun q hq => by cases q <;> first | rfl | exact absurd hp hq)

theorem Only.withSalt (h : Only ws ps s t) (hp : Part.salt ∈ ps) {x} : Only ws ps s { t with salt := x } :=
  h.part rfl rfl (fun q hq => by cases q <;> first | rfl | exact absurd hp hq)

theorem Only.withHost (h : Only ws ps s t) (hp : Part.host ∈ ps) {x} : Only ws ps s { t with host := x } :=
  h.part rfl rfl (fun q hq => by cases q <;> first | rfl | exact absurd hp hq)

theorem Only.withMemBad (h : Only ws ps s t) (hp : Part.memBad ∈ ps) {x} : Only ws ps s { t with memBad := x } :=
  h.part rfl rfl (fun q hq => by cases q <;> first | rfl | exact absurd hp hq)

theorem Only.withImago (h : Only ws ps s t) (hp : Part.imago ∈ ps) {x} : Only ws ps s { t with imago := x } :=
  h.part rfl rfl (fun q hq => by cases q <;> first | rfl | exact absurd hp hq)

theorem Only.withLeases (h : Only ws ps s t) (hp : Part.leases ∈ ps) {x} : Only ws ps s { t with leases := x } :=
  h.part rfl rfl (fun q hq => by cases q <;> first | rfl | exact absurd hp hq)

theorem Only.withMtx (h : Only ws ps s t) (hp : Part.mtx ∈ ps) {x} : Only ws ps s { t with mtx := x } :=
  h.part rfl rfl (fun q hq => by cases q <;> first | rfl | exact absurd hp hq)

theorem Only.withPair (h : Only ws ps s t) (hp : Part.pair ∈ ps) {x} : Only ws ps s { t with pair := x } :=
  h.part rfl rfl (fun q hq => by cases q <;> first | rfl | exact absurd hp hq)

theorem Only.withBoard (h : Only ws ps s t) (hp : Part.board ∈ ps) {x} : Only ws ps s { t with board := x } :=
  h.part rfl rfl (fun q hq => by cases q <;> first | rfl | exact absurd hp hq)

theorem Only.withUs (h : Only ws ps s t) (hp : Part.us ∈ ps) {x} : Only ws ps s { t with us := x } :=
  h.part rfl rfl (fun q hq => by cases q <;> first | rfl | exact absurd hp hq)

theorem Only.withInReset (h : Only ws ps s t) (hp : Part.inReset ∈ ps) {x} : Only ws ps s { t with inReset := x } :=
  h.part rfl rfl (fun q hq => by cases q <;> first | rfl | exact absurd hp hq)

theorem Only.withOut (h : Only ws ps s t) (hp : Part.out ∈ ps) {x} : Only ws ps s { t with out := x } :=
  h.part rfl rfl (fun q hq => by cases q <;> first | rfl | exact absurd hp hq)

theorem Only.withHostResp (h : Only ws ps s t) (hp : Part.hostResp ∈ ps) {x} : Only ws ps s { t with hostResp := x } :=
  h.part rfl rfl (fun q hq => by cases q <;> first | rfl | exact absurd hp hq)

theorem Only.withFreeCtr (h : Only ws ps s t) (hp : Part.freeCtr ∈ ps) {x} : Only ws ps s { t with freeCtr := x } :=
  h.part rfl rfl (fun q hq => by cases q <;> first | rfl | exact absurd hp hq)


/-! ### Outputs, free values, interrupts, counters -/

theorem counterSpots_form : counterSpots ⊆ formSpots := List.subset_append_right _ _

theorem irqSpots_tenant : irqSpots ⊆ tenantIrqSpots := fun p hp => by
  simp only [irqSpots, List.mem_singleton] at hp; simp [tenantIrqSpots, hp]

theorem State.emit_only (h : Only ws ps s t) (ho : Part.out ∈ ps) (o : Out) : Only ws ps s (t.emit o) := h.withOut ho

theorem State.draw_only (h : Only ws ps s t) (hp : Part.freeCtr ∈ ps) : Only ws ps s t.draw.2 := h.withFreeCtr hp

theorem State.raise_only (h : Only ws ps s t) (hw : irqSpots ⊆ ws) (ho : Part.out ∈ ps) (v : Nat) : Only ws ps s (t.raise v) := by
  have h1 := h.setArrBit .IRQ_PEND v true (lists_mono hw rfl)
  unfold State.raise
  exact Only.ite _ h (Only.ite _ (State.emit_only h1 ho _) h1)

theorem State.raiseTenant_only (h : Only ws ps s t) (hw : tenantIrqSpots ⊆ ws) (ho : Part.out ∈ ps) (n : Nat) (f : Fld)
    (hf : f.ok = true) (hr : f.reg = .IRQ_TCAUSE) : Only ws ps s (t.raiseTenant n f) := by
  have hc : lists tenantIrqSpots f n = true := by
    have := (Fld.ok_iff.1 hf).2
    simp [lists, tenantIrqSpots, Reg.all, hr]; omega
  exact State.raise_only (h.setFlag f n true hf (lists_mono hw hc)) (List.Subset.trans irqSpots_tenant hw) ho _

theorem State.addCounter_only (h : Only ws ps s t) (hw : counterSpots ⊆ ws) (i v : Nat) : Only ws ps s (t.addCounter i v) := by
  have h1 := h.setEntry .CTR_LIVE i (BitVec.ofNat 64 ((t.getReg .CTR_LIVE i).toNat + v)) (lists_mono hw rfl)
  unfold State.addCounter
  exact Only.ite _ h1 (h1.setArrBit .CTR_OVF i true (lists_mono hw rfl))

theorem State.countBlock_only (h : Only ws ps s t) (hw : counterSpots ⊆ ws) (j n : Nat) : Only ws ps s (t.countBlock j n) :=
  State.addCounter_only h hw _ _

theorem State.tap_only (h : Only ws ps s t) (hp : Part.taps ∈ ps) (a ev n : Nat) : Only ws ps s (t.tap a ev n) :=
  Only.ite _ (h.withTaps hp) h

theorem State.sendMir_only (h : Only ws ps s t) (hp : Part.mtx ∈ ps) (m : MirMsg) : Only ws ps s (t.sendMir m) := by
  unfold State.sendMir
  exact Only.ite _ h (Only.ite _ (h.withMtx hp) (h.withMtx hp))

end Sys2Proof.Machine
end

