-- ==== Sys2Proof/Laws/Imago.lean ====
section
/-! SUPPORT. The free values of the imago units' table-driven functions keep the bound of R353. -/

namespace Sys2Proof.Machine

/-- Where some FP32 value keeps the bound, the result keeps it. -/
theorem tableResult_within {k : Nat} {x : BitVec 32} {n : Bool} {m : Nat} {e y : Int} (hx : fread x = .fin n m e)
    (hy : fxTable k (signedAt n m e (-160)) = some y)
    (hn : fxWithin (fread (tableNear y)) y = true) :
    fxWithin (fread (tableResult k x)) y = true := by
  unfold tableResult
  simp only [hx, hy]
  by_cases h : fxWithin (fread (fwrite (fread (Config.tableFunction k x)))) y = true
  · simp [h]
  · simp [h, hn]

end Sys2Proof.Machine
end

