-- ==== Sys2Proof/Laws/Records.lean ====
section
/-! SUPPORT. The frame of forming a record: whatever a unit offers to the queue manager, with the LOSS records and window counts that follow, it
changes nothing but `formSpots` and `formParts`. -/

namespace Sys2Proof.Machine

variable {ws : List Spot} {ps : List Part} {s t : State}

section
variable (h : Only ws ps s t) (hw : formSpots ⊆ ws) (hp : formParts ⊆ ps)
include h hw hp

theorem State.setQueue_only (q : Nat) (x : Queue) : Only ws ps s (t.setQueue q x) :=
  Only.setFlag (h.withQm (hp (by decide))) QM_QSTAT_MARK_SET q _ rfl (lists_mono hw rfl)

omit hw in
theorem State.setWindow_only (n : Nat) (x : Window) : Only ws ps s (t.setWindow n x) := h.withWin (hp (by decide))

omit hp in
theorem State.showFull_only (n : Nat) : Only ws ps s (t.showFull n) := h.setFlag QT_USE_FULL n _ rfl (lists_mono hw rfl)

theorem State.allocCell_only (n q : Nat) : Only ws ps s (t.allocCell n q).1 := by
  unfold State.allocCell
  split
  · exact h
  · rename_i x _
    refine State.countBlock_only (State.showFull_only ?_ hw n) (List.Subset.trans counterSpots_form hw) 5 1
    refine Only.incF (Only.incF (Only.decF ?_ QM_POOL_FREE 0 1 rfl (lists_mono hw rfl)) QT_USE_RESIDENT n rfl (lists_mono hw rfl))
      QM_QSTAT_RESIDENT q rfl (lists_mono hw rfl)
    exact (h.withQm (x := { t.qm with used := smSet false t.qm.used x true, bankPtr := (x / 4096 + 1) % 64 })
      (hp (by decide))).withFreeCtr (x := t.freeCtr + 1) (hp (by decide))

theorem State.freeCell_only (n x : Nat) : Only ws ps s (t.freeCell n x) := by
  have h1 := h.withQm (x := { t.qm with used := smSet false t.qm.used x false }) (hp (by decide))
  refine State.showFull_only ?_ hw n
  refine Only.decF ?_ QT_USE_RESIDENT n 1 rfl (lists_mono hw rfl)
  exact Only.ite _ h1 (h1.incF QM_POOL_FREE 0 rfl (lists_mono hw rfl))

theorem State.freeCellOf_only (q x : Nat) : Only ws ps s (t.freeCellOf q x) :=
  (State.freeCell_only h hw hp _ x).decF QM_QSTAT_RESIDENT q 1 rfl (lists_mono hw rfl)

theorem State.sweep_only (q : Nat) : Only ws ps s (t.sweep q) :=
  Only.foldl _ (fun _ i hz => State.freeCellOf_only hz hw hp q i) _ (State.setQueue_only h hw hp q _)

omit hw in
theorem State.closeTally_only (n : Nat) : Only ws ps s (t.closeTally n) := by
  unfold State.closeTally
  split
  · exact h
  · exact h.withWin (hp (by decide))

omit hw in
theorem State.lose_only (r : Rec) (cause : Nat) (formed : Bool) : Only ws ps s (t.lose r cause formed) := by
  unfold State.lose
  refine Only.ite _ h ?_
  dsimp only
  split
  · exact Only.ite _ (h.withWin (hp (by decide))) ((State.closeTally_only h hp _).withWin (hp (by decide)))
  · exact h.withWin (hp (by decide))

omit hw in
theorem State.settleTallies_only (n gen : Nat) : Only ws ps s (t.settleTallies n gen) :=
  Only.foldl _ (fun _ k hz => State.closeTally_only hz hp k) _ h

theorem State.recycle_only (q : Nat) : Only ws ps s (t.recycle q) := by
  unfold State.recycle
  dsimp only
  split
  · exact h
  · refine Only.foldl _ (fun _ r hz => State.lose_only hz hp r 5 true) _ (State.freeCellOf_only (Only.decF ?_ QM_QSTAT_COUNT q _ rfl
      (lists_mono hw rfl)) hw hp q _)
    have h1 := fun x => State.setQueue_only h hw hp q x
    exact Only.ite _ ((h1 _).setFlag QM_QSTAT_MARK_LOST q true rfl (lists_mono hw rfl)) (h1 _)

theorem State.place_only (q : Nat) (r : Rec) : Only ws ps s (t.place q r) := by
  unfold State.place
  dsimp only
  refine Only.incF (State.setQueue_only ?_ hw hp q _) QM_QSTAT_COUNT q rfl (lists_mono hw rfl)
  refine Only.ite _ h ?_
  refine State.setQueue_only (State.allocCell_only (State.setQueue_only ?_ hw hp q _) hw hp _ q) hw hp q _
  exact Only.ite _ (State.recycle_only h hw hp q) h

omit hw in
theorem State.takeSeq_only (r : Rec) : Only ws ps s (t.takeSeq r).1 := by
  unfold State.takeSeq
  split
  · exact h
  · exact h.withQm (hp (by decide))

theorem State.dropQueue_only (q : Nat) : Only ws ps s (t.dropQueue q).1 := by
  have h1 := (State.setQueue_only h hw hp q {}).withQm (hp (by decide))
    (x := { (t.setQueue q {}).qm with waiting := (t.setQueue q {}).qm.waiting ++
      [{ queue := q, incarn := t.getF QM_QSTAT_INCARN q, tenant := t.getF QM_QCFG_TENANT q, cells := (t.queue q).cells.map (·.idx) }] })
  exact (((h1.setF QM_QSTAT_INCARN q _ rfl (lists_mono hw rfl)).setF QM_QSTAT_COUNT q 0 rfl (lists_mono hw rfl)).setF
    QM_QSTAT_RESIDENT q 0 rfl (lists_mono hw rfl)).setFlag QM_QSTAT_FROZEN q false rfl (lists_mono hw rfl)

omit hw in
theorem State.setSeqr_only (n : Nat) (x : Seqr) : Only ws ps s (t.setSeqr n x) := h.withSeqrs (hp (by decide))

omit hw in
theorem State.countSeq_only (n kind : Nat) (p : Nat → Bool) : Only ws ps s (t.countSeq n kind p) :=
  Only.ite _ (Only.foldl _ (fun _ k hz => by
    unfold State.countCmp
    exact Only.ite _ (State.setSeqr_only hz hp n _) hz) _ h) h

omit hw in
theorem State.seqRecord_only (n typ source : Nat) : Only ws ps s (t.seqRecord n typ source) := State.countSeq_only h hp _ _ _

omit hw in
theorem State.seqDeviation_only (n kind : Nat) : Only ws ps s (t.seqDeviation n kind) := State.countSeq_only h hp _ _ _

theorem State.take_only (q : Nat) (r : Rec) : Only ws ps s (t.take q r) := by
  unfold State.take
  have h1 := fun x => State.place_only (State.takeSeq_only h hp r) hw hp q x
  have h2 : ∀ n w x, Only ws ps s (if n = true then State.place (t.takeSeq r).1 q x else
      (State.place (t.takeSeq r).1 q x).setWindow r.tenant w) :=
    fun n w x => Only.ite _ (h1 x) (State.setWindow_only (h1 x) hp r.tenant w)
  have h3 := fun n w x => State.seqRecord_only (h2 n w x) hp r.tenant r.typ r.source
  dsimp only
  split
  · exact Only.ite _ (State.closeTally_only (h3 _ _ _) hp _) (h3 _ _ _)
  · exact h3 _ _ _

theorem State.offerRec_only (r : Rec) : Only ws ps s (t.offerRec r).1 := by
  have h0 : Only ws ps s (if r.source < 0x8000 then (r.seq, t) else t.offer r.source).2 := by
    split
    · exact h
    · exact h.withQm (hp (by decide))
  unfold State.offerRec
  revert h0
  generalize (if r.source < 0x8000 then (r.seq, t) else t.offer r.source) = x
  obtain ⟨n, z⟩ := x
  intro h0
  dsimp only
  split
  · exact State.lose_only (State.countBlock_only (Only.incF h0 EX_SHSTAT_SHED r.tenant rfl (lists_mono hw rfl))
      (List.Subset.trans counterSpots_form hw) 10 r.slots) hp r 11 false
  · split
    · exact State.lose_only (Only.incF h0 QT_USE_REFUSED r.tenant rfl (lists_mono hw rfl)) hp r 3 false
    · split
      · exact h0
      · split
        · exact State.take_only h0 hw hp _ r
        · exact State.lose_only (Only.incF (Only.ite _ (Only.incF h0 QM_ERR_POOL 0 rfl (lists_mono hw rfl)) h0) QT_USE_REFUSED r.tenant rfl
          (lists_mono hw rfl)) hp r _ false

end

theorem State.formLosses_only (hw : formSpots ⊆ ws) (hp : formParts ⊆ ps) (n : Nat) :
    ∀ t, Only ws ps s t → Only ws ps s (State.formLosses n t) := by
  induction n with
  | zero => exact fun _ h => h
  | succ n ih =>
    intro t h
    unfold State.formLosses
    split
    · exact h
    · rename_i y _
      have h1 := State.offerRec_only h hw hp (t.lossRec y)
      revert h1
      generalize t.offerRec (t.lossRec y) = z
      intro h1
      exact ih _ (h1.withWin (hp (by decide)))

theorem State.settleLosses_only (h : Only ws ps s t) (hw : formSpots ⊆ ws) (hp : formParts ⊆ ps) : Only ws ps s t.settleLosses :=
  State.formLosses_only hw hp _ _ h

theorem State.append_only (hw : formSpots ⊆ ws) (hp : formParts ⊆ ps) (n : Nat) :
    ∀ t, Only ws ps s t → ∀ r, Only ws ps s (State.append n t r).1 := by
  induction n with
  | zero => exact fun _ h _ => h
  | succ n ih =>
    intro t h r
    have h1 := State.offerRec_only h hw hp r
    unfold State.append
    dsimp only
    split
    · exact ih _ (Only.incF (Only.setFlag (State.dropQueue_only h1 hw hp _) QM_QSTAT_QERR _ true rfl (lists_mono hw rfl)) QM_ERR_QERR 0 rfl
        (lists_mono hw rfl)) _
    · exact State.settleLosses_only h1 hw hp

section
variable (h : Only ws ps s t) (hw : formSpots ⊆ ws) (hp : formParts ⊆ ps)
include h hw hp

/-- Forming a record changes nothing else. -/
theorem State.form_only (r : Rec) : Only ws ps s (t.form r) := State.append_only hw hp _ _ h _

theorem State.alarm_only (tenant source code : Nat) (detail : List Byte) : Only ws ps s (t.alarm tenant source code detail) :=
  State.form_only h hw hp _

theorem State.resetQueue_only (q cause : Nat) : Only ws ps s (t.resetQueue q cause) := by
  have h1 := State.dropQueue_only h hw hp q
  exact State.form_only (Only.ite _ h1 (Only.incF (Only.setFlag h1 QM_QSTAT_QERR q true rfl (lists_mono hw rfl)) QM_ERR_QERR 0 rfl
    (lists_mono hw rfl))) hw hp _

end

end Sys2Proof.Machine
end

