-- ==== Sys2Proof/Laws/State.lean ====
section
/-! SUPPORT. One lemma for each field of the state under each of the elementary updates, and what is read of a context, a core or a register
after them. -/

namespace Sys2Proof.Machine

variable (s : State)

/-! ### setReg -/

@[simp] theorem State.setReg_time (r : Reg) (i : Nat) (v : Word) : (s.setReg r i v).time = s.time := rfl
@[simp] theorem State.setReg_qm (r : Reg) (i : Nat) (v : Word) : (s.setReg r i v).qm = s.qm := rfl
@[simp] theorem State.setReg_win (r : Reg) (i : Nat) (v : Word) : (s.setReg r i v).win = s.win := rfl
@[simp] theorem State.setReg_ex (r : Reg) (i : Nat) (v : Word) : (s.setReg r i v).ex = s.ex := rfl
@[simp] theorem State.setReg_ctxs (r : Reg) (i : Nat) (v : Word) : (s.setReg r i v).ctxs = s.ctxs := rfl
@[simp] theorem State.setReg_cores (r : Reg) (i : Nat) (v : Word) : (s.setReg r i v).cores = s.cores := rfl
@[simp] theorem State.setReg_mbox (r : Reg) (i : Nat) (v : Word) : (s.setReg r i v).mbox = s.mbox := rfl
@[simp] theorem State.setReg_load (r : Reg) (i : Nat) (v : Word) : (s.setReg r i v).load = s.load := rfl
@[simp] theorem State.setReg_saves (r : Reg) (i : Nat) (v : Word) : (s.setReg r i v).saves = s.saves := rfl
@[simp] theorem State.setReg_restores (r : Reg) (i : Nat) (v : Word) : (s.setReg r i v).restores = s.restores := rfl
@[simp] theorem State.setReg_taps (r : Reg) (i : Nat) (v : Word) : (s.setReg r i v).taps = s.taps := rfl
@[simp] theorem State.setReg_funnel (r : Reg) (i : Nat) (v : Word) : (s.setReg r i v).funnel = s.funnel := rfl
@[simp] theorem State.setReg_seqrs (r : Reg) (i : Nat) (v : Word) : (s.setReg r i v).seqrs = s.seqrs := rfl
@[simp] theorem State.setReg_ledgers (r : Reg) (i : Nat) (v : Word) : (s.setReg r i v).ledgers = s.ledgers := rfl
@[simp] theorem State.setReg_watches (r : Reg) (i : Nat) (v : Word) : (s.setReg r i v).watches = s.watches := rfl
@[simp] theorem State.setReg_salt (r : Reg) (i : Nat) (v : Word) : (s.setReg r i v).salt = s.salt := rfl
@[simp] theorem State.setReg_host (r : Reg) (i : Nat) (v : Word) : (s.setReg r i v).host = s.host := rfl
@[simp] theorem State.setReg_memBad (r : Reg) (i : Nat) (v : Word) : (s.setReg r i v).memBad = s.memBad := rfl
@[simp] theorem State.setReg_imago (r : Reg) (i : Nat) (v : Word) : (s.setReg r i v).imago = s.imago := rfl
@[simp] theorem State.setReg_leases (r : Reg) (i : Nat) (v : Word) : (s.setReg r i v).leases = s.leases := rfl
@[simp] theorem State.setReg_mtx (r : Reg) (i : Nat) (v : Word) : (s.setReg r i v).mtx = s.mtx := rfl
@[simp] theorem State.setReg_pair (r : Reg) (i : Nat) (v : Word) : (s.setReg r i v).pair = s.pair := rfl
@[simp] theorem State.setReg_board (r : Reg) (i : Nat) (v : Word) : (s.setReg r i v).board = s.board := rfl
@[simp] theorem State.setReg_us (r : Reg) (i : Nat) (v : Word) : (s.setReg r i v).us = s.us := rfl
@[simp] theorem State.setReg_inReset (r : Reg) (i : Nat) (v : Word) : (s.setReg r i v).inReset = s.inReset := rfl
@[simp] theorem State.setReg_out (r : Reg) (i : Nat) (v : Word) : (s.setReg r i v).out = s.out := rfl
@[simp] theorem State.setReg_hostResp (r : Reg) (i : Nat) (v : Word) : (s.setReg r i v).hostResp = s.hostResp := rfl
@[simp] theorem State.setReg_freeCtr (r : Reg) (i : Nat) (v : Word) : (s.setReg r i v).freeCtr = s.freeCtr := rfl
@[simp] theorem State.setReg_pending (r : Reg) (i : Nat) (v : Word) : (s.setReg r i v).pending = s.pending := rfl

/-! ### setF -/

@[simp] theorem State.setF_time (f : Fld) (i v : Nat) : (s.setF f i v).time = s.time := rfl
@[simp] theorem State.setF_qm (f : Fld) (i v : Nat) : (s.setF f i v).qm = s.qm := rfl
@[simp] theorem State.setF_win (f : Fld) (i v : Nat) : (s.setF f i v).win = s.win := rfl
@[simp] theorem State.setF_ex (f : Fld) (i v : Nat) : (s.setF f i v).ex = s.ex := rfl
@[simp] theorem State.setF_ctxs (f : Fld) (i v : Nat) : (s.setF f i v).ctxs = s.ctxs := rfl
@[simp] theorem State.setF_cores (f : Fld) (i v : Nat) : (s.setF f i v).cores = s.cores := rfl
@[simp] theorem State.setF_mbox (f : Fld) (i v : Nat) : (s.setF f i v).mbox = s.mbox := rfl
@[simp] theorem State.setF_load (f : Fld) (i v : Nat) : (s.setF f i v).load = s.load := rfl
@[simp] theorem State.setF_saves (f : Fld) (i v : Nat) : (s.setF f i v).saves = s.saves := rfl
@[simp] theorem State.setF_restores (f : Fld) (i v : Nat) : (s.setF f i v).restores = s.restores := rfl
@[simp] theorem State.setF_taps (f : Fld) (i v : Nat) : (s.setF f i v).taps = s.taps := rfl
@[simp] theorem State.setF_funnel (f : Fld) (i v : Nat) : (s.setF f i v).funnel = s.funnel := rfl
@[simp] theorem State.setF_seqrs (f : Fld) (i v : Nat) : (s.setF f i v).seqrs = s.seqrs := rfl
@[simp] theorem State.setF_ledgers (f : Fld) (i v : Nat) : (s.setF f i v).ledgers = s.ledgers := rfl
@[simp] theorem State.setF_watches (f : Fld) (i v : Nat) : (s.setF f i v).watches = s.watches := rfl
@[simp] theorem State.setF_salt (f : Fld) (i v : Nat) : (s.setF f i v).salt = s.salt := rfl
@[simp] theorem State.setF_host (f : Fld) (i v : Nat) : (s.setF f i v).host = s.host := rfl
@[simp] theorem State.setF_memBad (f : Fld) (i v : Nat) : (s.setF f i v).memBad = s.memBad := rfl
@[simp] theorem State.setF_imago (f : Fld) (i v : Nat) : (s.setF f i v).imago = s.imago := rfl
@[simp] theorem State.setF_leases (f : Fld) (i v : Nat) : (s.setF f i v).leases = s.leases := rfl
@[simp] theorem State.setF_mtx (f : Fld) (i v : Nat) : (s.setF f i v).mtx = s.mtx := rfl
@[simp] theorem State.setF_pair (f : Fld) (i v : Nat) : (s.setF f i v).pair = s.pair := rfl
@[simp] theorem State.setF_board (f : Fld) (i v : Nat) : (s.setF f i v).board = s.board := rfl
@[simp] theorem State.setF_us (f : Fld) (i v : Nat) : (s.setF f i v).us = s.us := rfl
@[simp] theorem State.setF_inReset (f : Fld) (i v : Nat) : (s.setF f i v).inReset = s.inReset := rfl
@[simp] theorem State.setF_out (f : Fld) (i v : Nat) : (s.setF f i v).out = s.out := rfl
@[simp] theorem State.setF_hostResp (f : Fld) (i v : Nat) : (s.setF f i v).hostResp = s.hostResp := rfl
@[simp] theorem State.setF_freeCtr (f : Fld) (i v : Nat) : (s.setF f i v).freeCtr = s.freeCtr := rfl
@[simp] theorem State.setF_pending (f : Fld) (i v : Nat) : (s.setF f i v).pending = s.pending := rfl

/-! ### setFlag -/

@[simp] theorem State.setFlag_time (f : Fld) (i : Nat) (b : Bool) : (s.setFlag f i b).time = s.time := rfl
@[simp] theorem State.setFlag_qm (f : Fld) (i : Nat) (b : Bool) : (s.setFlag f i b).qm = s.qm := rfl
@[simp] theorem State.setFlag_win (f : Fld) (i : Nat) (b : Bool) : (s.setFlag f i b).win = s.win := rfl
@[simp] theorem State.setFlag_ex (f : Fld) (i : Nat) (b : Bool) : (s.setFlag f i b).ex = s.ex := rfl
@[simp] theorem State.setFlag_ctxs (f : Fld) (i : Nat) (b : Bool) : (s.setFlag f i b).ctxs = s.ctxs := rfl
@[simp] theorem State.setFlag_cores (f : Fld) (i : Nat) (b : Bool) : (s.setFlag f i b).cores = s.cores := rfl
@[simp] theorem State.setFlag_mbox (f : Fld) (i : Nat) (b : Bool) : (s.setFlag f i b).mbox = s.mbox := rfl
@[simp] theorem State.setFlag_load (f : Fld) (i : Nat) (b : Bool) : (s.setFlag f i b).load = s.load := rfl
@[simp] theorem State.setFlag_saves (f : Fld) (i : Nat) (b : Bool) : (s.setFlag f i b).saves = s.saves := rfl
@[simp] theorem State.setFlag_restores (f : Fld) (i : Nat) (b : Bool) : (s.setFlag f i b).restores = s.restores := rfl
@[simp] theorem State.setFlag_taps (f : Fld) (i : Nat) (b : Bool) : (s.setFlag f i b).taps = s.taps := rfl
@[simp] theorem State.setFlag_funnel (f : Fld) (i : Nat) (b : Bool) : (s.setFlag f i b).funnel = s.funnel := rfl
@[simp] theorem State.setFlag_seqrs (f : Fld) (i : Nat) (b : Bool) : (s.setFlag f i b).seqrs = s.seqrs := rfl
@[simp] theorem State.setFlag_ledgers (f : Fld) (i : Nat) (b : Bool) : (s.setFlag f i b).ledgers = s.ledgers := rfl
@[simp] theorem State.setFlag_watches (f : Fld) (i : Nat) (b : Bool) : (s.setFlag f i b).watches = s.watches := rfl
@[simp] theorem State.setFlag_salt (f : Fld) (i : Nat) (b : Bool) : (s.setFlag f i b).salt = s.salt := rfl
@[simp] theorem State.setFlag_host (f : Fld) (i : Nat) (b : Bool) : (s.setFlag f i b).host = s.host := rfl
@[simp] theorem State.setFlag_memBad (f : Fld) (i : Nat) (b : Bool) : (s.setFlag f i b).memBad = s.memBad := rfl
@[simp] theorem State.setFlag_imago (f : Fld) (i : Nat) (b : Bool) : (s.setFlag f i b).imago = s.imago := rfl
@[simp] theorem State.setFlag_leases (f : Fld) (i : Nat) (b : Bool) : (s.setFlag f i b).leases = s.leases := rfl
@[simp] theorem State.setFlag_mtx (f : Fld) (i : Nat) (b : Bool) : (s.setFlag f i b).mtx = s.mtx := rfl
@[simp] theorem State.setFlag_pair (f : Fld) (i : Nat) (b : Bool) : (s.setFlag f i b).pair = s.pair := rfl
@[simp] theorem State.setFlag_board (f : Fld) (i : Nat) (b : Bool) : (s.setFlag f i b).board = s.board := rfl
@[simp] theorem State.setFlag_us (f : Fld) (i : Nat) (b : Bool) : (s.setFlag f i b).us = s.us := rfl
@[simp] theorem State.setFlag_inReset (f : Fld) (i : Nat) (b : Bool) : (s.setFlag f i b).inReset = s.inReset := rfl
@[simp] theorem State.setFlag_out (f : Fld) (i : Nat) (b : Bool) : (s.setFlag f i b).out = s.out := rfl
@[simp] theorem State.setFlag_hostResp (f : Fld) (i : Nat) (b : Bool) : (s.setFlag f i b).hostResp = s.hostResp := rfl
@[simp] theorem State.setFlag_freeCtr (f : Fld) (i : Nat) (b : Bool) : (s.setFlag f i b).freeCtr = s.freeCtr := rfl
@[simp] theorem State.setFlag_pending (f : Fld) (i : Nat) (b : Bool) : (s.setFlag f i b).pending = s.pending := rfl

/-! ### addF -/

@[simp] theorem State.addF_time (f : Fld) (i n : Nat) : (s.addF f i n).time = s.time := rfl
@[simp] theorem State.addF_qm (f : Fld) (i n : Nat) : (s.addF f i n).qm = s.qm := rfl
@[simp] theorem State.addF_win (f : Fld) (i n : Nat) : (s.addF f i n).win = s.win := rfl
@[simp] theorem State.addF_ex (f : Fld) (i n : Nat) : (s.addF f i n).ex = s.ex := rfl
@[simp] theorem State.addF_ctxs (f : Fld) (i n : Nat) : (s.addF f i n).ctxs = s.ctxs := rfl
@[simp] theorem State.addF_cores (f : Fld) (i n : Nat) : (s.addF f i n).cores = s.cores := rfl
@[simp] theorem State.addF_mbox (f : Fld) (i n : Nat) : (s.addF f i n).mbox = s.mbox := rfl
@[simp] theorem State.addF_load (f : Fld) (i n : Nat) : (s.addF f i n).load = s.load := rfl
@[simp] theorem State.addF_saves (f : Fld) (i n : Nat) : (s.addF f i n).saves = s.saves := rfl
@[simp] theorem State.addF_restores (f : Fld) (i n : Nat) : (s.addF f i n).restores = s.restores := rfl
@[simp] theorem State.addF_taps (f : Fld) (i n : Nat) : (s.addF f i n).taps = s.taps := rfl
@[simp] theorem State.addF_funnel (f : Fld) (i n : Nat) : (s.addF f i n).funnel = s.funnel := rfl
@[simp] theorem State.addF_seqrs (f : Fld) (i n : Nat) : (s.addF f i n).seqrs = s.seqrs := rfl
@[simp] theorem State.addF_ledgers (f : Fld) (i n : Nat) : (s.addF f i n).ledgers = s.ledgers := rfl
@[simp] theorem State.addF_watches (f : Fld) (i n : Nat) : (s.addF f i n).watches = s.watches := rfl
@[simp] theorem State.addF_salt (f : Fld) (i n : Nat) : (s.addF f i n).salt = s.salt := rfl
@[simp] theorem State.addF_host (f : Fld) (i n : Nat) : (s.addF f i n).host = s.host := rfl
@[simp] theorem State.addF_memBad (f : Fld) (i n : Nat) : (s.addF f i n).memBad = s.memBad := rfl
@[simp] theorem State.addF_imago (f : Fld) (i n : Nat) : (s.addF f i n).imago = s.imago := rfl
@[simp] theorem State.addF_leases (f : Fld) (i n : Nat) : (s.addF f i n).leases = s.leases := rfl
@[simp] theorem State.addF_mtx (f : Fld) (i n : Nat) : (s.addF f i n).mtx = s.mtx := rfl
@[simp] theorem State.addF_pair (f : Fld) (i n : Nat) : (s.addF f i n).pair = s.pair := rfl
@[simp] theorem State.addF_board (f : Fld) (i n : Nat) : (s.addF f i n).board = s.board := rfl
@[simp] theorem State.addF_us (f : Fld) (i n : Nat) : (s.addF f i n).us = s.us := rfl
@[simp] theorem State.addF_inReset (f : Fld) (i n : Nat) : (s.addF f i n).inReset = s.inReset := rfl
@[simp] theorem State.addF_out (f : Fld) (i n : Nat) : (s.addF f i n).out = s.out := rfl
@[simp] theorem State.addF_hostResp (f : Fld) (i n : Nat) : (s.addF f i n).hostResp = s.hostResp := rfl
@[simp] theorem State.addF_freeCtr (f : Fld) (i n : Nat) : (s.addF f i n).freeCtr = s.freeCtr := rfl
@[simp] theorem State.addF_pending (f : Fld) (i n : Nat) : (s.addF f i n).pending = s.pending := rfl

/-! ### incF -/

@[simp] theorem State.incF_time (f : Fld) (i : Nat) : (s.incF f i).time = s.time := rfl
@[simp] theorem State.incF_qm (f : Fld) (i : Nat) : (s.incF f i).qm = s.qm := rfl
@[simp] theorem State.incF_win (f : Fld) (i : Nat) : (s.incF f i).win = s.win := rfl
@[simp] theorem State.incF_ex (f : Fld) (i : Nat) : (s.incF f i).ex = s.ex := rfl
@[simp] theorem State.incF_ctxs (f : Fld) (i : Nat) : (s.incF f i).ctxs = s.ctxs := rfl
@[simp] theorem State.incF_cores (f : Fld) (i : Nat) : (s.incF f i).cores = s.cores := rfl
@[simp] theorem State.incF_mbox (f : Fld) (i : Nat) : (s.incF f i).mbox = s.mbox := rfl
@[simp] theorem State.incF_load (f : Fld) (i : Nat) : (s.incF f i).load = s.load := rfl
@[simp] theorem State.incF_saves (f : Fld) (i : Nat) : (s.incF f i).saves = s.saves := rfl
@[simp] theorem State.incF_restores (f : Fld) (i : Nat) : (s.incF f i).restores = s.restores := rfl
@[simp] theorem State.incF_taps (f : Fld) (i : Nat) : (s.incF f i).taps = s.taps := rfl
@[simp] theorem State.incF_funnel (f : Fld) (i : Nat) : (s.incF f i).funnel = s.funnel := rfl
@[simp] theorem State.incF_seqrs (f : Fld) (i : Nat) : (s.incF f i).seqrs = s.seqrs := rfl
@[simp] theorem State.incF_ledgers (f : Fld) (i : Nat) : (s.incF f i).ledgers = s.ledgers := rfl
@[simp] theorem State.incF_watches (f : Fld) (i : Nat) : (s.incF f i).watches = s.watches := rfl
@[simp] theorem State.incF_salt (f : Fld) (i : Nat) : (s.incF f i).salt = s.salt := rfl
@[simp] theorem State.incF_host (f : Fld) (i : Nat) : (s.incF f i).host = s.host := rfl
@[simp] theorem State.incF_memBad (f : Fld) (i : Nat) : (s.incF f i).memBad = s.memBad := rfl
@[simp] theorem State.incF_imago (f : Fld) (i : Nat) : (s.incF f i).imago = s.imago := rfl
@[simp] theorem State.incF_leases (f : Fld) (i : Nat) : (s.incF f i).leases = s.leases := rfl
@[simp] theorem State.incF_mtx (f : Fld) (i : Nat) : (s.incF f i).mtx = s.mtx := rfl
@[simp] theorem State.incF_pair (f : Fld) (i : Nat) : (s.incF f i).pair = s.pair := rfl
@[simp] theorem State.incF_board (f : Fld) (i : Nat) : (s.incF f i).board = s.board := rfl
@[simp] theorem State.incF_us (f : Fld) (i : Nat) : (s.incF f i).us = s.us := rfl
@[simp] theorem State.incF_inReset (f : Fld) (i : Nat) : (s.incF f i).inReset = s.inReset := rfl
@[simp] theorem State.incF_out (f : Fld) (i : Nat) : (s.incF f i).out = s.out := rfl
@[simp] theorem State.incF_hostResp (f : Fld) (i : Nat) : (s.incF f i).hostResp = s.hostResp := rfl
@[simp] theorem State.incF_freeCtr (f : Fld) (i : Nat) : (s.incF f i).freeCtr = s.freeCtr := rfl
@[simp] theorem State.incF_pending (f : Fld) (i : Nat) : (s.incF f i).pending = s.pending := rfl

/-! ### decF -/

@[simp] theorem State.decF_time (f : Fld) (i n : Nat) : (s.decF f i n).time = s.time := rfl
@[simp] theorem State.decF_qm (f : Fld) (i n : Nat) : (s.decF f i n).qm = s.qm := rfl
@[simp] theorem State.decF_win (f : Fld) (i n : Nat) : (s.decF f i n).win = s.win := rfl
@[simp] theorem State.decF_ex (f : Fld) (i n : Nat) : (s.decF f i n).ex = s.ex := rfl
@[simp] theorem State.decF_ctxs (f : Fld) (i n : Nat) : (s.decF f i n).ctxs = s.ctxs := rfl
@[simp] theorem State.decF_cores (f : Fld) (i n : Nat) : (s.decF f i n).cores = s.cores := rfl
@[simp] theorem State.decF_mbox (f : Fld) (i n : Nat) : (s.decF f i n).mbox = s.mbox := rfl
@[simp] theorem State.decF_load (f : Fld) (i n : Nat) : (s.decF f i n).load = s.load := rfl
@[simp] theorem State.decF_saves (f : Fld) (i n : Nat) : (s.decF f i n).saves = s.saves := rfl
@[simp] theorem State.decF_restores (f : Fld) (i n : Nat) : (s.decF f i n).restores = s.restores := rfl
@[simp] theorem State.decF_taps (f : Fld) (i n : Nat) : (s.decF f i n).taps = s.taps := rfl
@[simp] theorem State.decF_funnel (f : Fld) (i n : Nat) : (s.decF f i n).funnel = s.funnel := rfl
@[simp] theorem State.decF_seqrs (f : Fld) (i n : Nat) : (s.decF f i n).seqrs = s.seqrs := rfl
@[simp] theorem State.decF_ledgers (f : Fld) (i n : Nat) : (s.decF f i n).ledgers = s.ledgers := rfl
@[simp] theorem State.decF_watches (f : Fld) (i n : Nat) : (s.decF f i n).watches = s.watches := rfl
@[simp] theorem State.decF_salt (f : Fld) (i n : Nat) : (s.decF f i n).salt = s.salt := rfl
@[simp] theorem State.decF_host (f : Fld) (i n : Nat) : (s.decF f i n).host = s.host := rfl
@[simp] theorem State.decF_memBad (f : Fld) (i n : Nat) : (s.decF f i n).memBad = s.memBad := rfl
@[simp] theorem State.decF_imago (f : Fld) (i n : Nat) : (s.decF f i n).imago = s.imago := rfl
@[simp] theorem State.decF_leases (f : Fld) (i n : Nat) : (s.decF f i n).leases = s.leases := rfl
@[simp] theorem State.decF_mtx (f : Fld) (i n : Nat) : (s.decF f i n).mtx = s.mtx := rfl
@[simp] theorem State.decF_pair (f : Fld) (i n : Nat) : (s.decF f i n).pair = s.pair := rfl
@[simp] theorem State.decF_board (f : Fld) (i n : Nat) : (s.decF f i n).board = s.board := rfl
@[simp] theorem State.decF_us (f : Fld) (i n : Nat) : (s.decF f i n).us = s.us := rfl
@[simp] theorem State.decF_inReset (f : Fld) (i n : Nat) : (s.decF f i n).inReset = s.inReset := rfl
@[simp] theorem State.decF_out (f : Fld) (i n : Nat) : (s.decF f i n).out = s.out := rfl
@[simp] theorem State.decF_hostResp (f : Fld) (i n : Nat) : (s.decF f i n).hostResp = s.hostResp := rfl
@[simp] theorem State.decF_freeCtr (f : Fld) (i n : Nat) : (s.decF f i n).freeCtr = s.freeCtr := rfl
@[simp] theorem State.decF_pending (f : Fld) (i n : Nat) : (s.decF f i n).pending = s.pending := rfl

/-! ### setArrBit -/

@[simp] theorem State.setArrBit_time (r : Reg) (b : Nat) (v : Bool) : (s.setArrBit r b v).time = s.time := rfl
@[simp] theorem State.setArrBit_qm (r : Reg) (b : Nat) (v : Bool) : (s.setArrBit r b v).qm = s.qm := rfl
@[simp] theorem State.setArrBit_win (r : Reg) (b : Nat) (v : Bool) : (s.setArrBit r b v).win = s.win := rfl
@[simp] theorem State.setArrBit_ex (r : Reg) (b : Nat) (v : Bool) : (s.setArrBit r b v).ex = s.ex := rfl
@[simp] theorem State.setArrBit_ctxs (r : Reg) (b : Nat) (v : Bool) : (s.setArrBit r b v).ctxs = s.ctxs := rfl
@[simp] theorem State.setArrBit_cores (r : Reg) (b : Nat) (v : Bool) : (s.setArrBit r b v).cores = s.cores := rfl
@[simp] theorem State.setArrBit_mbox (r : Reg) (b : Nat) (v : Bool) : (s.setArrBit r b v).mbox = s.mbox := rfl
@[simp] theorem State.setArrBit_load (r : Reg) (b : Nat) (v : Bool) : (s.setArrBit r b v).load = s.load := rfl
@[simp] theorem State.setArrBit_saves (r : Reg) (b : Nat) (v : Bool) : (s.setArrBit r b v).saves = s.saves := rfl
@[simp] theorem State.setArrBit_restores (r : Reg) (b : Nat) (v : Bool) : (s.setArrBit r b v).restores = s.restores := rfl
@[simp] theorem State.setArrBit_taps (r : Reg) (b : Nat) (v : Bool) : (s.setArrBit r b v).taps = s.taps := rfl
@[simp] theorem State.setArrBit_funnel (r : Reg) (b : Nat) (v : Bool) : (s.setArrBit r b v).funnel = s.funnel := rfl
@[simp] theorem State.setArrBit_seqrs (r : Reg) (b : Nat) (v : Bool) : (s.setArrBit r b v).seqrs = s.seqrs := rfl
@[simp] theorem State.setArrBit_ledgers (r : Reg) (b : Nat) (v : Bool) : (s.setArrBit r b v).ledgers = s.ledgers := rfl
@[simp] theorem State.setArrBit_watches (r : Reg) (b : Nat) (v : Bool) : (s.setArrBit r b v).watches = s.watches := rfl
@[simp] theorem State.setArrBit_salt (r : Reg) (b : Nat) (v : Bool) : (s.setArrBit r b v).salt = s.salt := rfl
@[simp] theorem State.setArrBit_host (r : Reg) (b : Nat) (v : Bool) : (s.setArrBit r b v).host = s.host := rfl
@[simp] theorem State.setArrBit_memBad (r : Reg) (b : Nat) (v : Bool) : (s.setArrBit r b v).memBad = s.memBad := rfl
@[simp] theorem State.setArrBit_imago (r : Reg) (b : Nat) (v : Bool) : (s.setArrBit r b v).imago = s.imago := rfl
@[simp] theorem State.setArrBit_leases (r : Reg) (b : Nat) (v : Bool) : (s.setArrBit r b v).leases = s.leases := rfl
@[simp] theorem State.setArrBit_mtx (r : Reg) (b : Nat) (v : Bool) : (s.setArrBit r b v).mtx = s.mtx := rfl
@[simp] theorem State.setArrBit_pair (r : Reg) (b : Nat) (v : Bool) : (s.setArrBit r b v).pair = s.pair := rfl
@[simp] theorem State.setArrBit_board (r : Reg) (b : Nat) (v : Bool) : (s.setArrBit r b v).board = s.board := rfl
@[simp] theorem State.setArrBit_us (r : Reg) (b : Nat) (v : Bool) : (s.setArrBit r b v).us = s.us := rfl
@[simp] theorem State.setArrBit_inReset (r : Reg) (b : Nat) (v : Bool) : (s.setArrBit r b v).inReset = s.inReset := rfl
@[simp] theorem State.setArrBit_out (r : Reg) (b : Nat) (v : Bool) : (s.setArrBit r b v).out = s.out := rfl
@[simp] theorem State.setArrBit_hostResp (r : Reg) (b : Nat) (v : Bool) : (s.setArrBit r b v).hostResp = s.hostResp := rfl
@[simp] theorem State.setArrBit_freeCtr (r : Reg) (b : Nat) (v : Bool) : (s.setArrBit r b v).freeCtr = s.freeCtr := rfl
@[simp] theorem State.setArrBit_pending (r : Reg) (b : Nat) (v : Bool) : (s.setArrBit r b v).pending = s.pending := rfl

/-! ### setCtx -/

@[simp] theorem State.setCtx_regs (c : Nat) (x : Ctx) : (s.setCtx c x).regs = s.regs := rfl
@[simp] theorem State.setCtx_time (c : Nat) (x : Ctx) : (s.setCtx c x).time = s.time := rfl
@[simp] theorem State.setCtx_qm (c : Nat) (x : Ctx) : (s.setCtx c x).qm = s.qm := rfl
@[simp] theorem State.setCtx_win (c : Nat) (x : Ctx) : (s.setCtx c x).win = s.win := rfl
@[simp] theorem State.setCtx_ex (c : Nat) (x : Ctx) : (s.setCtx c x).ex = s.ex := rfl
@[simp] theorem State.setCtx_cores (c : Nat) (x : Ctx) : (s.setCtx c x).cores = s.cores := rfl
@[simp] theorem State.setCtx_mbox (c : Nat) (x : Ctx) : (s.setCtx c x).mbox = s.mbox := rfl
@[simp] theorem State.setCtx_load (c : Nat) (x : Ctx) : (s.setCtx c x).load = s.load := rfl
@[simp] theorem State.setCtx_saves (c : Nat) (x : Ctx) : (s.setCtx c x).saves = s.saves := rfl
@[simp] theorem State.setCtx_restores (c : Nat) (x : Ctx) : (s.setCtx c x).restores = s.restores := rfl
@[simp] theorem State.setCtx_taps (c : Nat) (x : Ctx) : (s.setCtx c x).taps = s.taps := rfl
@[simp] theorem State.setCtx_funnel (c : Nat) (x : Ctx) : (s.setCtx c x).funnel = s.funnel := rfl
@[simp] theorem State.setCtx_seqrs (c : Nat) (x : Ctx) : (s.setCtx c x).seqrs = s.seqrs := rfl
@[simp] theorem State.setCtx_ledgers (c : Nat) (x : Ctx) : (s.setCtx c x).ledgers = s.ledgers := rfl
@[simp] theorem State.setCtx_watches (c : Nat) (x : Ctx) : (s.setCtx c x).watches = s.watches := rfl
@[simp] theorem State.setCtx_salt (c : Nat) (x : Ctx) : (s.setCtx c x).salt = s.salt := rfl
@[simp] theorem State.setCtx_host (c : Nat) (x : Ctx) : (s.setCtx c x).host = s.host := rfl
@[simp] theorem State.setCtx_memBad (c : Nat) (x : Ctx) : (s.setCtx c x).memBad = s.memBad := rfl
@[simp] theorem State.setCtx_imago (c : Nat) (x : Ctx) : (s.setCtx c x).imago = s.imago := rfl
@[simp] theorem State.setCtx_leases (c : Nat) (x : Ctx) : (s.setCtx c x).leases = s.leases := rfl
@[simp] theorem State.setCtx_mtx (c : Nat) (x : Ctx) : (s.setCtx c x).mtx = s.mtx := rfl
@[simp] theorem State.setCtx_pair (c : Nat) (x : Ctx) : (s.setCtx c x).pair = s.pair := rfl
@[simp] theorem State.setCtx_board (c : Nat) (x : Ctx) : (s.setCtx c x).board = s.board := rfl
@[simp] theorem State.setCtx_us (c : Nat) (x : Ctx) : (s.setCtx c x).us = s.us := rfl
@[simp] theorem State.setCtx_inReset (c : Nat) (x : Ctx) : (s.setCtx c x).inReset = s.inReset := rfl
@[simp] theorem State.setCtx_out (c : Nat) (x : Ctx) : (s.setCtx c x).out = s.out := rfl
@[simp] theorem State.setCtx_hostResp (c : Nat) (x : Ctx) : (s.setCtx c x).hostResp = s.hostResp := rfl
@[simp] theorem State.setCtx_freeCtr (c : Nat) (x : Ctx) : (s.setCtx c x).freeCtr = s.freeCtr := rfl
@[simp] theorem State.setCtx_pending (c : Nat) (x : Ctx) : (s.setCtx c x).pending = s.pending := rfl

/-! ### setCore -/

@[simp] theorem State.setCore_regs (k : Nat) (x : CoreSt) : (s.setCore k x).regs = s.regs := rfl
@[simp] theorem State.setCore_time (k : Nat) (x : CoreSt) : (s.setCore k x).time = s.time := rfl
@[simp] theorem State.setCore_qm (k : Nat) (x : CoreSt) : (s.setCore k x).qm = s.qm := rfl
@[simp] theorem State.setCore_win (k : Nat) (x : CoreSt) : (s.setCore k x).win = s.win := rfl
@[simp] theorem State.setCore_ex (k : Nat) (x : CoreSt) : (s.setCore k x).ex = s.ex := rfl
@[simp] theorem State.setCore_ctxs (k : Nat) (x : CoreSt) : (s.setCore k x).ctxs = s.ctxs := rfl
@[simp] theorem State.setCore_mbox (k : Nat) (x : CoreSt) : (s.setCore k x).mbox = s.mbox := rfl
@[simp] theorem State.setCore_load (k : Nat) (x : CoreSt) : (s.setCore k x).load = s.load := rfl
@[simp] theorem State.setCore_saves (k : Nat) (x : CoreSt) : (s.setCore k x).saves = s.saves := rfl
@[simp] theorem State.setCore_restores (k : Nat) (x : CoreSt) : (s.setCore k x).restores = s.restores := rfl
@[simp] theorem State.setCore_taps (k : Nat) (x : CoreSt) : (s.setCore k x).taps = s.taps := rfl
@[simp] theorem State.setCore_funnel (k : Nat) (x : CoreSt) : (s.setCore k x).funnel = s.funnel := rfl
@[simp] theorem State.setCore_seqrs (k : Nat) (x : CoreSt) : (s.setCore k x).seqrs = s.seqrs := rfl
@[simp] theorem State.setCore_ledgers (k : Nat) (x : CoreSt) : (s.setCore k x).ledgers = s.ledgers := rfl
@[simp] theorem State.setCore_watches (k : Nat) (x : CoreSt) : (s.setCore k x).watches = s.watches := rfl
@[simp] theorem State.setCore_salt (k : Nat) (x : CoreSt) : (s.setCore k x).salt = s.salt := rfl
@[simp] theorem State.setCore_host (k : Nat) (x : CoreSt) : (s.setCore k x).host = s.host := rfl
@[simp] theorem State.setCore_memBad (k : Nat) (x : CoreSt) : (s.setCore k x).memBad = s.memBad := rfl
@[simp] theorem State.setCore_imago (k : Nat) (x : CoreSt) : (s.setCore k x).imago = s.imago := rfl
@[simp] theorem State.setCore_leases (k : Nat) (x : CoreSt) : (s.setCore k x).leases = s.leases := rfl
@[simp] theorem State.setCore_mtx (k : Nat) (x : CoreSt) : (s.setCore k x).mtx = s.mtx := rfl
@[simp] theorem State.setCore_pair (k : Nat) (x : CoreSt) : (s.setCore k x).pair = s.pair := rfl
@[simp] theorem State.setCore_board (k : Nat) (x : CoreSt) : (s.setCore k x).board = s.board := rfl
@[simp] theorem State.setCore_us (k : Nat) (x : CoreSt) : (s.setCore k x).us = s.us := rfl
@[simp] theorem State.setCore_inReset (k : Nat) (x : CoreSt) : (s.setCore k x).inReset = s.inReset := rfl
@[simp] theorem State.setCore_out (k : Nat) (x : CoreSt) : (s.setCore k x).out = s.out := rfl
@[simp] theorem State.setCore_hostResp (k : Nat) (x : CoreSt) : (s.setCore k x).hostResp = s.hostResp := rfl
@[simp] theorem State.setCore_freeCtr (k : Nat) (x : CoreSt) : (s.setCore k x).freeCtr = s.freeCtr := rfl
@[simp] theorem State.setCore_pending (k : Nat) (x : CoreSt) : (s.setCore k x).pending = s.pending := rfl

/-! ### emit -/

@[simp] theorem State.emit_regs (o : Out) : (s.emit o).regs = s.regs := rfl
@[simp] theorem State.emit_time (o : Out) : (s.emit o).time = s.time := rfl
@[simp] theorem State.emit_qm (o : Out) : (s.emit o).qm = s.qm := rfl
@[simp] theorem State.emit_win (o : Out) : (s.emit o).win = s.win := rfl
@[simp] theorem State.emit_ex (o : Out) : (s.emit o).ex = s.ex := rfl
@[simp] theorem State.emit_ctxs (o : Out) : (s.emit o).ctxs = s.ctxs := rfl
@[simp] theorem State.emit_cores (o : Out) : (s.emit o).cores = s.cores := rfl
@[simp] theorem State.emit_mbox (o : Out) : (s.emit o).mbox = s.mbox := rfl
@[simp] theorem State.emit_load (o : Out) : (s.emit o).load = s.load := rfl
@[simp] theorem State.emit_saves (o : Out) : (s.emit o).saves = s.saves := rfl
@[simp] theorem State.emit_restores (o : Out) : (s.emit o).restores = s.restores := rfl
@[simp] theorem State.emit_taps (o : Out) : (s.emit o).taps = s.taps := rfl
@[simp] theorem State.emit_funnel (o : Out) : (s.emit o).funnel = s.funnel := rfl
@[simp] theorem State.emit_seqrs (o : Out) : (s.emit o).seqrs = s.seqrs := rfl
@[simp] theorem State.emit_ledgers (o : Out) : (s.emit o).ledgers = s.ledgers := rfl
@[simp] theorem State.emit_watches (o : Out) : (s.emit o).watches = s.watches := rfl
@[simp] theorem State.emit_salt (o : Out) : (s.emit o).salt = s.salt := rfl
@[simp] theorem State.emit_host (o : Out) : (s.emit o).host = s.host := rfl
@[simp] theorem State.emit_memBad (o : Out) : (s.emit o).memBad = s.memBad := rfl
@[simp] theorem State.emit_imago (o : Out) : (s.emit o).imago = s.imago := rfl
@[simp] theorem State.emit_leases (o : Out) : (s.emit o).leases = s.leases := rfl
@[simp] theorem State.emit_mtx (o : Out) : (s.emit o).mtx = s.mtx := rfl
@[simp] theorem State.emit_pair (o : Out) : (s.emit o).pair = s.pair := rfl
@[simp] theorem State.emit_board (o : Out) : (s.emit o).board = s.board := rfl
@[simp] theorem State.emit_us (o : Out) : (s.emit o).us = s.us := rfl
@[simp] theorem State.emit_inReset (o : Out) : (s.emit o).inReset = s.inReset := rfl
@[simp] theorem State.emit_hostResp (o : Out) : (s.emit o).hostResp = s.hostResp := rfl
@[simp] theorem State.emit_freeCtr (o : Out) : (s.emit o).freeCtr = s.freeCtr := rfl
@[simp] theorem State.emit_pending (o : Out) : (s.emit o).pending = s.pending := rfl

/-! ### Contexts and cores -/

@[simp] theorem State.ctx_setCtx_same (c : Nat) (x : Ctx) : (s.setCtx c x).ctx c = x := smGet_smSet_same _ _ _ _

theorem State.ctx_setCtx_ne {c d : Nat} (x : Ctx) (h : d ≠ c) : (s.setCtx c x).ctx d = s.ctx d := smGet_smSet_ne _ _ _ _ h

@[simp] theorem State.core_setCore_same (k : Nat) (x : CoreSt) : (s.setCore k x).core k = x := smGet_smSet_same _ _ _ _

theorem State.core_setCore_ne {k j : Nat} (x : CoreSt) (h : j ≠ k) : (s.setCore k x).core j = s.core j := smGet_smSet_ne _ _ _ _ h

@[simp] theorem State.core_setCtx (c k : Nat) (x : Ctx) : (s.setCtx c x).core k = s.core k := rfl

@[simp] theorem State.ctx_setCore (c k : Nat) (x : CoreSt) : (s.setCore k x).ctx c = s.ctx c := rfl

@[simp] theorem State.ctx_setReg (r : Reg) (i c : Nat) (v : Word) : (s.setReg r i v).ctx c = s.ctx c := rfl

@[simp] theorem State.core_setReg (r : Reg) (i k : Nat) (v : Word) : (s.setReg r i v).core k = s.core k := rfl

@[simp] theorem State.ctx_setF (f : Fld) (i v c : Nat) : (s.setF f i v).ctx c = s.ctx c := rfl

@[simp] theorem State.core_setF (f : Fld) (i v k : Nat) : (s.setF f i v).core k = s.core k := rfl

@[simp] theorem State.getReg_setCtx (c : Nat) (x : Ctx) (r : Reg) (i : Nat) : (s.setCtx c x).getReg r i = s.getReg r i := rfl

@[simp] theorem State.getF_setCtx (c : Nat) (x : Ctx) (f : Fld) (i : Nat) : (s.setCtx c x).getF f i = s.getF f i := rfl

@[simp] theorem State.flag_setCtx (c : Nat) (x : Ctx) (f : Fld) (i : Nat) : (s.setCtx c x).flag f i = s.flag f i := rfl

@[simp] theorem State.getReg_setCore (k : Nat) (x : CoreSt) (r : Reg) (i : Nat) : (s.setCore k x).getReg r i = s.getReg r i := rfl

@[simp] theorem State.getF_setCore (k : Nat) (x : CoreSt) (f : Fld) (i : Nat) : (s.setCore k x).getF f i = s.getF f i := rfl

@[simp] theorem State.flag_setCore (k : Nat) (x : CoreSt) (f : Fld) (i : Nat) : (s.setCore k x).flag f i = s.flag f i := rfl

@[simp] theorem State.getReg_emit (o : Out) (r : Reg) (i : Nat) : (s.emit o).getReg r i = s.getReg r i := rfl

@[simp] theorem State.getF_emit (o : Out) (f : Fld) (i : Nat) : (s.emit o).getF f i = s.getF f i := rfl

end Sys2Proof.Machine
end

