-- ==== Sys2Proof/Laws/Issue.lean ====
section
/-! SUPPORT. When commands act, and the frames of flow trace, issue and traps of a context: what every instruction does beside its own effect. -/

namespace Sys2Proof.Machine

variable {ws : List Spot} {ps : List Part} {s t : State}

/-! ### When a command acts (R403, R404) -/

theorem State.event_acts {g : Bool} (h1 : s.inReset = false) (h2 : g = true) : s.event g t = .next t := by simp [State.event, h1, h2]

theorem State.event_idles {g : Bool} (h : s.inReset = true ∨ g = false) : s.event g t = .next s := by
  rcases h with h | h <;> simp [State.event, h]

theorem State.hostDoes_acts {g : Bool} (h1 : s.ready = true) (h2 : g = true) : s.hostDoes g t = .next t := by
  simp [State.hostDoes, h1, h2]

theorem State.hostDoes_idles {g : Bool} (h : s.ready = false ∨ g = false) : s.hostDoes g t = .next s := by
  rcases h with h | h <;> simp [State.hostDoes, h]

theorem State.hostReads_answers {g : Bool} (h1 : s.ready = true) (h2 : g = true) : s.hostReads g t = .next t := by
  simp [State.hostReads, h1, h2]

theorem State.hostReads_ones {g : Bool} (h1 : s.ready = false) (h2 : g = true) :
    s.hostReads g t = .next { s with hostResp := some (BitVec.allOnes 64) } := by simp [State.hostReads, h1, h2]

/-! ### Contexts and cores -/

theorem State.setCtx_only (h : Only ws ps s t) (hp : Part.ctxs ∈ ps) (c : Nat) (x : Ctx) : Only ws ps s (t.setCtx c x) := h.withCtxs hp

theorem State.setCore_only (h : Only ws ps s t) (hp : Part.cores ∈ ps) (k : Nat) (x : CoreSt) : Only ws ps s (t.setCore k x) :=
  h.withCores hp

theorem State.retire_only (h : Only ws ps s t) (hp : Part.ctxs ∈ ps) (c : Nat) (pc : Word) : Only ws ps s (t.retire c pc) := h.withCtxs hp

theorem State.scrWrite_only (h : Only ws ps s t) (hp : Part.cores ∈ ps) (c a : Nat) (bs : List Byte) :
    Only ws ps s (t.scrWrite c a bs) := h.withCores hp

/-! ### Flow trace (R169, R170) -/

section
variable (h : Only ws ps s t) (hw : formSpots ⊆ ws) (hp : formParts ⊆ ps) (hc : Part.ctxs ∈ ps)
include h hc

theorem State.setFlow_only (c : Nat) (f : Flow) : Only ws ps s (t.setFlow c f) := h.withCtxs hc

include hw hp

theorem State.offerFlow_only (c typ slots : Nat) (payload : List Byte) : Only ws ps s (t.offerFlow c typ slots payload) := by
  have h1 := State.append_only hw hp 3 t h (t.unitRec typ slots 2 (t.tenantOf c) (0x8200 + c) payload)
  unfold State.offerFlow
  exact Only.ite _ h1 (State.setFlow_only h1 hc c _)

theorem State.syncFlow_only (c reason : Nat) : Only ws ps s (t.syncFlow c reason) :=
  State.offerFlow_only (State.setFlow_only h hc c _) hw hp hc c _ _ _

theorem State.sendFlow_only (c typ : Nat) (payload : List Byte) : Only ws ps s (t.sendFlow c typ payload) :=
  Only.ite _ (State.syncFlow_only h hw hp hc c 3) (State.offerFlow_only h hw hp hc c typ 1 payload)

theorem State.flushFlow_only (c : Nat) : Only ws ps s (t.flushFlow c) :=
  Only.ite _ h (State.sendFlow_only (State.setFlow_only h hc c _) hw hp hc c _ _)

omit hw hp in
theorem State.pushBit_only (c : Nat) (taken : Bool) : Only ws ps s (t.pushBit c taken) := Only.ite _ (State.setFlow_only h hc c _) h

theorem State.countBit_only (c : Nat) (taken : Bool) : Only ws ps s (t.countBit c taken) :=
  Only.ite _ (State.flushFlow_only (State.pushBit_only h hc c taken) hw hp hc c) (State.pushBit_only h hc c taken)

theorem State.periodFlow_only (c : Nat) : Only ws ps s (t.periodFlow c) :=
  Only.ite _ (State.syncFlow_only (State.flushFlow_only h hw hp hc c) hw hp hc c 0) h

theorem State.branchBit_only (c : Nat) (taken : Bool) : Only ws ps s (t.branchBit c taken) :=
  State.periodFlow_only (State.countBit_only h hw hp hc c taken) hw hp hc c

theorem State.targetFlow_only (c target : Nat) : Only ws ps s (t.targetFlow c target) :=
  Only.ite _ h (State.sendFlow_only (State.setFlow_only
    (Only.ite _ (State.setFlow_only h hc c _) (State.flushFlow_only h hw hp hc c)) hc c _) hw hp hc c _ _)

theorem State.firstFlow_only (c : Nat) : Only ws ps s (t.firstFlow c) := by
  have h1 := fun f => State.setFlow_only h hc c f
  exact Only.ite _ h (Only.ite _ (h1 _) (State.syncFlow_only (State.offerFlow_only (State.draw_only (h1 _) (hp (by decide))) hw hp hc c _ _ _)
    hw hp hc c 2))

theorem State.waitFlow_only (c : Nat) : Only ws ps s (t.waitFlow c) := Only.ite _ (State.flushFlow_only h hw hp hc c) h

theorem State.endFlow_only (c : Nat) : Only ws ps s (t.endFlow c) := by
  have h1 := State.flushFlow_only (State.draw_only h (hp (by decide))) hw hp hc c
  have h2 := State.syncFlow_only h1 hw hp hc c 3
  exact Only.ite _ h (Only.ite _ (Only.ite _ h2 h1) (State.offerFlow_only (Only.ite _ h2 h1) hw hp hc c _ _ _))

/-! ### Issue and traps (R105, R166) -/

theorem State.begin_only (c : Nat) (hs : lists ws CORE_STAT_ISSUED (coreOf c) = true) (hk : Part.cores ∈ ps) :
    Only ws ps s (t.begin c) :=
  State.firstFlow_only (State.countBlock_only (Only.incF (State.setCore_only h hk (coreOf c) _) CORE_STAT_ISSUED (coreOf c) rfl hs)
    (List.Subset.trans counterSpots_form hw) 13 1) hw hp hc c

theorem State.trapCtx_only (c cause info : Nat) (ho : Part.out ∈ ps) (hi : tenantIrqSpots ⊆ ws) (h1 : lists ws CX_TRAP_CAUSE c = true)
    (h2 : lists ws CX_TRAP_INFO c = true) (h3 : lists ws CX_STATUS_STATE c = true) : Only ws ps s (t.trapCtx c cause info) :=
  State.raiseTenant_only (Only.setF (Only.setF (Only.setF (State.endFlow_only (State.setCtx_only h hc c _) hw hp hc c) CX_TRAP_CAUSE c _
    rfl h1) CX_TRAP_INFO c _ rfl h2) CX_STATUS_STATE c 6 rfl h3) hi ho _ IRQ_TCAUSE_TRAP rfl rfl

end

/-- What an issue can do (R104, R126 to R128, R167): nothing, a trap for the PC or the word, or the execution of the instruction. -/
theorem State.issue_cases (s : State) (c need word : Nat) (illegal takesPrefix : Bool) (run : State → Exec) :
    (s.issue c need word illegal takesPrefix run = .next s ∧ (s.canIssue c need = false ∨ s.fetchWord c ≠ word)) ∨
    (s.canIssue c need = true ∧ s.pcOut c = true ∧
      s.issue c need word illegal takesPrefix run = .next ((s.begin c).trapCtx c 0x0002 (s.ctx c).pc.toNat)) ∨
    (s.canIssue c need = true ∧ s.pcOut c = false ∧ s.fetchWord c ≠ word ∧
      s.issue c need word illegal takesPrefix run = .next ((s.begin c).trapCtx c 0x0001 (s.fetchWord c))) ∨
    (s.canIssue c need = true ∧ s.pcOut c = false ∧ s.fetchWord c = word ∧
      s.issue c need word illegal takesPrefix run = (s.begin c).execute c word illegal takesPrefix run) := by
  unfold State.issue
  cases h1 : s.canIssue c need
  · simp
  · cases h2 : s.pcOut c
    · by_cases h3 : s.fetchWord c = word
      · simp [h3]
      · by_cases h4 : (decodeEhrile c (s.fetchWord c)).isSome = true <;> simp [h3, h4]
    · simp

/-- A sound instruction without trap, that no L precedes or that takes one, completes with what `run` gives. -/
theorem State.execute_done {c word : Nat} {takesPrefix : Bool} {run : State → Exec} {s t : State} {pc : Word}
    (hl : takesPrefix = true ∨ (s.ctx c).latch = none) (hr : run s = .done t pc) :
    s.execute c word false takesPrefix run = .next (t.retire c pc) := by
  unfold State.execute
  rcases hl with hl | hl <;> simp [hl, hr]

/-- What a retired context holds: the next PC and an empty latch, the rest as the instruction left it. -/
theorem State.ctx_retire (s : State) (c : Nat) (pc : Word) : (s.retire c pc).ctx c = { s.ctx c with pc := pc, latch := none } :=
  State.ctx_setCtx_same _ _ _

/-! ### Context registers (R123) -/

@[simp] theorem Ctx.gr_zero (x : Ctx) : x.gr 0#5 = 0 := by simp [Ctx.gr]

@[simp] theorem Ctx.setG_zero (x : Ctx) (v : Word) : x.setG 0#5 v = x := by simp [Ctx.setG]

@[simp] theorem Ctx.pr_zero (x : Ctx) : x.pr 0 = true := by simp [Ctx.pr]

@[simp] theorem Ctx.setP_zero (x : Ctx) (b : Bool) : x.setP 0 b = x := by simp [Ctx.setP]

theorem Ctx.gr_setG_same (x : Ctx) {n : BitVec 5} (v : Word) (h : n ≠ 0) : (x.setG n v).gr n = v := by
  unfold Ctx.setG Ctx.gr
  rw [if_neg h, if_neg h, smGet_smSet_same]

theorem Ctx.gr_setG_ne (x : Ctx) {n m : BitVec 5} (v : Word) (h : m ≠ n) : (x.setG n v).gr m = x.gr m := by
  have h1 : m.toNat ≠ n.toNat := fun e => h (BitVec.eq_of_toNat_eq e)
  unfold Ctx.setG Ctx.gr
  by_cases hn : n = 0
  · rw [if_pos hn]
  · rw [if_neg hn, smGet_smSet_ne _ _ _ _ h1]

@[simp] theorem Ctx.pr_setG (x : Ctx) (n : BitVec 5) (v : Word) (m : Nat) : (x.setG n v).pr m = x.pr m := by
  unfold Ctx.setG; split <;> rfl

@[simp] theorem Ctx.gr_setP (x : Ctx) (n : Nat) (b : Bool) (m : BitVec 5) : (x.setP n b).gr m = x.gr m := by
  unfold Ctx.setP; split <;> rfl

end Sys2Proof.Machine
end

