-- ==== Sys2Proof/Laws/Memory.lean ====
section
/-! SUPPORT. Memories: a read after a write, the bytes that a write leaves, the frames of writes outside the block, and the canonical form of memories
and of the register file under every write. -/

namespace Sys2Proof.Machine

variable {ws : List Spot} {ps : List Part} {s t : State}

/-! ### Bytes -/

theorem memRead_memWrite_outside (bs : List Byte) (m : SMap Byte) (a x : Nat) (h : x < a ∨ a + bs.length ≤ x) :
    memRead (memWrite m a bs) x = memRead m x := by
  induction bs generalizing m a with
  | nil => rfl
  | cons b bs ih =>
    rw [List.length_cons] at h
    rw [memWrite, ih _ _ (by omega)]
    exact smGet_smSet_ne _ _ _ _ (by omega)

theorem memRead_memWrite_inside (bs : List Byte) (m : SMap Byte) (a i : Nat) (h : i < bs.length) :
    memRead (memWrite m a bs) (a + i) = bs[i] := by
  induction bs generalizing m a i with
  | nil => simp at h
  | cons b bs ih =>
    cases i with
    | zero => rw [memWrite, memRead_memWrite_outside _ _ _ _ (by omega)]; exact smGet_smSet_same _ _ _ _
    | succ i => rw [memWrite, show a + (i + 1) = a + 1 + i by omega, ih _ _ _ (by simpa using h)]; simp

theorem length_memBytes (m : SMap Byte) (a n : Nat) : (memBytes m a n).length = n := by
  induction n generalizing a with
  | zero => rfl
  | succ n ih => simp [memBytes, ih]

theorem getElem?_memBytes (m : SMap Byte) (a n i : Nat) (h : i < n) : (memBytes m a n)[i]? = some (memRead m (a + i)) := by
  induction n generalizing a i with
  | zero => omega
  | succ n ih =>
    cases i with
    | zero => simp [memBytes]
    | succ i => simp only [memBytes, List.getElem?_cons_succ]; rw [ih _ _ (by omega)]; congr 2; omega

/-- A range reads back what was written to it. -/
theorem memBytes_memWrite_same (m : SMap Byte) (a : Nat) (bs : List Byte) : memBytes (memWrite m a bs) a bs.length = bs := by
  apply List.ext_getElem?
  intro i
  by_cases h : i < bs.length
  · rw [getElem?_memBytes _ _ _ _ h, memRead_memWrite_inside _ _ _ _ h, List.getElem?_eq_getElem h]
  · rw [List.getElem?_eq_none (by rw [length_memBytes]; omega), List.getElem?_eq_none (by omega)]

/-! ### The canonical form -/

/-- Every write of a memory keeps its canonical form. -/
theorem smWf_memWrite (bs : List Byte) (m : SMap Byte) (a : Nat) (h : smWf 0 m = true) : smWf 0 (memWrite m a bs) = true := by
  induction bs generalizing m a with
  | nil => exact h
  | cons b bs ih => exact ih _ _ (smWf_smSet _ _ _ _ h)

theorem mem_smDrop {α : Type} {m : SMap α} {x : Nat} {e : Nat × α} (h : e ∈ smDrop m x) : e ∈ m := by
  induction m with
  | nil => exact h
  | cons f m ih =>
    obtain ⟨k, w⟩ := f
    simp only [smDrop] at h
    split at h
    · exact List.mem_cons_of_mem _ (ih h)
    · exact h

/-- An entry after a write is an old one of another key or the one written. -/
theorem mem_smSet {α : Type} [DecidableEq α] {d : α} {m : SMap α} {x : Nat} {v : α} {e : Nat × α} (h : e ∈ smSet d m x v) :
    e ∈ m ∨ e = (x, v) ∧ v ≠ d := by
  induction m with
  | nil =>
    simp only [smSet] at h
    split at h
    · simp at h
    · exact .inr ⟨by simpa using h, ‹_›⟩
  | cons f m ih =>
    obtain ⟨k, w⟩ := f
    simp only [smSet] at h
    split at h
    · split at h
      · exact .inl h
      · rcases List.mem_cons.1 h with h | h
        · exact .inr ⟨h, ‹_›⟩
        · exact .inl h
    · split at h
      · split at h
        · exact .inl (List.mem_cons_of_mem _ (mem_smDrop h))
        · rcases List.mem_cons.1 h with h | h
          · exact .inr ⟨h, ‹_›⟩
          · exact .inl (List.mem_cons_of_mem _ h)
      · rcases List.mem_cons.1 h with h | h
        · exact .inl (h ▸ List.mem_cons_self)
        · rcases ih h with h | h
          · exact .inl (List.mem_cons_of_mem _ h)
          · exact .inr h

theorem pairwise_smDrop {α : Type} {m : SMap α} (x : Nat) (h : m.Pairwise (fun a b => a.1 < b.1)) :
    (smDrop m x).Pairwise (fun a b => a.1 < b.1) := by
  induction m with
  | nil => exact h
  | cons f m ih =>
    obtain ⟨k, w⟩ := f
    simp only [smDrop]
    split
    · exact ih (List.pairwise_cons.1 h).2
    · exact h

/-- A write keeps the keys rising. -/
theorem pairwise_smSet {α : Type} [DecidableEq α] {d : α} {m : SMap α} (x : Nat) (v : α) (h : m.Pairwise (fun a b => a.1 < b.1)) :
    (smSet d m x v).Pairwise (fun a b => a.1 < b.1) := by
  induction m with
  | nil => unfold smSet; split <;> simp
  | cons f m ih =>
    obtain ⟨k, w⟩ := f
    obtain ⟨h1, h2⟩ := List.pairwise_cons.1 h
    simp only [smSet]
    split
    · split
      · exact h
      · refine List.pairwise_cons.2 ⟨fun e he => ?_, h⟩
        rcases List.mem_cons.1 he with rfl | he
        · assumption
        · exact Nat.lt_trans ‹x < k› (h1 e he)
    · split
      · split
        · exact pairwise_smDrop x h2
        · exact List.pairwise_cons.2 ⟨fun e he => by have := h1 e he; simp only; omega, h2⟩
      · refine List.pairwise_cons.2 ⟨fun e he => ?_, ih h2⟩
        rcases mem_smSet he with he | ⟨rfl, _⟩
        · exact h1 e he
        · show k < x; omega

/-- Every write of a register keeps the canonical form of the register file. -/
theorem regsWf_setReg (h : regsWf s.regs) (r : Reg) (i : Nat) (v : Word) : regsWf (s.setReg r i v).regs := by
  refine ⟨pairwise_smSet _ _ h.1, fun r' i' hm => ?_⟩
  rcases mem_smSet hm with hm | ⟨he, hv⟩
  · exact h.2 r' i' hm
  · obtain ⟨hk, hr⟩ := Prod.mk.injEq .. ▸ he
    obtain ⟨rfl, rfl⟩ := Reg.key_inj.1 hk
    exact hv hr.symm

theorem State.Canonical.setReg (h : s.Canonical) (r : Reg) (i : Nat) (v : Word) : (s.setReg r i v).Canonical :=
  ⟨regsWf_setReg h.1 r i v, h.2⟩

theorem State.Canonical.setF (h : s.Canonical) (f : Fld) (i v : Nat) : (s.setF f i v).Canonical := h.setReg _ _ _

theorem State.Canonical.setFlag (h : s.Canonical) (f : Fld) (i : Nat) (b : Bool) : (s.setFlag f i b).Canonical := h.setReg _ _ _

theorem State.Canonical.setArrBit (h : s.Canonical) (r : Reg) (b : Nat) (v : Bool) : (s.setArrBit r b v).Canonical := h.setReg _ _ _

theorem State.Canonical.ite (c : Prop) [Decidable c] (h1 : s.Canonical) (h2 : t.Canonical) : (if c then s else t).Canonical := by
  split <;> assumption

/-- A state with the same registers and memories outside the block. -/
theorem State.Canonical.congr (h : s.Canonical) (h1 : t.regs = s.regs) (h2 : t.salt = s.salt) (h3 : t.host = s.host) : t.Canonical := by
  unfold State.Canonical at *
  rw [h1, h2, h3]; exact h

theorem State.Canonical.outWrite (h : s.Canonical) (p : Place) (bs : List Byte) : (s.outWrite p bs).Canonical := by
  unfold State.outWrite
  split
  · exact ⟨h.1, h.2.1, smWf_memWrite _ _ _ h.2.2⟩
  · exact ⟨h.1, smWf_memWrite _ _ _ h.2.1, h.2.2⟩

theorem State.Canonical.xlWrite (h : s.Canonical) {n va : Nat} {bs : List Byte} {pinned : Bool} (hw : s.xlWrite n va bs pinned = .ok t) :
    t.Canonical := by
  unfold State.xlWrite at hw
  split at hw
  · cases hw
  · cases hw; exact h.outWrite _ _

theorem State.Canonical.streamWrite {n va : Nat} {pinned : Bool} (k : Nat) (bs : List Byte) (h : s.Canonical) :
    (s.streamWrite n va pinned k bs).1.Canonical := by
  induction k generalizing s va bs with
  | zero => exact h
  | succ k ih =>
    unfold State.streamWrite
    split
    · exact h
    · split
      · exact h
      · exact ih _ (h.xlWrite ‹_›)

/-! ### Frames -/

theorem State.outWrite_only (h : Only ws ps s t) (h1 : Part.salt ∈ ps) (h2 : Part.host ∈ ps) (p : Place) (bs : List Byte) :
    Only ws ps s (t.outWrite p bs) := Only.ite _ (h.withHost h2) (h.withSalt h1)

theorem State.xlWrite_only (h : Only ws ps s t) (h1 : Part.salt ∈ ps) (h2 : Part.host ∈ ps) {u : State} {n va : Nat} {bs : List Byte}
    {pinned : Bool} (hw : t.xlWrite n va bs pinned = .ok u) : Only ws ps s u := by
  unfold State.xlWrite at hw
  split at hw
  · cases hw
  · cases hw; exact State.outWrite_only h h1 h2 _ _

theorem State.streamWrite_only (h1 : Part.salt ∈ ps) (h2 : Part.host ∈ ps) {n va : Nat} {pinned : Bool} (k : Nat) (bs : List Byte)
    (h : Only ws ps s t) : Only ws ps s (t.streamWrite n va pinned k bs).1 := by
  induction k generalizing t va bs with
  | zero => exact h
  | succ k ih =>
    unfold State.streamWrite
    split
    · exact h
    · split
      · exact h
      · exact ih _ (State.xlWrite_only h h1 h2 ‹_›)

end Sys2Proof.Machine
end

