-- ==== Sys2Proof/Laws/Units.lean ====
section
/-! SUPPORT. What the updates of one engine's entry (a gate, a tile, a window, a ring, a port, a save, a ledger) change: the entry reads as
written, every other entry as before, and neither a register nor the queue of commands moves. -/

namespace Sys2Proof.Machine

variable {s : State}

@[simp] theorem State.save_setSave_same (i : Nat) (x : Save) : (s.setSave i x).save i = x := smGet_smSet_same _ _ _ _

theorem State.save_setSave_ne {i j : Nat} (x : Save) (h : j ≠ i) : (s.setSave i x).save j = s.save j := smGet_smSet_ne _ _ _ _ h

@[simp] theorem State.getReg_setSave (i : Nat) (x : Save) (r : Reg) (k : Nat) : (s.setSave i x).getReg r k = s.getReg r k := rfl

@[simp] theorem State.getF_setSave (i : Nat) (x : Save) (f : Fld) (k : Nat) : (s.setSave i x).getF f k = s.getF f k := rfl

@[simp] theorem State.setSave_pending (i : Nat) (x : Save) : (s.setSave i x).pending = s.pending := rfl

@[simp] theorem State.tapTile_setTapTile_same (i : Nat) (x : TapTile) : (s.setTapTile i x).tapTile i = x := smGet_smSet_same _ _ _ _

theorem State.tapTile_setTapTile_ne {i j : Nat} (x : TapTile) (h : j ≠ i) : (s.setTapTile i x).tapTile j = s.tapTile j := smGet_smSet_ne _ _ _ _ h

@[simp] theorem State.getReg_setTapTile (i : Nat) (x : TapTile) (r : Reg) (k : Nat) : (s.setTapTile i x).getReg r k = s.getReg r k := rfl

@[simp] theorem State.getF_setTapTile (i : Nat) (x : TapTile) (f : Fld) (k : Nat) : (s.setTapTile i x).getF f k = s.getF f k := rfl

@[simp] theorem State.setTapTile_pending (i : Nat) (x : TapTile) : (s.setTapTile i x).pending = s.pending := rfl

@[simp] theorem State.seqr_setSeqr_same (i : Nat) (x : Seqr) : (s.setSeqr i x).seqr i = x := smGet_smSet_same _ _ _ _

theorem State.seqr_setSeqr_ne {i j : Nat} (x : Seqr) (h : j ≠ i) : (s.setSeqr i x).seqr j = s.seqr j := smGet_smSet_ne _ _ _ _ h

@[simp] theorem State.getReg_setSeqr (i : Nat) (x : Seqr) (r : Reg) (k : Nat) : (s.setSeqr i x).getReg r k = s.getReg r k := rfl

@[simp] theorem State.getF_setSeqr (i : Nat) (x : Seqr) (f : Fld) (k : Nat) : (s.setSeqr i x).getF f k = s.getF f k := rfl

@[simp] theorem State.setSeqr_pending (i : Nat) (x : Seqr) : (s.setSeqr i x).pending = s.pending := rfl

@[simp] theorem State.gate_setGate_same (i : Nat) (x : Gate) : (s.setGate i x).gate i = x := smGet_smSet_same _ _ _ _

theorem State.gate_setGate_ne {i j : Nat} (x : Gate) (h : j ≠ i) : (s.setGate i x).gate j = s.gate j := smGet_smSet_ne _ _ _ _ h

@[simp] theorem State.getReg_setGate (i : Nat) (x : Gate) (r : Reg) (k : Nat) : (s.setGate i x).getReg r k = s.getReg r k := rfl

@[simp] theorem State.getF_setGate (i : Nat) (x : Gate) (f : Fld) (k : Nat) : (s.setGate i x).getF f k = s.getF f k := rfl

@[simp] theorem State.setGate_pending (i : Nat) (x : Gate) : (s.setGate i x).pending = s.pending := rfl

@[simp] theorem State.txSlot_setTx_same (i : Nat) (x : TxPost) : (s.setTx i x).txSlot i = x := smGet_smSet_same _ _ _ _

theorem State.txSlot_setTx_ne {i j : Nat} (x : TxPost) (h : j ≠ i) : (s.setTx i x).txSlot j = s.txSlot j := smGet_smSet_ne _ _ _ _ h

@[simp] theorem State.getReg_setTx (i : Nat) (x : TxPost) (r : Reg) (k : Nat) : (s.setTx i x).getReg r k = s.getReg r k := rfl

@[simp] theorem State.getF_setTx (i : Nat) (x : TxPost) (f : Fld) (k : Nat) : (s.setTx i x).getF f k = s.getF f k := rfl

@[simp] theorem State.setTx_pending (i : Nat) (x : TxPost) : (s.setTx i x).pending = s.pending := rfl

@[simp] theorem State.window_setWindow_same (i : Nat) (x : Window) : (s.setWindow i x).window i = x := smGet_smSet_same _ _ _ _

theorem State.window_setWindow_ne {i j : Nat} (x : Window) (h : j ≠ i) : (s.setWindow i x).window j = s.window j := smGet_smSet_ne _ _ _ _ h

@[simp] theorem State.getReg_setWindow (i : Nat) (x : Window) (r : Reg) (k : Nat) : (s.setWindow i x).getReg r k = s.getReg r k := rfl

@[simp] theorem State.getF_setWindow (i : Nat) (x : Window) (f : Fld) (k : Nat) : (s.setWindow i x).getF f k = s.getF f k := rfl

@[simp] theorem State.setWindow_pending (i : Nat) (x : Window) : (s.setWindow i x).pending = s.pending := rfl

@[simp] theorem State.ring_setRing_same (i : Nat) (x : Ring) : (s.setRing i x).ring i = x := smGet_smSet_same _ _ _ _

theorem State.ring_setRing_ne {i j : Nat} (x : Ring) (h : j ≠ i) : (s.setRing i x).ring j = s.ring j := smGet_smSet_ne _ _ _ _ h

@[simp] theorem State.getReg_setRing (i : Nat) (x : Ring) (r : Reg) (k : Nat) : (s.setRing i x).getReg r k = s.getReg r k := rfl

@[simp] theorem State.getF_setRing (i : Nat) (x : Ring) (f : Fld) (k : Nat) : (s.setRing i x).getF f k = s.getF f k := rfl

@[simp] theorem State.setRing_pending (i : Nat) (x : Ring) : (s.setRing i x).pending = s.pending := rfl

@[simp] theorem State.portStat_setStat_same (i : Nat) (x : PortStat) : (s.setStat i x).portStat i = x := smGet_smSet_same _ _ _ _

theorem State.portStat_setStat_ne {i j : Nat} (x : PortStat) (h : j ≠ i) : (s.setStat i x).portStat j = s.portStat j := smGet_smSet_ne _ _ _ _ h

@[simp] theorem State.getReg_setStat (i : Nat) (x : PortStat) (r : Reg) (k : Nat) : (s.setStat i x).getReg r k = s.getReg r k := rfl

@[simp] theorem State.getF_setStat (i : Nat) (x : PortStat) (f : Fld) (k : Nat) : (s.setStat i x).getF f k = s.getF f k := rfl

@[simp] theorem State.setStat_pending (i : Nat) (x : PortStat) : (s.setStat i x).pending = s.pending := rfl

@[simp] theorem State.stream_setStream_same (i : Nat) (x : ExStream) : (s.setStream i x).stream i = x := smGet_smSet_same _ _ _ _

theorem State.stream_setStream_ne {i j : Nat} (x : ExStream) (h : j ≠ i) : (s.setStream i x).stream j = s.stream j := smGet_smSet_ne _ _ _ _ h

@[simp] theorem State.getReg_setStream (i : Nat) (x : ExStream) (r : Reg) (k : Nat) : (s.setStream i x).getReg r k = s.getReg r k := rfl

@[simp] theorem State.getF_setStream (i : Nat) (x : ExStream) (f : Fld) (k : Nat) : (s.setStream i x).getF f k = s.getF f k := rfl

@[simp] theorem State.setStream_pending (i : Nat) (x : ExStream) : (s.setStream i x).pending = s.pending := rfl

@[simp] theorem State.exPort_setExPort_same (i : Nat) (x : ExPort) : (s.setExPort i x).exPort i = x := smGet_smSet_same _ _ _ _

theorem State.exPort_setExPort_ne {i j : Nat} (x : ExPort) (h : j ≠ i) : (s.setExPort i x).exPort j = s.exPort j := smGet_smSet_ne _ _ _ _ h

@[simp] theorem State.getReg_setExPort (i : Nat) (x : ExPort) (r : Reg) (k : Nat) : (s.setExPort i x).getReg r k = s.getReg r k := rfl

@[simp] theorem State.getF_setExPort (i : Nat) (x : ExPort) (f : Fld) (k : Nat) : (s.setExPort i x).getF f k = s.getF f k := rfl

@[simp] theorem State.setExPort_pending (i : Nat) (x : ExPort) : (s.setExPort i x).pending = s.pending := rfl

@[simp] theorem State.ledger_setLedger_same (t : Nat) (x : Ledger) : (s.setLedger t x).ledger t = x := smGet_smSet_same _ _ _ _

theorem State.ledger_setLedger_ne {t u : Nat} (x : Ledger) (h : u ≠ t) : (s.setLedger t x).ledger u = s.ledger u := smGet_smSet_ne _ _ _ _ h

@[simp] theorem State.skipOf_setSkip_same (c : Nat) (v : Option Skip) : (s.setSkip c v).skipOf c = v := by
  simp only [State.skipOf, State.setSkip, State.core_setCore_same]; exact smGet_smSet_same _ _ _ _

@[simp] theorem State.ctx_setSkip (c d : Nat) (v : Option Skip) : (s.setSkip c v).ctx d = s.ctx d := rfl

end Sys2Proof.Machine
end

