-- ==== Sys2Proof/Tests/Slice0.lean ====
section
/-! SUPPORT. The model's own tests: for each statement concrete states and operands that meet its hypotheses, clause by clause;
commands that are not well formed; instruction words written out from the encodings of the manual; and effects worked out by hand
from it. -/

set_option maxRecDepth 20000
set_option synthInstance.maxSize 1024
set_option synthInstance.maxHeartbeats 200000

namespace Sys2Proof.Tests

open Sys2Proof Sys2Proof.Machine

/-! ### Time, gates and timers -/

/-- The state after reset, released and READY. -/
def up : State := ({ State.reset with inReset := false } : State).setF MYB_STATUS_READY 0 1

/-- A word with one field set. -/
def fld (f : Fld) (v : Nat) : Word := putBits 0 f.hi f.lo v

/-- Time runs, in its first entry, at raw count 1000 with fabric time 640 ns. -/
def running : State :=
  { (up.setF TB_STATUS_RUNNING 0 1).setF TB_CTRL_RUN 0 1 with
    time := { up.time with raw := 1000, hist := [{ ofs := 640 * 2 ^ 40, raw := 1000, incr := 703687441777, epoch := 0 }] } }

def idleOne : State := { up with pending := [.tick] }

def incrPending : State := { running with time := { running.time with pendIncr := [(1000, 5)] } }
def twoEntries : State :=
  { running with time := { running.time with
      raw := BitVec.ofNat 80 (2 ^ 28 + 1000),
      hist := [{ ofs := 700, raw := 1000, incr := 7, epoch := 0 }, { ofs := 0, raw := 0, incr := 7, epoch := 0, succ := some 1000 }] } }
def holding : State := { (running.setF TB_CTRL_QUALITY 0 3).setF TB_STATUS_HOLD 0 1 with time := { running.time with holdRun := true } }
def heldLong : State := { holding with time := running.time }
def ppsStart : State :=
  { running.setF TB_CTRL_PPS_EN 0 1 with
    time := { running.time with hist := [{ ofs := 1000000000 * 2 ^ 40, raw := 1000, incr := 703687441777, epoch := 0 },
                                         { ofs := 1000000000 * 2 ^ 40 - 703687441777, raw := 999, incr := 703687441777, epoch := 0, succ := some 1000 }] } }
def ppsStep : State := { ppsStart with time := { ppsStart.time with hist := [{ ofs := 1000000000 * 2 ^ 40, raw := 1000, incr := 703687441777, epoch := 0 }, { ofs := 0, raw := 0, incr := 7, epoch := 0, succ := some 1000 }] } }
def ppsEnd : State := { running with time := { running.time with ppsHigh := true, ppsLeft := 0 } }
def carrying : State := { running with time := { running.time with ns := 999999999, frac := 2 ^ 40 - 1 } }
def starting : State := { up.setF TB_CTRL_RUN 0 1 with time := { up.time with raw := 256, runAt := 200 } }
def locked : State := running.setF TB_CTRL_QUALITY 0 2
def lockedCommit : State := { locked.setF TB_STATUS_PENDING 0 1 with
  time := { locked.time with commit := some { step := false, at_ := 2000, ofs := 640 * 2 ^ 40, incr := 703687441777, epoch := 0 } } }
def stepPending : State := { (running.setF TB_STATUS_PENDING 0 1).setF TB_STATUS_PENDING_STEP 0 1 with
  time := { running.time with commit := some { step := true, at_ := 2048, ofs := 0, incr := 5, epoch := 9 } } }
/-- A history of 256 entries, all of which are still kept. -/
def fullHistory : State := { running with
  time := { running.time with hist := List.replicate 256 { ofs := 640 * 2 ^ 40, raw := 1000, incr := 703687441777, epoch := 0 } } }
def waitsSame : State := { running with time := { running.time with pendIncr := [(1024, 5)] } }
def waitsOther : State := { running with time := { running.time with pendIncr := [(1280, 5)] } }
def projecting : State := { lockedCommit with
  time := { lockedCommit.time with raw := 2000 } }
def staged : State := (running.setF TB_PRJ_AT_LO_AT_LO 0 307200)
def slewless : State := staged.setF TB_PRJ_INCR_INCR 0 0
def stepping : State := { lockedCommit with
  time := { lockedCommit.time with raw := 2000, commit := some { step := true, at_ := 2000, ofs := 640 * 2 ^ 40, incr := 5, epoch := 9 }, tx := [(4, { posted := true })] } }
def gateArmed : State := { running.setF SG_STAT_STATE 3 1 with
  time := { running.time with gates := [(3, { copied := true, lo := 640 * 65536, action := 1, port := 8, queue := 2 })] } }
def gateArmedMag : State := { running.setF SG_STAT_STATE 3 1 with
  time := { running.time with gates := [(3, { copied := true, lo := 641 * 65536, signed := false })] } }
/-- A step to 640 ns that meets three gates, two timers, a timed harvest, a sequencer and an open window. -/
def steppingAll : State := { ((((((stepping.setF SG_STAT_STATE 3 1).setF SG_STAT_STATE 4 1).setF SG_STAT_STATE 5 1).setF TS_STAT_STATE 0 1).setF
    WN_STAT_STATE 0 1).setF WN_GEN_CUR 0 6).setF WN_GEN_NEXT 0 7 with
  time := { stepping.time with gates := [(3, { copied := true, lo := 640 * 65536, signed := true }),
    (4, { copied := true, lo := 640 * 65536, signed := false }), (5, { copied := true, lo := 641 * 65536, signed := false })] }
  ctxs := [(2, { timers := [(0, { state := 1, lo := 640 * 65536, signed := false }), (1, { state := 1, signed := true })] })]
  taps := { stepping.taps with cal := [{ num := 1, timed := true, signed := true, lo := 5, tick := 0 }] } }
def onPath : State := (locked.setF TB_UPSTREAM_PRI_VALID 0 1).setF TB_UPSTREAM_PRI_PORT 0 8
def wordDue : State := { running with time := { running.time with raw := 1016 } }
def lossy : State := { running with time := { running.time with tiles := [(5, { missed := 3, disc := true })] } }
def notStarted : State := { up.setF TB_CTRL_RUN 0 1 with time := { up.time with raw := 250, runAt := 200 } }
/-- The first bytes of a PTP frame of a domain, not tagged. -/
def ptpFrame (domain : Nat) : List Byte :=
  List.replicate 12 0 ++ [0x88, 0xF7] ++ [0, 2, 0, 44] ++ [BitVec.ofNat 8 domain] ++ List.replicate 45 0
def ptpOn : State := (running.setF TB_PTP_CFG_ENABLE 0 1).setF TB_PORT_TIME_PTP_EN 8 1
def posted : State := { running with time := { running.time with tx := [(4, { posted := true, launched := true, port := 8 })] } }
/-- Gate 5 of the same port launches 100 ns from now, with a guard of 200 ns. -/
def guarded : State := { posted.setF SG_STAT_STATE 5 1 with
  time := { posted.time with gates := [(5, { copied := true, lo := 740 * 65536, port := 8, guard_ := 200 })] } }
def lateGate : State := { twoEntries.setF SG_CFG_NO_LATE 0 1 with time := { twoEntries.time with raw := 1001 } }
def lateArm : State := { twoEntries with time := { twoEntries.time with raw := 1001 } }
def lateAfterAnother : State := { lateArm with time := { lateArm.time with lastGate := some 9 } }
def lateBehindLower : State := { lateArm.setF SG_STAT_STATE 2 1 with time := { lateArm.time with gates := [(2, { copied := true, late := some 1001 })] } }
def gateWaits : State := { gateArmed with time := { gateArmed.time with gates := [(3, { copied := true, lo := 640 * 65536, late := some 990 })] } }
def openQueue : State := { running with time := { running.time with egress := [(8 * 8 + 2, .until (640 * 2 ^ 40))] } }

theorem test_stepRunsTheFrontCommand_hypotheses :
    idleOne.pending = [Instr.tick] ∧ up.pending = [] := by decide

theorem test_timeEngineEvents_hypotheses :
    up.inReset = false ∧ incrPending.inReset = false ∧ (List.find? (fun p => p.1 == incrPending.rawNow) incrPending.time.pendIncr = some (1000, 5)) ∧
    twoEntries.inReset = false ∧ twoEntries.time.hist.getLast? = some { ofs := 0, raw := 0, incr := 7, epoch := 0, succ := some 1000 } ∧
    1000 + 2 ^ 28 ≤ twoEntries.rawNow ∧ holding.inReset = false ∧ holding.time.holdRun = true ∧ holding.getF TB_STATUS_HOLD_LEFT 0 = 0 ∧
    ppsStart.inReset = false ∧ ppsStart.flag TB_CTRL_PPS_EN 0 = true ∧ ppsStart.running = true ∧ ppsStart.ppsDue = true ∧ ppsStep.inReset = false ∧
    1000 = ppsStep.rawNow + ppsStep.getF BD_PPS_ADVANCE 0 ∧
    ppsStep.entryAny (1000 - 1) = some { ofs := 0, raw := 0, incr := 7, epoch := 0, succ := some 1000 } ∧
    { ofs := 0, raw := 0, incr := 7, epoch := 0, succ := some 1000 : HistEntry }.at 1000 0 ≠ (ppsStep.entryDue 1000).at 1000 0 ∧
    ppsEnd.inReset = false ∧ ppsEnd.time.ppsHigh = true ∧ ppsEnd.time.ppsLeft = 0 := by decide

theorem test_snAccumulatorTick_hypotheses :
    carrying.inReset = false ∧ carrying.running = true ∧ carrying.cpMode = false ∧
    carrying.newest = some { ofs := 640 * 2 ^ 40, raw := 1000, incr := 703687441777, epoch := 0 } ∧ 703687441777 ≤ second40 ∧
    carrying.time.ns < 1000000000 ∧ carrying.time.frac < 2 ^ 40 := by decide

theorem test_timeStarts_hypotheses :
    starting.inReset = false ∧ starting.flag TB_CTRL_RUN 0 = true ∧ starting.running = false ∧ starting.rawNow = starting.startDue ∧
    starting.time.hist = [] := by decide

theorem test_tbCtrlWrites_hypotheses :
    up.ready = true ∧ Fld.on (fld TB_CTRL_RUN 1 ||| fld TB_CTRL_MODE 1) TB_CTRL_RUN = true ∧ up.flag TB_CTRL_RUN 0 = false ∧
    lockedCommit.ready = true ∧ Fld.on (fld TB_CTRL_HOLD_ENTER 1 ||| fld TB_CTRL_QUALITY 2) TB_CTRL_HOLD_ENTER = true ∧
    Fld.on (fld TB_CTRL_HOLD_ENTER 1 ||| fld TB_CTRL_QUALITY 2) TB_CTRL_HOLD_EXIT = false ∧
    keepsQuality lockedCommit (fld TB_CTRL_HOLD_ENTER 1 ||| fld TB_CTRL_QUALITY 2) ∧ (lockedCommit.quality = 1 ∨ lockedCommit.quality = 2) ∧
    holding.ready = true ∧ Fld.on (fld TB_CTRL_HOLD_ENTER 1 ||| fld TB_CTRL_QUALITY 3) TB_CTRL_HOLD_ENTER = true ∧
    Fld.on (fld TB_CTRL_HOLD_ENTER 1 ||| fld TB_CTRL_QUALITY 3) TB_CTRL_HOLD_EXIT = false ∧
    keepsQuality holding (fld TB_CTRL_HOLD_ENTER 1 ||| fld TB_CTRL_QUALITY 3) ∧ holding.quality = 3 ∧
    Fld.on (fld TB_CTRL_HOLD_EXIT 1 ||| fld TB_CTRL_QUALITY 3) TB_CTRL_HOLD_EXIT = true ∧
    Fld.on (fld TB_CTRL_HOLD_EXIT 1 ||| fld TB_CTRL_QUALITY 3) TB_CTRL_HOLD_ENTER = false ∧
    keepsQuality holding (fld TB_CTRL_HOLD_EXIT 1 ||| fld TB_CTRL_QUALITY 3) ∧ heldLong.ready = true ∧
    Fld.on (fld TB_CTRL_HOLD_EXIT 1 ||| fld TB_CTRL_QUALITY 7) TB_CTRL_HOLD_EXIT = true ∧
    Fld.on (fld TB_CTRL_HOLD_EXIT 1 ||| fld TB_CTRL_QUALITY 7) TB_CTRL_HOLD_ENTER = false ∧
    keepsQuality heldLong (fld TB_CTRL_HOLD_EXIT 1 ||| fld TB_CTRL_QUALITY 7) ∧ heldLong.quality = 3 ∧ running.ready = true ∧
    Fld.of (fld TB_CTRL_QUALITY 2) TB_CTRL_QUALITY ≤ 2 ∧ Fld.of (fld TB_CTRL_QUALITY 2) TB_CTRL_QUALITY ≠ running.quality ∧
    Fld.on (fld TB_CTRL_QUALITY 2) TB_CTRL_HOLD_ENTER = false ∧ Fld.on (fld TB_CTRL_QUALITY 2) TB_CTRL_HOLD_EXIT = false ∧ running.running = true ∧
    Fld.of (fld TB_CTRL_QUALITY 2) TB_CTRL_QUALITY ≠ holding.quality ∧ holding.running = true := by decide

theorem test_tbIncrWrite_hypotheses_1 :
    up.ready = true ∧ up.running = false ∧ (running.setF TB_CTRL_MODE 0 1).ready = true ∧ (running.setF TB_CTRL_MODE 0 1).running = true ∧
    (running.setF TB_CTRL_MODE 0 1).cpMode = true ∧ holding.ready = true ∧ holding.running = true ∧ holding.cpMode = false ∧ holding.quality = 3 ∧
    stepPending.ready = true ∧ stepPending.running = true ∧ stepPending.cpMode = false ∧ stepPending.quality ≠ 3 ∧
    stepPending.time.commit = some { step := true, at_ := 2048, ofs := 0, incr := 5, epoch := 9 } ∧ running.ready = true ∧ running.running = true ∧
    running.cpMode = false ∧ running.quality ≠ 3 ∧ (¬passesSlew running (Fld.of 5 TB_INCR_INCR)) ∧ fullHistory.ready = true ∧
    fullHistory.running = true ∧ fullHistory.cpMode = false ∧ fullHistory.quality ≠ 3 ∧ passesSlew fullHistory (Fld.of 703687441777 TB_INCR_INCR) ∧
    (¬historyHolds fullHistory fullHistory.incrDue (otherIncrs fullHistory).length) ∧ waitsSame.ready = true ∧ waitsSame.running = true ∧
    waitsSame.cpMode = false ∧ waitsSame.quality ≠ 3 ∧ passesSlew waitsSame (Fld.of 703687441777 TB_INCR_INCR) := by decide

theorem test_tbIncrWrite_hypotheses_2 :
    historyHolds waitsSame waitsSame.incrDue (otherIncrs waitsSame).length ∧ waitsOther.ready = true ∧ waitsOther.running = true ∧
    waitsOther.cpMode = false ∧ waitsOther.quality ≠ 3 ∧ passesSlew waitsOther (Fld.of 703687441777 TB_INCR_INCR) ∧
    historyHolds waitsOther waitsOther.incrDue (otherIncrs waitsOther).length := by decide

theorem test_commitAndCancel_hypotheses :
    ((staged.setF TB_CTRL_QUALITY 0 1).setF TB_PRJ_OFS_SEC_SECONDS 0 1).ready = true ∧
    Fld.on (fld TB_PRJ_CMD_COMMIT 1 ||| fld TB_PRJ_CMD_STEP 1 ||| fld TB_PRJ_CMD_STEP_EPOCH 1) TB_PRJ_CMD_COMMIT = true ∧
    Fld.on (fld TB_PRJ_CMD_COMMIT 1 ||| fld TB_PRJ_CMD_STEP 1 ||| fld TB_PRJ_CMD_STEP_EPOCH 1) TB_PRJ_CMD_CANCEL = false ∧ up.ready = true ∧
    Fld.on (fld TB_PRJ_CMD_COMMIT 1) TB_PRJ_CMD_COMMIT = true ∧ Fld.on (fld TB_PRJ_CMD_COMMIT 1) TB_PRJ_CMD_CANCEL = false ∧
    (¬up.flag TB_CTRL_RUN 0 = true) ∧ lockedCommit.ready = true ∧ (¬lockedCommit.time.commit = none) ∧ holding.ready = true ∧ (¬holding.quality ≠ 3) ∧
    running.ready = true ∧ (¬(Fld.on (fld TB_PRJ_CMD_COMMIT 1) TB_PRJ_CMD_STEP = true ∨ running.cpMode = true)) ∧
    Fld.on (fld TB_PRJ_CMD_CANCEL 1) TB_PRJ_CMD_CANCEL = true ∧ Fld.on (fld TB_PRJ_CMD_CANCEL 1) TB_PRJ_CMD_COMMIT = false ∧
    lockedCommit.time.commit = some { step := false, at_ := 2000, ofs := 640 * 2 ^ 40, incr := 703687441777, epoch := 0 } ∧
    lockedCommit.rawNow < 2000 ∧ projecting.ready = true ∧
    projecting.time.commit = some { step := false, at_ := 2000, ofs := 640 * 2 ^ 40, incr := 703687441777, epoch := 0 } ∧ 2000 ≤ projecting.rawNow ∧
    Fld.on (fld TB_PRJ_CMD_COMMIT 1 ||| fld TB_PRJ_CMD_CANCEL 1) TB_PRJ_CMD_CANCEL = true ∧
    Fld.on (fld TB_PRJ_CMD_COMMIT 1 ||| fld TB_PRJ_CMD_CANCEL 1) TB_PRJ_CMD_COMMIT = true := by decide

theorem test_projectionEffect_hypotheses :
    projecting.inReset = false ∧ projecting.running = true ∧
    projecting.time.commit = some { step := false, at_ := 2000, ofs := 640 * 2 ^ 40, incr := 703687441777, epoch := 0 } ∧
    projecting.rawNow = 2000 := by decide

theorem test_stepEffectOnTime_hypotheses :
    stepping.inReset = false ∧ stepping.running = true ∧
    stepping.time.commit = some { step := true, at_ := 2000, ofs := 640 * 2 ^ 40, incr := 5, epoch := 9 } ∧ stepping.rawNow = 2000 ∧
    stepping.time.gates = [] ∧ stepping.ctxs = [] ∧ stepping.taps.cal = [] ∧ stepping.joining = false ∧
    (∀ t < 64, stepping.runState t = 0 ∧ stepping.getF WN_STAT_STATE t ≠ 1) := by decide

theorem test_stepEffectOnWaiting_hypotheses :
    steppingAll.inReset = false ∧ steppingAll.running = true ∧
    steppingAll.time.commit = some { step := true, at_ := 2000, ofs := 640 * 2 ^ 40, incr := 5, epoch := 9 } ∧ steppingAll.rawNow = 2000 := by decide

theorem test_pathsAndDelays_hypotheses :
    onPath.inReset = false ∧ (onPath.flag TB_UPSTREAM_PRI_VALID 0 = true → onPath.getF TB_UPSTREAM_PRI_PORT 0 ≠ 16) ∧
    (onPath.flag TB_UPSTREAM_SEC_VALID 0 = true → onPath.getF TB_UPSTREAM_SEC_PORT 0 ≠ 16) ∧ onPath.flag TB_UPSTREAM_PRI_VALID 0 = true ∧
    onPath.getF TB_UPSTREAM_PRI_PORT 0 = 8 ∧ (onPath.quality = 1 ∨ onPath.quality = 2) ∧ up.ready = true ∧
    Fld.of (fld TB_PORT_TIME_PTP_EN 1 ||| fld TB_PORT_TIME_LINK_DLY 77) TB_PORT_TIME_PATH_GEN = up.getF TB_PORT_TIME_PATH_GEN 8 ∧
    Fld.of (fld TB_PORT_TIME_PATH_GEN 1 ||| fld TB_PORT_TIME_LINK_DLY 77) TB_PORT_TIME_PATH_GEN ≠ up.getF TB_PORT_TIME_PATH_GEN 8 := by decide

theorem test_timeBus_hypotheses :
    wordDue.inReset = false ∧ wordDue.running = true ∧ 248 ≤ wordDue.rawNow % 256 ∧ notStarted.inReset = false ∧ notStarted.running = false ∧
    248 ≤ notStarted.rawNow % 256 := by decide

theorem test_snapshotRead_hypotheses :
    running.ready = true ∧ running.running = true ∧ State.reset.ready = false := by decide

theorem test_ptpReception_hypotheses :
    ptpOn.inReset = false ∧ ptpOn.flag TB_PTP_CFG_ENABLE 0 = true ∧ ptpOn.flag TB_PORT_TIME_PTP_EN 8 = true ∧ isPtp (ptpFrame 1) = true ∧
    BitVec.toNat ((List.drop 18 (ptpFrame 1)).headD 0) ≠ ptpOn.getF TB_PTP_CFG_DOMAIN 0 ∧ (ptpOn.setF TB_RX_PTR_TAIL 0 128).inReset = false ∧
    (ptpOn.setF TB_RX_PTR_TAIL 0 128).flag TB_PTP_CFG_ENABLE 0 = true ∧ (ptpOn.setF TB_RX_PTR_TAIL 0 128).flag TB_PORT_TIME_PTP_EN 8 = true ∧
    isPtp (ptpFrame 0) = true ∧ BitVec.toNat ((List.drop 18 (ptpFrame 0)).headD 0) = (ptpOn.setF TB_RX_PTR_TAIL 0 128).getF TB_PTP_CFG_DOMAIN 0 ∧
    ((ptpOn.setF TB_RX_PTR_TAIL 0 128).getF TB_RX_PTR_TAIL 0 + 256 - (ptpOn.setF TB_RX_PTR_TAIL 0 128).getF TB_RX_PTR_HEAD 0) % 256 = 128 ∧
    (ptpOn.setF TB_RX_PTR_TAIL 0 127).inReset = false ∧ (ptpOn.setF TB_RX_PTR_TAIL 0 127).flag TB_PTP_CFG_ENABLE 0 = true ∧
    (ptpOn.setF TB_RX_PTR_TAIL 0 127).flag TB_PORT_TIME_PTP_EN 8 = true ∧
    BitVec.toNat ((List.drop 18 (ptpFrame 0)).headD 0) = (ptpOn.setF TB_RX_PTR_TAIL 0 127).getF TB_PTP_CFG_DOMAIN 0 ∧
    ((ptpOn.setF TB_RX_PTR_TAIL 0 127).getF TB_RX_PTR_TAIL 0 + 256 - (ptpOn.setF TB_RX_PTR_TAIL 0 127).getF TB_RX_PTR_HEAD 0) % 256 ≠ 128 ∧
    (ptpOn.setF TB_RX_PTR_TAIL 0 128).ready = true ∧
    (Fld.of 128 TB_RX_PTR_HEAD + 256 - (ptpOn.setF TB_RX_PTR_TAIL 0 128).getF TB_RX_PTR_HEAD 0) % 256 ≤ ((ptpOn.setF TB_RX_PTR_TAIL 0 128).getF TB_RX_PTR_TAIL 0 + 256 - (ptpOn.setF TB_RX_PTR_TAIL 0 128).getF TB_RX_PTR_HEAD 0) % 256 ∧
    (ptpOn.setF TB_RX_PTR_TAIL 0 127).ready = true ∧
    (¬(Fld.of 128 TB_RX_PTR_HEAD + 256 - (ptpOn.setF TB_RX_PTR_TAIL 0 127).getF TB_RX_PTR_HEAD 0) % 256 ≤ ((ptpOn.setF TB_RX_PTR_TAIL 0 127).getF TB_RX_PTR_TAIL 0 + 256 - (ptpOn.setF TB_RX_PTR_TAIL 0 127).getF TB_RX_PTR_HEAD 0) % 256) := by decide

theorem test_transmitSlots_hypotheses :
    running.ready = true ∧ Fld.of (fld TB_TX_POST_GO 1 ||| fld TB_TX_POST_SLOT 4) TB_TX_POST_SLOT = 4 ∧
    Fld.on (fld TB_TX_POST_GO 1 ||| fld TB_TX_POST_SLOT 4) TB_TX_POST_GO = true ∧
    Fld.on (fld TB_TX_POST_GO 1 ||| fld TB_TX_POST_SLOT 4) TB_TX_POST_WITHDRAW = false ∧ posted.ready = true ∧
    Fld.of (fld TB_TX_POST_WITHDRAW 1 ||| fld TB_TX_POST_SLOT 4) TB_TX_POST_SLOT = 4 ∧
    Fld.on (fld TB_TX_POST_WITHDRAW 1 ||| fld TB_TX_POST_SLOT 4) TB_TX_POST_GO = false ∧
    Fld.on (fld TB_TX_POST_WITHDRAW 1 ||| fld TB_TX_POST_SLOT 4) TB_TX_POST_WITHDRAW = true ∧ (posted.txSlot 4).posted = true ∧
    posted.inReset = false ∧ posted.running = true ∧ (posted.txSlot 4).launched = true ∧
    posted.guarded (posted.txSlot 4).port (posted.txSlot 4).byGate 999 7 = false ∧ guarded.running = true ∧
    (5, { copied := true, lo := 740 * 65536, port := 8, guard_ := 200 }) ∈ guarded.time.gates ∧ 8 = (guarded.txSlot 4).port ∧
    (guarded.txSlot 4).byGate ≠ some 5 ∧ guarded.gateState 5 ∈ [1, 2, 3] ∧ targetGap true (740 * 65536) 0 (guarded.fabAt 1000 0) < 0 ∧
    -↑((200 : ℕ) * (65536 : ℕ)) ≤ targetGap true ((740 : ℕ) * (65536 : ℕ)) (0 : ℕ) (guarded.fabAt (1000 : ℕ) (0 : ℕ)) ∧
    (guarded.setF SG_STAT_STATE 5 3).running = true ∧
    (5, { copied := true, lo := 740 * 65536, port := 8, guard_ := 200 }) ∈ (guarded.setF SG_STAT_STATE 5 3).time.gates ∧
    8 = ((guarded.setF SG_STAT_STATE 5 3).txSlot 4).port ∧ ((guarded.setF SG_STAT_STATE 5 3).txSlot 4).byGate ≠ some 5 ∧
    (guarded.setF SG_STAT_STATE 5 3).gateState 5 ∈ [1, 2, 3] ∧ targetGap true (740 * 65536) 0 ((guarded.setF SG_STAT_STATE 5 3).fabAt 1000 0) < 0 ∧
    -↑((200 : ℕ) * (65536 : ℕ)) ≤ targetGap true ((740 : ℕ) * (65536 : ℕ)) (0 : ℕ) ((guarded.setF SG_STAT_STATE (5 : ℕ) (3 : ℕ)).fabAt (1000 : ℕ) (0 : ℕ)) := by decide

theorem test_sluiceGates_hypotheses_1 :
    (running.setF SG_TGT_LO_TARGET_LO 0 (900 * 65536)).ready = true ∧ Fld.of (fld SG_CMD_ARM 1 ||| fld SG_CMD_GATE 3) SG_CMD_GATE = 3 ∧
    Fld.on (fld SG_CMD_ARM 1 ||| fld SG_CMD_GATE 3) SG_CMD_ARM = true ∧ Fld.on (fld SG_CMD_ARM 1 ||| fld SG_CMD_GATE 3) SG_CMD_CANCEL = false ∧
    (running.setF SG_TGT_LO_TARGET_LO 0 (900 * 65536)).passed ((running.setF SG_TGT_LO_TARGET_LO 0 (900 * 65536)).lead { copied := true, lo := (running.setF SG_TGT_LO_TARGET_LO 0 (900 * 65536)).stagedGate.lo, hi := (running.setF SG_TGT_LO_TARGET_LO 0 (900 * 65536)).stagedGate.hi, signed := (running.setF SG_TGT_LO_TARGET_LO 0 (900 * 65536)).stagedGate.signed, noLate := (running.setF SG_TGT_LO_TARGET_LO 0 (900 * 65536)).stagedGate.noLate, action := (running.setF SG_TGT_LO_TARGET_LO 0 (900 * 65536)).stagedGate.action, owner := (running.setF SG_TGT_LO_TARGET_LO 0 (900 * 65536)).stagedGate.owner, queue := (running.setF SG_TGT_LO_TARGET_LO 0 (900 * 65536)).stagedGate.queue, port := (running.setF SG_TGT_LO_TARGET_LO 0 (900 * 65536)).stagedGate.port, slot := (running.setF SG_TGT_LO_TARGET_LO 0 (900 * 65536)).stagedGate.slot, guard_ := (running.setF SG_TGT_LO_TARGET_LO 0 (900 * 65536)).stagedGate.guard_, duration := (running.setF SG_TGT_LO_TARGET_LO 0 (900 * 65536)).stagedGate.duration, epoch := (running.setF SG_TGT_LO_TARGET_LO 0 (900 * 65536)).epoch, late := (running.setF SG_TGT_LO_TARGET_LO 0 (900 * 65536)).stagedGate.late }) (running.setF SG_TGT_LO_TARGET_LO 0 (900 * 65536)).stagedGate.signed (running.setF SG_TGT_LO_TARGET_LO 0 (900 * 65536)).stagedGate.lo (running.setF SG_TGT_LO_TARGET_LO 0 (900 * 65536)).stagedGate.hi (running.setF SG_TGT_LO_TARGET_LO 0 (900 * 65536)).epoch = false ∧
    lateGate.ready = true ∧
    lateGate.passed (lateGate.lead { copied := true, lo := lateGate.stagedGate.lo, hi := lateGate.stagedGate.hi, signed := lateGate.stagedGate.signed, noLate := lateGate.stagedGate.noLate, action := lateGate.stagedGate.action, owner := lateGate.stagedGate.owner, queue := lateGate.stagedGate.queue, port := lateGate.stagedGate.port, slot := lateGate.stagedGate.slot, guard_ := lateGate.stagedGate.guard_, duration := lateGate.stagedGate.duration, epoch := lateGate.epoch, late := lateGate.stagedGate.late }) lateGate.stagedGate.signed lateGate.stagedGate.lo lateGate.stagedGate.hi lateGate.epoch = true ∧
    lateGate.stagedGate.noLate = true ∧ lateArm.ready = true ∧
    lateArm.passed (lateArm.lead { copied := true, lo := lateArm.stagedGate.lo, hi := lateArm.stagedGate.hi, signed := lateArm.stagedGate.signed, noLate := lateArm.stagedGate.noLate, action := lateArm.stagedGate.action, owner := lateArm.stagedGate.owner, queue := lateArm.stagedGate.queue, port := lateArm.stagedGate.port, slot := lateArm.stagedGate.slot, guard_ := lateArm.stagedGate.guard_, duration := lateArm.stagedGate.duration, epoch := lateArm.epoch, late := lateArm.stagedGate.late }) lateArm.stagedGate.signed lateArm.stagedGate.lo lateArm.stagedGate.hi lateArm.epoch = true ∧
    lateArm.stagedGate.noLate = false ∧ lateArm.time.lastGate = none ∧ (∀ e ∈ lateArm.time.gates, e.1 < 3 → lateArm.gateDue e.1 = false) ∧
    lateBehindLower.ready = true ∧
    lateBehindLower.passed (lateBehindLower.lead { copied := true, lo := lateBehindLower.stagedGate.lo, hi := lateBehindLower.stagedGate.hi, signed := lateBehindLower.stagedGate.signed, noLate := lateBehindLower.stagedGate.noLate, action := lateBehindLower.stagedGate.action, owner := lateBehindLower.stagedGate.owner, queue := lateBehindLower.stagedGate.queue, port := lateBehindLower.stagedGate.port, slot := lateBehindLower.stagedGate.slot, guard_ := lateBehindLower.stagedGate.guard_, duration := lateBehindLower.stagedGate.duration, epoch := lateBehindLower.epoch, late := lateBehindLower.stagedGate.late }) lateBehindLower.stagedGate.signed lateBehindLower.stagedGate.lo lateBehindLower.stagedGate.hi lateBehindLower.epoch = true ∧
    lateBehindLower.stagedGate.noLate = false ∧
    (lateBehindLower.time.lastGate ≠ none ∨ ∃ e ∈ lateBehindLower.time.gates, e.1 < 3 ∧ lateBehindLower.gateDue e.1 = true) ∧
    lateAfterAnother.ready = true ∧
    lateAfterAnother.passed (lateAfterAnother.lead { copied := true, lo := lateAfterAnother.stagedGate.lo, hi := lateAfterAnother.stagedGate.hi, signed := lateAfterAnother.stagedGate.signed, noLate := lateAfterAnother.stagedGate.noLate, action := lateAfterAnother.stagedGate.action, owner := lateAfterAnother.stagedGate.owner, queue := lateAfterAnother.stagedGate.queue, port := lateAfterAnother.stagedGate.port, slot := lateAfterAnother.stagedGate.slot, guard_ := lateAfterAnother.stagedGate.guard_, duration := lateAfterAnother.stagedGate.duration, epoch := lateAfterAnother.epoch, late := lateAfterAnother.stagedGate.late }) lateAfterAnother.stagedGate.signed lateAfterAnother.stagedGate.lo lateAfterAnother.stagedGate.hi lateAfterAnother.epoch = true ∧
    lateAfterAnother.stagedGate.noLate = false ∧
    (lateAfterAnother.time.lastGate ≠ none ∨ ∃ e ∈ lateAfterAnother.time.gates, e.1 < 3 ∧ lateAfterAnother.gateDue e.1 = true) ∧
    gateArmedMag.ready = true ∧ Fld.of (fld SG_CMD_CANCEL 1 ||| fld SG_CMD_GATE 3) SG_CMD_GATE = 3 ∧
    Fld.on (fld SG_CMD_CANCEL 1 ||| fld SG_CMD_GATE 3) SG_CMD_ARM = false ∧ Fld.on (fld SG_CMD_CANCEL 1 ||| fld SG_CMD_GATE 3) SG_CMD_CANCEL = true ∧
    gateArmedMag.gateState 3 = 1 ∧ gateArmedMag.gateDue 3 = false ∧ gateArmed.inReset = false ∧ gateArmed.gateDue 3 = true ∧
    gateArmed.time.lastGate = none := by decide

theorem test_sluiceGates_hypotheses_2 :
    (∀ e ∈ gateArmed.time.gates, e.1 < 3 → gateArmed.gateDue e.1 = false) ∧ gateWaits.inReset = false ∧ gateWaits.gateDue 3 = true ∧
    gateWaits.time.lastGate = none ∧ (∀ e ∈ gateWaits.time.gates, e.1 < 3 → gateWaits.gateDue e.1 = false) ∧
    (running.setF SG_STAT_STATE 3 2).inReset = false ∧
    ((running.setF SG_STAT_STATE 3 2).gateState 3 = 2 ∨ (running.setF SG_STAT_STATE 3 2).gateState 3 = 3) ∧ openQueue.inReset = false ∧
    openQueue.egressOf 8 2 = Egress.until (640 * 2 ^ 40) ∧ 640 * 2 ^ 40 ≤ openQueue.fabNow := by decide

/-! ### Tenants, the loader and mailboxes -/

/-- Context 5 of `running` in a state, of tenant 0, with a context record. -/
def ctx5 (st : Nat) (x : Ctx) : State :=
  { (running.setF CX_STATUS_STATE 5 st).setReg .TN_CTX_MASK 0 32 with ctxs := [(5, x)] }
def armed (st : Nat) (w : Wait) : State :=
  ctx5 st { wait := w, timers := [(2, { state := 1, lo := 640 * 65536 })] }
def granted : State := ((up.setF CX_STATUS_STATE 5 1).setReg .TN_CTX_MASK 0 32)
def gates7 : State := (up.setF TN_GATES_BASE 7 16).setF TN_GATES_COUNT 7 16
/-- Bytes of memory from `a` on. -/
def bytesAt (a : Nat) (bs : List Byte) : SMap Byte := memWrite [] a bs
/-- Tenant 0's translated pages 0 and 1 are pages 2 and 3 of the salt pans, writable and pinned; the first starts with these bytes. -/
def mapped (s : State) (page : List Byte) : State :=
  { s.setF XL_BASE_VALID 0 1 with
    salt := memWrite (memWrite (bytesAt 0 (leBytes 8 (2 ^ 63 + 65536))) 65536 (leBytes 8 (2 ^ 63 + 2 ^ 61 + 2 ^ 60 + 2 * 65536) ++ leBytes 8 (2 ^ 63 + 2 ^ 61 + 2 ^ 60 + 3 * 65536))) 131072 page }
/-- The header of an Ehrile image with one instruction, and its bytes. -/
def imageHead : List Byte :=
  leBytes 4 0x4548494C ++ leBytes 2 1 ++ leBytes 2 0 ++ leBytes 4 77 ++ leBytes 4 4 ++ leBytes 4 0 ++ leBytes 4 0 ++ leBytes 4 0
def imageBytes : List Byte := imageHead ++ leBytes 4 (crc32c (imageHead ++ [1, 2, 3, 4])) ++ List.replicate 32 0 ++ [1, 2, 3, 4]
def badImage : List Byte := imageHead ++ leBytes 4 0 ++ List.replicate 32 0 ++ [1, 2, 3, 4]
def loadable : State := ((((granted.setF CX_CFG_SCR_LEN 5 1).setF CX_CFG_IMEM_LEN 5 1).setF LD_CFG_CORE 0 1).setF LD_CFG_CTX_MASK 0 2).setF LD_CFG_START 0 1
def desc5 : LoadDesc := { src := 0, tenant := 0, core := 1, mask := 2, start := true }
def loading (body : Bool) (img : List Byte) : State :=
  { (mapped loadable img).setF LD_STAT_BUSY 0 1 with load := some { desc5 with body := body } }
def descOther : LoadDesc := { src := 0, tenant := 0, core := 1, mask := 1, start := true }
/-- A load whose header has been read. -/
def descBody (img : List Byte) : LoadDesc := { src := 0, tenant := 0, core := 1, mask := 2, start := true, body := true, hdr := img.take 64 }
def inBody (img : List Byte) : State := { loading true img with load := some (descBody img) }
def shown (parked : Option Parked) : State :=
  { ((up.setF MB_HDR_READY 255 1).setF MB_HDR_SEQ 255 65535).setF MB_HDR_PARKED 255 (parked.isSome.toNat) with
    mbox := [(255, { shown := [9], parked := parked })] }
def active : State := (ctx5 3 {}).setF TN_STATUS_STATE 0 1
def region : State := (mapped active []).setF TN_CHRY_LEN 0 2
def stoppedAll : State := ((mapped (ctx5 7 {}) []).setF TN_CHRY_LEN 0 2).setF TN_STATUS_STATE 0 2
/-- The copy of a model's weights is under way. -/
def halfLoaded : State := ((stoppedAll.setF DS_STAT_STATE 3 1).setF DS_STAT_POS 3 64).setModel 0 0 { wkib := 1 }
def saved : State := { stoppedAll.setF DS_STAT_STATE 7 1 with saves := [(0, { ctxs := [5], image := [1, 2, 3] })] }
/-- An image of no context. -/
def emptyHead : List Byte := leBytes 4 0x43485259 ++ leBytes 2 1 ++ List.replicate 58 0 ++ leBytes 4 128 ++ List.replicate 60 0
def emptyImage : List Byte := emptyHead ++ leBytes 4 (crc32c emptyHead) ++ leBytes 4 192 ++ leBytes 4 0x43485259 ++ List.replicate 52 0
def withImage : State := (mapped up emptyImage).setF TN_CHRY_LEN 0 2
def restoring : State := { withImage.setF TN_STATUS_STATE 0 5 with restores := [(0, some { image := emptyImage, hold := false, prev := 3, migrate := false, targets := [] })] }
def noImage : State := (mapped up []).setF TN_CHRY_LEN 0 2

theorem test_timerFires_hypotheses :
    (armed 3 Wait.none).inReset = false ∧ (((armed 3 Wait.none).ctx 5).timer 2).state = 1 ∧
    (armed 3 Wait.none).holdsNow 0 (((armed 3 Wait.none).ctx 5).timer 2).signed (((armed 3 Wait.none).ctx 5).timer 2).lo (((armed 3 Wait.none).ctx 5).timer 2).hi (((armed 3 Wait.none).ctx 5).timer 2).epoch = true ∧
    (armed 3 Wait.none).cxState 5 ≠ 4 ∧ (armed 4 (Wait.twait 4 7 7)).inReset = false ∧ (((armed 4 (Wait.twait 4 7 7)).ctx 5).timer 2).state = 1 ∧
    (armed 4 (Wait.twait 4 7 7)).holdsNow 0 (((armed 4 (Wait.twait 4 7 7)).ctx 5).timer 2).signed (((armed 4 (Wait.twait 4 7 7)).ctx 5).timer 2).lo (((armed 4 (Wait.twait 4 7 7)).ctx 5).timer 2).hi (((armed 4 (Wait.twait 4 7 7)).ctx 5).timer 2).epoch = true ∧
    (armed 4 (Wait.twait 4 7 7)).cxState 5 = 4 ∧ ((armed 4 (Wait.twait 4 7 7)).ctx 5).wait = Wait.twait 4 7 7 ∧
    (armed 4 (Wait.twait 4 0 0)).inReset = false ∧ (((armed 4 (Wait.twait 4 0 0)).ctx 5).timer 2).state = 1 ∧
    (armed 4 (Wait.twait 4 0 0)).holdsNow 0 (((armed 4 (Wait.twait 4 0 0)).ctx 5).timer 2).signed (((armed 4 (Wait.twait 4 0 0)).ctx 5).timer 2).lo (((armed 4 (Wait.twait 4 0 0)).ctx 5).timer 2).hi (((armed 4 (Wait.twait 4 0 0)).ctx 5).timer 2).epoch = true ∧
    (armed 4 (Wait.twait 4 0 0)).cxState 5 = 4 ∧ ((armed 4 (Wait.twait 4 0 0)).ctx 5).wait = Wait.twait 4 0 0 := by decide

theorem test_contextGrants_hypotheses :
    granted.ready = true := by decide

theorem test_gateRangeWrite_hypotheses :
    gates7.ready = true ∧ gates7.tnState 3 = 0 ∧
    Fld.of (fld TN_GATES_BASE 4095 ||| fld TN_GATES_COUNT 1) TN_GATES_BASE + Fld.of (fld TN_GATES_BASE 4095 ||| fld TN_GATES_COUNT 1) TN_GATES_COUNT ≤ 4096 ∧
    (Fld.of (fld TN_GATES_BASE 4095 ||| fld TN_GATES_COUNT 1) TN_GATES_COUNT = 0 ∨ gates7.gatesMeet 3 (Fld.of (fld TN_GATES_BASE 4095 ||| fld TN_GATES_COUNT 1) TN_GATES_BASE) (Fld.of (fld TN_GATES_BASE 4095 ||| fld TN_GATES_COUNT 1) TN_GATES_COUNT) = false) ∧
    Fld.of (fld TN_GATES_BASE 16) TN_GATES_BASE + Fld.of (fld TN_GATES_BASE 16) TN_GATES_COUNT ≤ 4096 ∧
    (Fld.of (fld TN_GATES_BASE 16) TN_GATES_COUNT = 0 ∨ gates7.gatesMeet 3 (Fld.of (fld TN_GATES_BASE 16) TN_GATES_BASE) (Fld.of (fld TN_GATES_BASE 16) TN_GATES_COUNT) = false) ∧
    (up.setF TN_STATUS_STATE 3 1).ready = true ∧ (up.setF TN_STATUS_STATE 3 1).tnState 3 ≠ 0 ∧ up.ready = true ∧
    4096 < Fld.of (fld TN_GATES_BASE 4095 ||| fld TN_GATES_COUNT 2) TN_GATES_BASE + Fld.of (fld TN_GATES_BASE 4095 ||| fld TN_GATES_COUNT 2) TN_GATES_COUNT ∧
    Fld.of (fld TN_GATES_BASE 31 ||| fld TN_GATES_COUNT 1) TN_GATES_COUNT ≠ 0 ∧
    gates7.gatesMeet 3 (Fld.of (fld TN_GATES_BASE 31 ||| fld TN_GATES_COUNT 1) TN_GATES_BASE) (Fld.of (fld TN_GATES_BASE 31 ||| fld TN_GATES_COUNT 1) TN_GATES_COUNT) = true := by decide

theorem test_loaderCommands_hypotheses :
    loadable.ready = true ∧
    (([LD_CMD_GO, LD_CMD_RESUME, LD_CMD_ABANDON].all fun g => decide (Fld.on (fld LD_CMD_GO 1) g = decide (g = LD_CMD_GO))) = true) ∧
    loadable.load = none ∧
    desc5 = { src := loadable.getF LD_SRC_ADDR 0, tenant := loadable.getF LD_CFG_TENANT 0, core := loadable.getF LD_CFG_CORE 0, mask := loadable.getF LD_CFG_CTX_MASK 0, start := loadable.flag LD_CFG_START 0 } ∧
    loadable.loadable desc5 = true ∧ (loadable.setF LD_CFG_CTX_MASK 0 1).ready = true ∧ (loadable.setF LD_CFG_CTX_MASK 0 1).load = none ∧
    descOther = { src := (loadable.setF LD_CFG_CTX_MASK 0 1).getF LD_SRC_ADDR 0, tenant := (loadable.setF LD_CFG_CTX_MASK 0 1).getF LD_CFG_TENANT 0, core := (loadable.setF LD_CFG_CTX_MASK 0 1).getF LD_CFG_CORE 0, mask := (loadable.setF LD_CFG_CTX_MASK 0 1).getF LD_CFG_CTX_MASK 0, start := (loadable.setF LD_CFG_CTX_MASK 0 1).flag LD_CFG_START 0 } ∧
    (loadable.setF LD_CFG_CTX_MASK 0 1).loadable descOther = false ∧ (loading false []).ready = true ∧ (loading false []).load ≠ none ∧
    ((loading true []).setF LD_STAT_FAULT 0 1).ready = true ∧
    (([LD_CMD_GO, LD_CMD_RESUME, LD_CMD_ABANDON].all fun g => decide (Fld.on (fld LD_CMD_RESUME 1) g = decide (g = LD_CMD_RESUME))) = true) ∧
    ((loading true []).setF LD_STAT_FAULT 0 1).load = some { src := desc5.src, tenant := desc5.tenant, core := desc5.core, mask := desc5.mask, start := desc5.start, body := true, hdr := desc5.hdr, got := desc5.got } ∧
    ((loading true []).setF LD_STAT_FAULT 0 1).flag LD_STAT_FAULT 0 = true ∧
    (([LD_CMD_GO, LD_CMD_RESUME, LD_CMD_ABANDON].all fun g => decide (Fld.on (fld LD_CMD_ABANDON 1) g = decide (g = LD_CMD_ABANDON))) = true) ∧
    ((loading false []).setF LD_STAT_FAULT 0 1).ready = true ∧
    ((loading false []).setF LD_STAT_FAULT 0 1).load = some { src := desc5.src, tenant := desc5.tenant, core := desc5.core, mask := desc5.mask, start := desc5.start, hdr := desc5.hdr, got := desc5.got } ∧
    ((loading false []).setF LD_STAT_FAULT 0 1).flag LD_STAT_FAULT 0 = true := by decide

theorem test_loadSteps_hypotheses :
    (loading false imageBytes).inReset = false ∧ (loading false imageBytes).load = some desc5 ∧
    (loading false imageBytes).flag LD_STAT_FAULT 0 = false ∧ desc5.body = false ∧
    (loading false imageBytes).xlBytes desc5.tenant desc5.src 64 = Except.ok (List.take 64 imageBytes) ∧
    (loading false imageBytes).loadRefusal desc5 (List.take 64 imageBytes) = 0 ∧
    ((loading false imageBytes).setF CX_CFG_IMEM_LEN 5 0).inReset = false ∧ ((loading false imageBytes).setF CX_CFG_IMEM_LEN 5 0).load = some desc5 ∧
    ((loading false imageBytes).setF CX_CFG_IMEM_LEN 5 0).flag LD_STAT_FAULT 0 = false ∧
    ((loading false imageBytes).setF CX_CFG_IMEM_LEN 5 0).xlBytes desc5.tenant desc5.src 64 = Except.ok (List.take 64 imageBytes) ∧
    ((loading false imageBytes).setF CX_CFG_IMEM_LEN 5 0).loadRefusal desc5 (List.take 64 imageBytes) ≠ 0 ∧ (inBody imageBytes).inReset = false ∧
    (inBody imageBytes).load = some (descBody imageBytes) ∧ (inBody imageBytes).flag LD_STAT_FAULT 0 = false ∧ (descBody imageBytes).body = true ∧
    (inBody imageBytes).xlBytes (descBody imageBytes).tenant ((descBody imageBytes).src + 64 + (descBody imageBytes).got.length) (fieldAt (descBody imageBytes).hdr 12 4 + fieldAt (descBody imageBytes).hdr 16 4 - (descBody imageBytes).got.length) = Except.ok [1, 2, 3, 4] ∧
    [1, 2, 3, 4] = List.take (fieldAt (descBody imageBytes).hdr 12 4) ((descBody imageBytes).got ++ [1, 2, 3, 4]) ∧
    [] = List.take (fieldAt (descBody imageBytes).hdr 16 4) (List.drop (fieldAt (descBody imageBytes).hdr 12 4) ((descBody imageBytes).got ++ [1, 2, 3, 4])) ∧
    imageFails (descBody imageBytes).hdr [1, 2, 3, 4] [] = 0 ∧ (inBody badImage).inReset = false ∧ (inBody badImage).load = some (descBody badImage) ∧
    (inBody badImage).flag LD_STAT_FAULT 0 = false ∧ (descBody badImage).body = true ∧
    (inBody badImage).xlBytes (descBody badImage).tenant ((descBody badImage).src + 64 + (descBody badImage).got.length) (fieldAt (descBody badImage).hdr 12 4 + fieldAt (descBody badImage).hdr 16 4 - (descBody badImage).got.length) = Except.ok [1, 2, 3, 4] ∧
    [1, 2, 3, 4] = List.take (fieldAt (descBody badImage).hdr 12 4) ((descBody badImage).got ++ [1, 2, 3, 4]) ∧
    [] = List.take (fieldAt (descBody badImage).hdr 16 4) (List.drop (fieldAt (descBody badImage).hdr 12 4) ((descBody badImage).got ++ [1, 2, 3, 4])) ∧
    imageFails (descBody badImage).hdr [1, 2, 3, 4] [] ≠ 0 := by decide +kernel

theorem test_mailboxHostSide_hypotheses :
    (shown none).ready = true ∧ Fld.on (fld MB_ACK_ACK 1 ||| fld MB_ACK_SEQ 65535) MB_ACK_ACK = true ∧ (shown none).flag MB_HDR_READY 255 = true ∧
    Fld.of (fld MB_ACK_ACK 1 ||| fld MB_ACK_SEQ 65535) MB_ACK_SEQ = (shown none).getF MB_HDR_SEQ 255 ∧ ((shown none).mailbox 255).parked = none ∧
    (shown (some { len := 2, data := [1, 2], gen := 4, sealed := true })).ready = true ∧
    (shown (some { len := 2, data := [1, 2], gen := 4, sealed := true })).flag MB_HDR_READY 255 = true ∧
    Fld.of (fld MB_ACK_ACK 1 ||| fld MB_ACK_SEQ 65535) MB_ACK_SEQ = (shown (some { len := 2, data := [1, 2], gen := 4, sealed := true })).getF MB_HDR_SEQ 255 ∧
    ((shown (some { len := 2, data := [1, 2], gen := 4, sealed := true })).mailbox 255).parked = some { len := 2, data := [1, 2], gen := 4, sealed := true } ∧
    (Fld.of (fld MB_ACK_ACK 1 ||| fld MB_ACK_SEQ 3) MB_ACK_SEQ ≠ (shown none).getF MB_HDR_SEQ 255 ∨ Fld.on (fld MB_ACK_ACK 1 ||| fld MB_ACK_SEQ 3) MB_ACK_ACK = false) := by decide

theorem test_storeErrorReport_hypotheses :
    (ctx5 6 { pc := 8, lateErrs := [77] }).inReset = false ∧ (ctx5 6 { pc := 8, lateErrs := [77] }).cxState 5 ∈ [3, 4, 5, 6] ∧
    ((ctx5 6 { pc := 8, lateErrs := [77] }).ctx 5).lateErrs = [77] ∧ (ctx5 6 { pc := 8, lateErrs := [77] }).tracesFlow 5 = false ∧
    (ctx5 5 { pc := 8, lateErrs := [77, 88] }).inReset = false ∧ (ctx5 5 { pc := 8, lateErrs := [77, 88] }).cxState 5 ∈ [3, 4, 5, 6] ∧
    ((ctx5 5 { pc := 8, lateErrs := [77, 88] }).ctx 5).lateErrs = [77, 88] ∧ (ctx5 5 { pc := 8, lateErrs := [77, 88] }).tracesFlow 5 = false ∧
    (ctx5 4 { pc := 8, wait := Wait.twait 1 2 3, lateErrs := [77, 88] }).inReset = false ∧
    (ctx5 4 { pc := 8, wait := Wait.twait 1 2 3, lateErrs := [77, 88] }).cxState 5 ∈ [3, 4, 5, 6] ∧
    ((ctx5 4 { pc := 8, wait := Wait.twait 1 2 3, lateErrs := [77, 88] }).ctx 5).lateErrs = [77, 88] ∧
    (ctx5 4 { pc := 8, wait := Wait.twait 1 2 3, lateErrs := [77, 88] }).tracesFlow 5 = false := by decide

theorem test_activateTenant_hypotheses :
    ((up.setF WN_CFG_EN 0 1).setF SC_PART_LEN 0 2).ready = true ∧ ((up.setF WN_CFG_EN 0 1).setF SC_PART_LEN 0 2).tnState 0 = 0 ∧
    (up.setF TN_STATUS_STATE 63 2).ready = true ∧ (up.setF TN_STATUS_STATE 63 2).tnState 63 ≠ 0 := by decide

theorem test_preemptTenant_hypotheses :
    (region.setF TS_STAT_RUNSTATE 0 1).ready = true ∧ (region.setF TS_STAT_RUNSTATE 0 1).preemptFails 0 = 0 ∧ active.ready = true ∧
    active.preemptFails 0 ≠ 0 := by decide

theorem test_saveOfTenant_hypotheses :
    ((stoppedAll.setF WN_STAT_STATE 0 1).setF WN_GEN_CUR 0 3).inReset = false ∧
    ((stoppedAll.setF WN_STAT_STATE 0 1).setF WN_GEN_CUR 0 3).tnState 0 = 2 ∧
    ((stoppedAll.setF WN_STAT_STATE 0 1).setF WN_GEN_CUR 0 3).dsState 0 7 ≠ 1 ∧
    ((stoppedAll.setF WN_STAT_STATE 0 1).setF WN_GEN_CUR 0 3).launchesQuiet 0 = true ∧
    (∀ m < 4, ((stoppedAll.setF WN_STAT_STATE 0 1).setF WN_GEN_CUR 0 3).dsState 0 (3 + m) = 1 → ((stoppedAll.setF WN_STAT_STATE 0 1).setF WN_GEN_CUR 0 3).weightPos 0 m = 0 ∨ (((stoppedAll.setF WN_STAT_STATE 0 1).setF WN_GEN_CUR 0 3).streamDesc 0 m).len ≤ ((stoppedAll.setF WN_STAT_STATE 0 1).setF WN_GEN_CUR 0 3).weightPos 0 m) ∧
    halfLoaded.dsState 0 (3 + 0) = 1 ∧ 0 < halfLoaded.weightPos 0 0 ∧ halfLoaded.weightPos 0 0 < (halfLoaded.streamDesc 0 0).len ∧
    (halfLoaded.setF DS_STAT_POS 3 1024).inReset = false ∧ (halfLoaded.setF DS_STAT_POS 3 1024).tnState 0 = 2 ∧
    (halfLoaded.setF DS_STAT_POS 3 1024).dsState 0 7 ≠ 1 ∧ (halfLoaded.setF DS_STAT_POS 3 1024).launchesQuiet 0 = true ∧
    (∀ m < 4, (halfLoaded.setF DS_STAT_POS 3 1024).dsState 0 (3 + m) = 1 → (halfLoaded.setF DS_STAT_POS 3 1024).weightPos 0 m = 0 ∨ ((halfLoaded.setF DS_STAT_POS 3 1024).streamDesc 0 m).len ≤ (halfLoaded.setF DS_STAT_POS 3 1024).weightPos 0 m) ∧
    saved.inReset = false ∧ saved.saving 0 = true ∧ (saved.writeChry 0 (saved.save 0).image.length).2 = none ∧ saved.chryBase 0 ≤ 2 ∧
    2 < saved.chryBase 0 + (saved.save 0).image.length ∧ saved.chryBase 0 ≤ 0 ∧ 0 < saved.chryBase 0 + (saved.save 0).image.length ∧
    (saved.setF TN_STATUS_STATE 0 4).ready = true ∧ (saved.setF TN_STATUS_STATE 0 4).tnState 0 = 4 := by decide

theorem test_restoreTenant_hypotheses :
    saved.ready = true ∧ saved.tnState 0 ≠ 0 ∧ saved.tnState 0 ≠ 3 ∧ withImage.ready = true ∧ (withImage.tnState 0 = 0 ∨ withImage.tnState 0 = 3) ∧
    withImage.readImage 0 = Except.ok emptyImage ∧
    ([] = List.filter (fun c => withImage.cxState c == 1 && withImage.flag CX_STATUS_IMAGE_VALID c) (withImage.ctxsOf 0)) ∧
    @LE.le Nat instLENat (imgN emptyImage) (@List.length Nat (@List.nil Nat)) ∧
    @Eq (List Nat) (@List.nil Nat) (@List.take Nat (imgN emptyImage) (@List.nil Nat)) ∧
    (∀ (x : Prod Nat Nat), @Membership.mem (Prod Nat Nat) (List (Prod Nat Nat)) (@List.instMembership (Prod Nat Nat)) (@List.zip Nat Nat (List.range (@List.length Nat (@List.nil Nat))) (@List.nil Nat)) x → @Eq Nat (ctxField emptyImage (@Prod.fst Nat Nat x) (@OfNat.ofNat Nat (nat_lit 268) (instOfNatNat (nat_lit 268))) (@OfNat.ofNat Nat (nat_lit 4) (instOfNatNat (nat_lit 4)))) (withImage.imageOf (@Prod.snd Nat Nat x))) ∧
    withImage.imgLayout emptyImage [] = true ∧ noImage.ready = true ∧ (noImage.tnState 0 = 0 ∨ noImage.tnState 0 = 3) ∧
    noImage.readImage 0 = Except.error (5, none) ∧ (up.setF TN_CHRY_LEN 0 2).ready = true ∧
    ((up.setF TN_CHRY_LEN 0 2).tnState 0 = 0 ∨ (up.setF TN_CHRY_LEN 0 2).tnState 0 = 3) ∧
    (up.setF TN_CHRY_LEN 0 2).readImage 0 = Except.error (8, some (1, 0)) ∧ restoring.inReset = false ∧ restoring.tnState 0 = 5 ∧
    smGet none restoring.restores 0 = some { image := emptyImage, hold := false, prev := 3, migrate := false, targets := [] } ∧
    restoring.chryBase 0 ≤ 0 ∧ 0 < restoring.chryBase 0 + emptyImage.length ∧ restoring.chryBase 0 ≤ 191 ∧
    191 < restoring.chryBase 0 + emptyImage.length := by decide +kernel

theorem test_restoreEnds_hypotheses :
    smGet none restoring.restores 0 = some { image := emptyImage, hold := false, prev := 3, migrate := false, targets := [] } ∧
    restoring.inReset = false ∧ restoring.tnState 0 = 5 := by decide

theorem test_resetTenant_hypotheses :
    active.ready = true ∧ active.tnState 0 ≠ 0 ∧ up.ready = true ∧ up.tnState 63 = 0 ∧ (up.setF TN_STATUS_STATE 63 6).inReset = false ∧
    (up.setF TN_STATUS_STATE 63 6).tnState 63 = 6 := by decide

/-! ### Ehrile instructions -/

/-- Context 5 of tenant 0 is RUNNABLE with these registers, and the word of `i` stands at its PC. -/
def issuing (i : Instr) (x : Ctx) : State :=
  { ((((running.setF CX_STATUS_STATE 5 3).setReg .TN_CTX_MASK 0 32).setF CX_CFG_IMEM_LEN 5 1).setF CX_CFG_SCR_LEN 5 1).setF SC_PART_LEN 0 8 with
    ctxs := [(5, x)], cores := [(1, { imem := bytesAt x.pc.toNat (leBytes 4 ((encodeEhrile i).getD 0)) })] }
def regs2 (a b : Word) : SMap Word := smSet 0 (smSet 0 [] 2 a) 3 b
def fA : FmtA := { rd := 1, ra := 2, rb := 3, qp := 0, qn := false }
def fI (imm : Nat) : FmtI := { rd := 1, ra := 2, imm := BitVec.ofNat 16 imm }
def fM (size : Nat) (sx : Bool) (imm : Nat) : FmtM := { rd := 3, ra := 2, size := BitVec.ofNat 2 size, sx := sx, imm := BitVec.ofNat 13 imm }
def runAdd : State := issuing (.add 5 fA) { g := regs2 7 8, pc := 8 }
def pcRange : State := issuing (.add 5 fA) { pc := 4096 }
def noWord : State := { issuing (.add 5 fA) {} with cores := [(1, { imem := [(3, 0x3C)] })] }
def latched : Ctx := { pc := 8, latch := some (7, 4) }
def fBad : FmtA := { fA with rd := 8 }
def fBad2 : FmtA := { fA with rb := 8 }
def fPeek2 : FmtT := ⟨1, 2, 3, 0, 2⟩
def fHalt : FmtT := ⟨0, 0, 0, 0, 0⟩
def fHaltBad : FmtT := { fHalt with ra := 1 }
def f5 : FmtA := { fA with rd := 7, ra := 7, rb := 0 }
def f7 : FmtA := { fA with rd := 7, ra := 2, rb := 7 }
def floating (i : Instr) (a b : Word) : State := issuing i { g := regs2 a b }
def f1 : FmtA := { fA with rb := 1 }
def bA : FmtB := { p := 0, pn := false, disp := 0x3FFFFF }
def fTo : FmtA := { fA with ra := 2 }
def m8 : FmtM := fM 3 false 0
def m1s : FmtM := fM 0 true 0x1FFF
def loadAt (f : FmtM) (a : Word) : State := mapped (issuing (.ld 5 f) { g := regs2 a 0 }) [0x81, 2, 3, 4, 5, 6, 7, 8]
def storeAt (f : FmtM) (a : Word) : State := mapped (issuing (.st 5 f) { g := regs2 a 0x1122334455667788 }) []
def broken : State := { storeAt m8 (2 ^ 48 + 8) with memBad := [(2 * (131072 + 8), true)] }

theorem test_instructionIssue_hypotheses :
    issuer (Instr.add 5 fA) = some 5 ∧ State.reset.canIssue 5 1 = false ∧ issuer (Instr.sub 5 fA) = some 5 ∧
    encodeEhrile (Instr.sub 5 fA) = some ((encodeEhrile (Instr.sub 5 fA)).getD 0) ∧ runAdd.pcOut 5 = false ∧
    runAdd.fetchWord 5 ≠ (encodeEhrile (Instr.sub 5 fA)).getD 0 ∧ (decodeEhrile 5 (runAdd.fetchWord 5)).isSome = true := by decide

theorem test_trapsBeforeTheInstruction_hypotheses_1 :
    issuer (Instr.add 5 fA) = some 5 ∧ pcRange.canIssue 5 2 = true ∧ pcRange.canIssue 5 1 = true ∧ pcRange.pcOut 5 = true ∧
    noWord.canIssue 5 2 = true ∧ noWord.canIssue 5 1 = true ∧ noWord.pcOut 5 = false ∧ decodeEhrile 5 (noWord.fetchWord 5) = none ∧
    8 ≤ fBad.rd.toNat ∧ (8 ≤ fBad2.ra.toNat ∨ 8 ≤ fBad2.rb.toNat) ∧ 2 ≤ fA.rb.toNat ∧ 256 ≤ (fI 256).imm.toNat ∧ (fM 0 true 0).sx = true ∧
    decide (fPeek2.ctl.toNat < 2) = false ∧
    (decide (fHaltBad.rd = 0) && decide (fHaltBad.ra = 0) && decide (fHaltBad.rb = 0) && decide (fHaltBad.pd = 0) && decide (fHaltBad.ctl = 0)) = false ∧
    ((issuing (Instr.add 5 fA) latched).ctx 5).latch.isSome = true ∧ ((issuing (Instr.tstz 5 f5) latched).ctx 5).latch.isSome = true ∧
    f5.rd.toNat < 8 ∧ ((issuing (Instr.pandn 5 f5) latched).ctx 5).latch.isSome = true ∧ f5.ra.toNat < 8 ∧ f5.rb.toNat < 8 ∧
    ((issuing (Instr.fcvtSL 5 f5) latched).ctx 5).latch.isSome = true ∧ f5.rb.toNat < 2 ∧
    ((issuing (Instr.shi 5 (fI 255)) latched).ctx 5).latch.isSome = true ∧ (fI 255).imm.toNat < 256 ∧
    ((issuing (Instr.br 5 { p := 0, pn := false, disp := 5 }) latched).ctx 5).latch.isSome = true ∧
    ((issuing (Instr.call 5 { p := 0, pn := false, disp := 5 }) latched).ctx 5).latch.isSome = true ∧
    ((issuing (Instr.jmpr 5 fA) latched).ctx 5).latch.isSome = true ∧ ((issuing (Instr.halt 5 fHalt) latched).ctx 5).latch.isSome = true ∧
    (decide (fHalt.rd = 0) && decide (fHalt.ra = 0) && decide (fHalt.rb = 0) && decide (fHalt.pd = 0) && decide (fHalt.ctl = 0)) = true := by decide

theorem test_trapsBeforeTheInstruction_hypotheses_2 :
    ((issuing (Instr.l 5 6) latched).ctx 5).latch.isSome = true := by decide

theorem test_integerInstructions_hypotheses :
    (runAdd.ctx 5).latch = none := by decide

theorem test_immediateInstructions_hypotheses :
    ((issuing (Instr.shi 5 (fI 255)) { g := regs2 7 8 }).ctx 5).latch = none ∧ (fI 255).imm.toNat < 256 ∧
    7 = ((issuing (Instr.shi 5 (fI 255)) { g := regs2 7 8 }).ctx 5).gr (fI 255).ra := by decide

theorem test_comparesAndPredicates_hypotheses :
    ((issuing (Instr.eq 5 f7) { g := regs2 7 8 }).ctx 5).latch = none ∧ f7.rd.toNat < 8 ∧ ((issuing (Instr.pand 5 f7) { }).ctx 5).latch = none ∧
    f7.ra.toNat < 8 ∧ f7.rb.toNat < 8 ∧ ((issuing (Instr.sel 5 fA) { g := regs2 7 8 }).ctx 5).latch = none ∧
    ((issuing (Instr.prd 5 fA) { p := 165 }).ctx 5).latch = none ∧
    ((issuing (Instr.pwr 5 fA) { g := regs2 240 63, p := 165 }).ctx 5).latch = none := by decide

theorem test_floatInstructions_hypotheses :
    ((floating (Instr.fadd 5 fA) 1065353216 1073741824).ctx 5).latch = none ∧
    1065353216 = ((floating (Instr.fadd 5 fA) 1065353216 1073741824).ctx 5).gr fA.ra ∧
    (1065353216 : BitVec (32 : ℕ)) = BitVec.setWidth (32 : ℕ) (1065353216 : Word) ∧
    1073741824 = BitVec.setWidth 32 (((floating (Instr.fadd 5 fA) 1065353216 1073741824).ctx 5).gr fA.rb) ∧
    0 = BitVec.setWidth 32 (((floating (Instr.fadd 5 fA) 1065353216 1073741824).ctx 5).gr fA.rd) ∧
    ((floating (Instr.fadd 5 fA) 1065353216 1073741824).ctx 5).guard fA = true ∧ ((floating (Instr.fcvtLS 5 f1) 1065353216 0).ctx 5).latch = none ∧
    1065353216 = ((floating (Instr.fcvtLS 5 f1) 1065353216 0).ctx 5).gr f1.ra ∧
    0 = BitVec.setWidth 32 (((floating (Instr.fcvtLS 5 f1) 1065353216 0).ctx 5).gr f1.rb) ∧
    0 = BitVec.setWidth 32 (((floating (Instr.fcvtLS 5 f1) 1065353216 0).ctx 5).gr f1.rd) ∧ f1.rb.toNat < 2 ∧
    ((floating (Instr.fcvtLS 5 f1) 1065353216 0).ctx 5).guard f1 = true ∧ ((floating (Instr.fle 5 f5) 1065353216 1073741824).ctx 5).latch = none ∧
    0 = ((floating (Instr.fle 5 f5) 1065353216 1073741824).ctx 5).gr f5.ra ∧ (0 : BitVec (32 : ℕ)) = BitVec.setWidth (32 : ℕ) (0 : Word) ∧
    0 = BitVec.setWidth 32 (((floating (Instr.fle 5 f5) 1065353216 1073741824).ctx 5).gr f5.rb) ∧
    0 = BitVec.setWidth 32 (((floating (Instr.fle 5 f5) 1065353216 1073741824).ctx 5).gr f5.rd) ∧ f5.rd.toNat < 8 ∧
    ((floating (Instr.fle 5 f5) 1065353216 1073741824).ctx 5).guard f5 = true := by decide

theorem test_roundingToNearest_hypotheses :
    e4m3.round 17 0 = some 88 ∧ e4m3.decode 88 = FVal.fin false 8 1 ∧ 89 < 2 ^ (e4m3.man + e4m3.exp) ∧
    e4m3.decode 89 = FVal.fin false 9 1 := by decide

theorem test_branchesAndPrefix_hypotheses :
    ((issuing (Instr.br 5 bA) { pc := 8 }).ctx 5).latch = none ∧ ((issuing (Instr.call 5 bA) { pc := 8 }).ctx 5).latch = none ∧
    ((issuing (Instr.jmpr 5 fA) { pc := 8, g := regs2 64 0 }).ctx 5).latch = none ∧
    (((issuing (Instr.jmpr 5 fA) { pc := 8, g := regs2 64 0 }).ctx 5).guard fA = false ∨ BitVec.toNat (((issuing (Instr.jmpr 5 fA) { pc := 8, g := regs2 64 0 }).ctx 5).gr fA.ra) % 4 = 0) ∧
    ((issuing (Instr.jmpr 5 fA) { pc := 8, g := regs2 66 0 }).ctx 5).latch = none ∧
    ((issuing (Instr.jmpr 5 fA) { pc := 8, g := regs2 66 0 }).ctx 5).guard fA = true ∧
    BitVec.toNat (((issuing (Instr.jmpr 5 fA) { pc := 8, g := regs2 66 0 }).ctx 5).gr fA.ra) % 4 ≠ 0 ∧
    ((issuing (Instr.l 5 7) { pc := 8 }).ctx 5).latch = none := by decide

theorem test_loads_hypotheses :
    4 = accessAddr ((loadAt m8 4).ctx 5) m8 ∧ 8 = 2 ^ m8.size.toNat ∧ 4095 = accessAddr ((loadAt m1s 4096).ctx 5) m1s ∧ 1 = 2 ^ m1s.size.toNat ∧
    4095 < (loadAt m1s 4096).scrLen 5 ∧ 2 ^ 32 + 65544 = accessAddr ((loadAt m8 (2 ^ 32 + 65544)).ctx 5) m8 ∧
    (loadAt m8 (2 ^ 32 + 65544)).targetOf 5 (2 ^ 32 + 65544) = Target.window 65544 ∧ widthOk 65544 8 = true ∧
    (loadAt m8 (2 ^ 32 + 65544)).mayRead ((loadAt m8 (2 ^ 32 + 65544)).tenantOf 5) 65544 = true ∧
    2 ^ 32 + 8 = accessAddr (((loadAt m8 (2 ^ 32 + 8)).setF MYB_SYSTEN_SYS_TENANT 0 1).ctx 5) m8 ∧
    ((loadAt m8 (2 ^ 32 + 8)).setF MYB_SYSTEN_SYS_TENANT 0 1).targetOf 5 (2 ^ 32 + 8) = Target.window 8 ∧
    (widthOk 8 8 = false ∨ ((loadAt m8 (2 ^ 32 + 8)).setF MYB_SYSTEN_SYS_TENANT 0 1).mayRead (((loadAt m8 (2 ^ 32 + 8)).setF MYB_SYSTEN_SYS_TENANT 0 1).tenantOf 5) 8 = false) ∧
    2 ^ 48 = accessAddr ((loadAt (fM 0 true 0) (2 ^ 48)).ctx 5) (fM 0 true 0) ∧ 1 = 2 ^ (fM 0 true 0).size.toNat ∧
    (loadAt (fM 0 true 0) (2 ^ 48)).targetOf 5 (2 ^ 48) = Target.space 0 ∧
    (loadAt (fM 0 true 0) (2 ^ 48)).xlRead ((loadAt (fM 0 true 0) (2 ^ 48)).tenantOf 5) 0 1 false = Except.ok [129] ∧
    2 ^ 48 + 2 ^ 29 = accessAddr ((loadAt m8 (2 ^ 48 + 2 ^ 29)).ctx 5) m8 ∧
    (loadAt m8 (2 ^ 48 + 2 ^ 29)).targetOf 5 (2 ^ 48 + 2 ^ 29) = Target.space (2 ^ 29) ∧
    (loadAt m8 (2 ^ 48 + 2 ^ 29)).xlRead ((loadAt m8 (2 ^ 48 + 2 ^ 29)).tenantOf 5) (2 ^ 29) 8 false = Except.error 1 ∧
    4096 = accessAddr ((loadAt m8 4096).ctx 5) m8 ∧ (loadAt m8 4096).targetOf 5 4096 = Target.none := by decide +kernel

theorem test_stores_hypotheses_1 :
    m8.sx = false ∧ 4 = accessAddr ((storeAt m8 4).ctx 5) m8 ∧ 8 = 2 ^ m8.size.toNat ∧ 1234605616436508552 = ((storeAt m8 4).ctx 5).gr m8.rd ∧
    4088 = accessAddr ((storeAt m8 4088).ctx 5) m8 ∧ 1234605616436508552 = ((storeAt m8 4088).ctx 5).gr m8.rd ∧ 4088 < (storeAt m8 4088).scrLen 5 ∧
    2 ^ 32 + 65664 = accessAddr ((storeAt m8 (2 ^ 32 + 65664)).ctx 5) m8 ∧ 1234605616436508552 = ((storeAt m8 (2 ^ 32 + 65664)).ctx 5).gr m8.rd ∧
    (storeAt m8 (2 ^ 32 + 65664)).targetOf 5 (2 ^ 32 + 65664) = Target.window 65664 ∧ widthOk 65664 8 = true ∧
    (storeAt m8 (2 ^ 32 + 65664)).mayWrite ((storeAt m8 (2 ^ 32 + 65664)).tenantOf 5) 65664 = true ∧
    2 ^ 32 + 65664 = accessAddr (((storeAt m8 (2 ^ 32 + 65664)).setF MYB_SYSTEN_SYS_TENANT 0 1).ctx 5) m8 ∧
    1234605616436508552 = (((storeAt m8 (2 ^ 32 + 65664)).setF MYB_SYSTEN_SYS_TENANT 0 1).ctx 5).gr m8.rd ∧
    ((storeAt m8 (2 ^ 32 + 65664)).setF MYB_SYSTEN_SYS_TENANT 0 1).targetOf 5 (2 ^ 32 + 65664) = Target.window 65664 ∧
    (widthOk 65664 8 = false ∨ ((storeAt m8 (2 ^ 32 + 65664)).setF MYB_SYSTEN_SYS_TENANT 0 1).mayWrite (((storeAt m8 (2 ^ 32 + 65664)).setF MYB_SYSTEN_SYS_TENANT 0 1).tenantOf 5) 65664 = false) ∧
    2 ^ 48 + 8 = accessAddr ((storeAt m8 (2 ^ 48 + 8)).ctx 5) m8 ∧ 1234605616436508552 = ((storeAt m8 (2 ^ 48 + 8)).ctx 5).gr m8.rd ∧
    (storeAt m8 (2 ^ 48 + 8)).targetOf 5 (2 ^ 48 + 8) = Target.space 8 ∧
    (storeAt m8 (2 ^ 48 + 8)).translate ((storeAt m8 (2 ^ 48 + 8)).tenantOf 5) 8 8 true false = Except.ok { hostMem := false, addr := 131072 + 8 } ∧
    2 ^ 48 + 8 = accessAddr (broken.ctx 5) m8 ∧ 1234605616436508552 = (broken.ctx 5).gr m8.rd ∧ broken.targetOf 5 (2 ^ 48 + 8) = Target.space 8 ∧
    broken.translate (broken.tenantOf 5) 8 8 true false = Except.ok { hostMem := false, addr := 131072 + 8 } ∧
    2 ^ 48 + 2 ^ 29 = accessAddr ((storeAt m8 (2 ^ 48 + 2 ^ 29)).ctx 5) m8 ∧ 1234605616436508552 = ((storeAt m8 (2 ^ 48 + 2 ^ 29)).ctx 5).gr m8.rd ∧
    (storeAt m8 (2 ^ 48 + 2 ^ 29)).targetOf 5 (2 ^ 48 + 2 ^ 29) = Target.space (2 ^ 29) ∧
    (storeAt m8 (2 ^ 48 + 2 ^ 29)).translate ((storeAt m8 (2 ^ 48 + 2 ^ 29)).tenantOf 5) (2 ^ 29) 8 true false = Except.error 1 ∧
    4096 = accessAddr ((storeAt m8 4096).ctx 5) m8 ∧ 1234605616436508552 = ((storeAt m8 4096).ctx 5).gr m8.rd := by decide

theorem test_stores_hypotheses_2 :
    (storeAt m8 4096).targetOf 5 4096 = Target.none := by decide

/-! ### Instructions on the system -/

def fT (ra rb ctl : Nat) : FmtT := { rd := 4, ra := BitVec.ofNat 5 ra, rb := BitVec.ofNat 5 rb, pd := 5, ctl := BitVec.ofNat 8 ctl }
def f0 (ra rb ctl : Nat) : FmtT := { fT ra rb ctl with rd := 0 }
def snapped : Ctx := { snap := { raw := 5, fab := 700 * 2 ^ 40, epoch := 9 } }
/-- `issuing` before time has started. -/
def stoppedTime (i : Instr) (x : Ctx) : State := { (issuing i x).setF TB_STATUS_RUNNING 0 0 with time := up.time }
def emits (ctl a b : Nat) : State := issuing (.emit 5 (fT 2 3 ctl)) { g := regs2 (BitVec.ofNat 64 a) (BitVec.ofNat 64 b) }
def jobGen4 : VoidJob := { gen := 4, refused := 65535, reason := 1, failed := 0, formed := 0, rolled := 0, stamp := 0, epoch := 0 }
def onVoided : State := { issuing (.emit 5 (fT 2 3 0xFF)) { g := regs2 4080 0x130, dep := some 4 } with win := { wins := [(0, { voided := [4], jobs := [jobGen4] })] } }
def inFlight (raw : Nat) : State := { issuing (.emit 5 (fT 2 3 0xFF)) { g := regs2 4080 0x130, dvoid := true } with win := { wins := [(0, { voided := [4], jobs := [jobGen4, { jobGen4 with gen := 6, refused := 0, deps := [5], raw := raw }] })] } }
/-- A record of tenant 0 in window generation `gen`. -/
def rec0 (gen : Nat) : Rec := { typ := 0x80, slots := 1, cls := 1, tenant := 0, source := 0x8205, seq := 3, stamp := 77, payload := List.replicate 16 9, epoch := 0, gen := gen }
/-- Queue 6 holds these cells, `n` records in all. -/
def queueState (s : State) (front : List Cell) (n : Nat) : State :=
  { ((s.setF QM_QCFG_VALID 6 1).setF QM_QCFG_PROG 6 1).setF QM_QSTAT_COUNT 6 n with qm := { s.qm with queues := [(6, { front := front })] } }
def reads (i : Instr) (b : Word) (front : List Cell) (n : Nat) : State := queueState (issuing i { g := regs2 6 b }) front n
def xq : Ctx := { g := regs2 6 32 }
def cell0 (gen : Nat) : Cell := { idx := 40, recs := [rec0 gen] }
def deqI : Instr := .deq 5 (fT 2 3 0)
def peekI : Instr := .peek 5 (fT 2 3 1)
def openSix (s : State) : State := (s.setF WN_GEN_CUR 0 4).setF WN_STAT_STATE 0 1
def rq (s : State) (i : Instr) (pk : Bool) : State × Head := (s.begin 5).readQueue 6 pk (decide (i = deqI))
def noRec : State := reads deqI 32 [] 0
def farRec : State := { reads deqI 32 [] 1 with qm := { rings := [(0, { ents := [{ queue := 6, incarn := 0, cell := cell0 3 }] })] } }
def openRec (i : Instr) : State := openSix (reads i 32 [cell0 4] 1)
def oldRec (i : Instr) : State := openSix (reads i 32 [cell0 3] 1)
def counts (i : Instr) (n b v : Nat) : State := (issuing i { g := regs2 (BitVec.ofNat 64 n) (BitVec.ofNat 64 b) }).setF SC_COUNT_VALUE n v
def xc (n b : Nat) : Ctx := { g := regs2 (BitVec.ofNat 64 n) (BitVec.ofNat 64 b) }
def gateTgt (cfg : Word) : List Byte := leBytes 8 (900 * 65536) ++ leBytes 8 0 ++ leBytes 8 cfg.toNat
def armsGate (ctl a g : Nat) (cfg : Word) : State :=
  let s := issuing (.atarm 5 (f0 2 3 ctl)) (xc a g)
  (({ s with cores := [(1, { (s.core 1) with scratch := bytesAt a (gateTgt cfg) })] }).setF TN_GATES_BASE 0 16).setF TN_GATES_COUNT 0 16
def armsLate : State := let s := armsGate 128 4072 31 0; { s.setF SG_STAT_STATE 20 1 with time := { s.time with raw := 1500, gates := [(20, { copied := true, late := some 1500 })] } }
def cancels (g st : Nat) : State :=
  (({ issuing (.atcan 5 (f0 0 3 128)) (xc 0 g) with time := gateArmedMag.time }.setF TN_GATES_BASE 0 3).setF TN_GATES_COUNT 0 1).setF SG_STAT_STATE 3 st
def timers3 (a b : Nat) : Ctx := { timers := [(0, { state := a }), (3, { state := b })] }

def asks : State := issuing (.harvest 5 (fT 2 3 160)) (xc 8 9)
def asked : State × Option Nat := (asks.begin 5).requestHarvest (asks.timedReq true 8 9)
def launchI : Instr := .tlaunch 5 (fT 2 0 0)
def launchFull : State :=
  let s := issuing launchI (xc 4032 0)
  { s with imago := { s.imago with queues := [(0, List.replicate 16 { ticket := 1, ctx := 5, at_ := 0, desc := [] })] } }
def posts (len a m : Nat) (dep : Option Nat) : State := issuing (.mbpost 5 (f0 2 3 len)) { xc a m with dep := dep }
def voidedWin (s : State) : State := { s with win := { s.win with wins := [(0, { voided := [4] })] } }
def hists (ctl a k : Nat) (mem : List Byte) : State :=
  let s := issuing (.hist 5 (fT 2 3 ctl)) { g := smSet 0 (regs2 (BitVec.ofNat 64 a) (BitVec.ofNat 64 k)) 4 7 }
  { s with cores := [(1, { (s.core 1) with scratch := bytesAt (a + 8 * 63) mem })] }
def xh (a k : Nat) : Ctx := { g := smSet 0 (regs2 (BitVec.ofNat 64 a) (BitVec.ofNat 64 k)) 4 7 }
def place (a logw k : Nat) (i : Nat) : Nat :=
  a + 4 * 2 ^ logw * i + 4 * (k * ([0x9E3779B97F4A7C15, 0xC2B2AE3D27D4EB4F, 0x165667B19E3779F9, 0x85EBCA77C2B2AE63].getD i 0) % 2 ^ 64 / 2 ^ (64 - logw))
def sketches (ctl a k : Nat) (m : SMap Byte) : State :=
  let s := issuing (.sketch 5 (fT 2 3 ctl)) (xc a k)
  { s with cores := [(1, { (s.core 1) with scratch := m })] }
def plain (ctl : Nat) : FmtT := { f0 0 0 ctl with pd := 0 }
def skipping (i : Instr) (k : Skip) : State :=
  let s := issuing i {}
  { s with cores := [(1, { s.core 1 with skips := [(1, some k)] })] }
def twoCtx : State :=
  let s := (skipping (.yield 5 (plain 0)) .turn).setF CX_STATUS_STATE 4 3
  { s with cores := [(1, { s.core 1 with skips := [(1, some .turn)], imem := bytesAt 0 (leBytes 4 ((encodeEhrile (.yield 5 (plain 0))).getD 0)) })] }

theorem test_timeAndCounterReads_hypotheses_1 :
    ((stoppedTime (Instr.rdtime 5 (fT 0 0 4)) snapped).ctx 5).latch = none ∧ (fT 0 0 4).rb = 0 ∧
    snapped = (stoppedTime (Instr.rdtime 5 (fT 0 0 4)) snapped).ctx 5 ∧ (fT 0 0 4).ra = 0 ∧
    (stoppedTime (Instr.rdtime 5 (fT 0 0 4)) snapped).running = false ∧ (fT 0 0 4).ctl.toNat < 5 ∧
    ((issuing (Instr.rdtime 5 (fT 0 0 0)) snapped).ctx 5).latch = none ∧ (fT 0 0 0).rb = 0 ∧
    snapped = (issuing (Instr.rdtime 5 (fT 0 0 0)) snapped).ctx 5 ∧ (fT 0 0 0).ra = 0 ∧ (issuing (Instr.rdtime 5 (fT 0 0 0)) snapped).running = true ∧
    (fT 0 0 0).ctl = 0 ∧ ((issuing (Instr.rdtime 5 (fT 0 0 1)) snapped).ctx 5).latch = none ∧ (fT 0 0 1).rb = 0 ∧
    snapped = (issuing (Instr.rdtime 5 (fT 0 0 1)) snapped).ctx 5 ∧ (fT 0 0 1).ra = 0 ∧ (issuing (Instr.rdtime 5 (fT 0 0 1)) snapped).running = true ∧
    [BitVec.ofNat 64 snapped.snap.raw, BitVec.ofNat 64 (snapped.snap.epoch % 65536 * 2 ^ 48 + secOf snapped.snap.fab), BitVec.ofNat 64 (snapped.snap.epoch % 65536 * 2 ^ 48 + nsOf snapped.snap.fab * 2 ^ 16 + fracOf snapped.snap.fab), BitVec.ofNat 64 ((issuing (Instr.rdtime 5 (fT 0 0 1)) snapped).getF TB_STATUS_HOLD_LEFT 0 * 2 ^ 16 + (issuing (Instr.rdtime 5 (fT 0 0 1)) snapped).getF TB_CTRL_QUALITY 0)][(fT 0 0 1).ctl.toNat - 1]? = some 5 ∧
    (fT 0 0 1).ctl ≠ 0 ∧ (((issuing (Instr.rdtime 5 (fT 0 0 4)) snapped).setF TB_STATUS_HOLD_LEFT 0 1000).ctx 5).latch = none ∧
    snapped = ((issuing (Instr.rdtime 5 (fT 0 0 4)) snapped).setF TB_STATUS_HOLD_LEFT 0 1000).ctx 5 ∧
    ((issuing (Instr.rdtime 5 (fT 0 0 4)) snapped).setF TB_STATUS_HOLD_LEFT 0 1000).running = true ∧
    [BitVec.ofNat 64 snapped.snap.raw, BitVec.ofNat 64 (snapped.snap.epoch % 65536 * 2 ^ 48 + secOf snapped.snap.fab), BitVec.ofNat 64 (snapped.snap.epoch % 65536 * 2 ^ 48 + nsOf snapped.snap.fab * 2 ^ 16 + fracOf snapped.snap.fab), BitVec.ofNat 64 (((issuing (Instr.rdtime 5 (fT 0 0 4)) snapped).setF TB_STATUS_HOLD_LEFT 0 1000).getF TB_STATUS_HOLD_LEFT 0 * 2 ^ 16 + ((issuing (Instr.rdtime 5 (fT 0 0 4)) snapped).setF TB_STATUS_HOLD_LEFT 0 1000).getF TB_CTRL_QUALITY 0)][(fT 0 0 4).ctl.toNat - 1]? = some 65536000 ∧
    (fT 0 0 4).ctl ≠ 0 ∧ ((issuing (Instr.rdctr 5 (fT 2 0 0)) { g := regs2 36863 0 }).ctx 5).latch = none ∧ (fT 2 0 0).rb = 0 ∧
    { g := regs2 36863 0 } = (issuing (Instr.rdctr 5 (fT 2 0 0)) { g := regs2 36863 0 }).ctx 5 ∧ (fT 2 0 0).ctl.toNat < 2 ∧
    36863 = BitVec.toNat ({ g := regs2 36863 0 : Ctx }.gr (fT 2 0 0).ra) ∧
    (issuing (Instr.rdctr 5 (fT 2 0 0)) { g := regs2 36863 0 }).countable ((issuing (Instr.rdctr 5 (fT 2 0 0)) { g := regs2 36863 0 }).tenantOf 5) 36863 = true := by decide

theorem test_timeAndCounterReads_hypotheses_2 :
    (fT 2 0 0).ctl = 0 ∧ ((issuing (Instr.rdctr 5 (fT 2 0 1)) { g := regs2 0 0 }).ctx 5).latch = none ∧ (fT 2 0 1).rb = 0 ∧
    { g := regs2 0 0 } = (issuing (Instr.rdctr 5 (fT 2 0 1)) { g := regs2 0 0 }).ctx 5 ∧ (fT 2 0 1).ctl.toNat < 2 ∧
    0 = BitVec.toNat ({ g := regs2 0 0 : Ctx }.gr (fT 2 0 1).ra) ∧
    (issuing (Instr.rdctr 5 (fT 2 0 1)) { g := regs2 0 0 }).countable ((issuing (Instr.rdctr 5 (fT 2 0 1)) { g := regs2 0 0 }).tenantOf 5) 0 = true ∧
    (fT 2 0 1).ctl = 1 ∧ ((issuing (Instr.rdctr 5 (fT 2 0 1)) { g := regs2 36864 0 }).ctx 5).latch = none ∧
    { g := regs2 36864 0 } = (issuing (Instr.rdctr 5 (fT 2 0 1)) { g := regs2 36864 0 }).ctx 5 ∧
    36864 = BitVec.toNat ({ g := regs2 36864 0 : Ctx }.gr (fT 2 0 1).ra) ∧
    (issuing (Instr.rdctr 5 (fT 2 0 1)) { g := regs2 36864 0 }).countable ((issuing (Instr.rdctr 5 (fT 2 0 1)) { g := regs2 36864 0 }).tenantOf 5) 36864 = false := by decide

theorem test_emitInstruction_hypotheses_1 :
    ((emits 113 0 16).ctx 5).latch = none ∧ { g := regs2 0 16 } = (emits 113 0 16).ctx 5 ∧
    16 = BitVec.toNat ({ g := regs2 0 16 : Ctx }.gr (fT 2 3 113).rb) ∧ 0 = BitVec.toNat ({ g := regs2 0 16 : Ctx }.gr (fT 2 3 113).ra) ∧
    ((emits 112 0 0).ctx 5).latch = none ∧ { g := regs2 0 0 } = (emits 112 0 0).ctx 5 ∧
    0 = BitVec.toNat ({ g := regs2 0 0 : Ctx }.gr (fT 2 3 112).rb) ∧ 0 = BitVec.toNat ({ g := regs2 0 0 : Ctx }.gr (fT 2 3 112).ra) ∧
    ((emits 128 4 16).ctx 5).latch = none ∧ { g := regs2 4 16 } = (emits 128 4 16).ctx 5 ∧
    16 = BitVec.toNat ({ g := regs2 4 16 : Ctx }.gr (fT 2 3 128).rb) ∧ 4 = BitVec.toNat ({ g := regs2 4 16 : Ctx }.gr (fT 2 3 128).ra) ∧
    ((emits 128 4088 16).ctx 5).latch = none ∧ { g := regs2 4088 16 } = (emits 128 4088 16).ctx 5 ∧
    16 = BitVec.toNat ({ g := regs2 4088 16 : Ctx }.gr (fT 2 3 128).rb) ∧ 4088 = BitVec.toNat ({ g := regs2 4088 16 : Ctx }.gr (fT 2 3 128).ra) ∧
    (emits 128 4088 16).scrLen 5 < 4088 + 16 + 32 * (1 - 1) ∧ ((emits 255 4080 304).ctx 5).latch = none ∧
    { g := regs2 4080 304 } = (emits 255 4080 304).ctx 5 ∧ 304 = BitVec.toNat ({ g := regs2 4080 304 : Ctx }.gr (fT 2 3 255).rb) ∧
    4080 = BitVec.toNat ({ g := regs2 4080 304 : Ctx }.gr (fT 2 3 255).ra) ∧ 4080 + 16 + 32 * (1 - 1) ≤ (emits 255 4080 304).scrLen 5 ∧
    (@Eq (List VoidJob) (@List.nil VoidJob) (@List.filter VoidJob (fun j => ((false.and (@Option.isNone Nat (@none Nat))).and (@List.contains Nat (@instBEqOfDecidableEq Nat instDecidableEqNat) j.deps (@OfNat.ofNat Nat (nat_lit 5) (instOfNatNat (nat_lit 5))))).and (@decide (@LE.le Nat instLENat (emits (@OfNat.ofNat Nat (nat_lit 255) (instOfNatNat (nat_lit 255))) (@OfNat.ofNat Nat (nat_lit 4080) (instOfNatNat (nat_lit 4080))) (@OfNat.ofNat Nat (nat_lit 304) (instOfNatNat (nat_lit 304)))).rawNow (@HAdd.hAdd Nat Nat Nat (@instHAdd Nat instAddNat) j.raw (@OfNat.ofNat Nat (nat_lit 12) (instOfNatNat (nat_lit 12))))) ((emits (@OfNat.ofNat Nat (nat_lit 255) (instOfNatNat (nat_lit 255))) (@OfNat.ofNat Nat (nat_lit 4080) (instOfNatNat (nat_lit 4080))) (@OfNat.ofNat Nat (nat_lit 304) (instOfNatNat (nat_lit 304)))).rawNow.decLe (@HAdd.hAdd Nat Nat Nat (@instHAdd Nat instAddNat) j.raw (@OfNat.ofNat Nat (nat_lit 12) (instOfNatNat (nat_lit 12))))))) ((emits (@OfNat.ofNat Nat (nat_lit 255) (instOfNatNat (nat_lit 255))) (@OfNat.ofNat Nat (nat_lit 4080) (instOfNatNat (nat_lit 4080))) (@OfNat.ofNat Nat (nat_lit 304) (instOfNatNat (nat_lit 304)))).window ((emits (@OfNat.ofNat Nat (nat_lit 255) (instOfNatNat (nat_lit 255))) (@OfNat.ofNat Nat (nat_lit 4080) (instOfNatNat (nat_lit 4080))) (@OfNat.ofNat Nat (nat_lit 304) (instOfNatNat (nat_lit 304)))).tenantOf (@OfNat.ofNat Nat (nat_lit 5) (instOfNatNat (nat_lit 5))))).jobs)) ∧
    @Eq (List VoidJob) (@List.nil VoidJob) (@List.nil VoidJob) ∧ (onVoided.ctx 5).latch = none ∧
    { g := regs2 4080 304, dep := some 4 } = onVoided.ctx 5 ∧ 304 = BitVec.toNat ({ g := regs2 4080 304, dep := some 4 : Ctx }.gr (fT 2 3 255).rb) ∧
    4080 = BitVec.toNat ({ g := regs2 4080 304, dep := some 4 : Ctx }.gr (fT 2 3 255).ra) ∧ 4080 + 16 + 32 * (1 - 1) ≤ onVoided.scrLen 5 ∧
    ([] = List.filter (fun j => false && (some 4).isNone && j.deps.contains 5 && decide (onVoided.rawNow ≤ j.raw + 12)) (onVoided.window (onVoided.tenantOf 5)).jobs) := by decide

theorem test_emitInstruction_hypotheses_2 :
    onVoided.genState (onVoided.tenantOf 5) 4 = GenState.voided ∧ ((inFlight 990).ctx 5).latch = none ∧
    { g := regs2 4080 304, dvoid := true } = (inFlight 990).ctx 5 ∧
    304 = BitVec.toNat ({ g := regs2 4080 304, dvoid := true : Ctx }.gr (fT 2 3 255).rb) ∧
    4080 = BitVec.toNat ({ g := regs2 4080 304, dvoid := true : Ctx }.gr (fT 2 3 255).ra) ∧ 4080 + 16 + 32 * (1 - 1) ≤ (inFlight 990).scrLen 5 ∧
    (@Eq (List VoidJob) (@List.cons VoidJob { gen := @OfNat.ofNat Nat (nat_lit 6) (instOfNatNat (nat_lit 6)), reason := jobGen4.reason, failed := jobGen4.failed, refused := @OfNat.ofNat Nat (nat_lit 0) (instOfNatNat (nat_lit 0)), formed := jobGen4.formed, rolled := jobGen4.rolled, stamp := jobGen4.stamp, epoch := jobGen4.epoch, deps := @List.cons Nat (@OfNat.ofNat Nat (nat_lit 5) (instOfNatNat (nat_lit 5))) (@List.nil Nat), raw := @OfNat.ofNat Nat (nat_lit 990) (instOfNatNat (nat_lit 990)) } (@List.nil VoidJob)) (@List.filter VoidJob (fun j => ((true.and (@Option.isNone Nat (@none Nat))).and (@List.contains Nat (@instBEqOfDecidableEq Nat instDecidableEqNat) j.deps (@OfNat.ofNat Nat (nat_lit 5) (instOfNatNat (nat_lit 5))))).and (@decide (@LE.le Nat instLENat (inFlight (@OfNat.ofNat Nat (nat_lit 990) (instOfNatNat (nat_lit 990)))).rawNow (@HAdd.hAdd Nat Nat Nat (@instHAdd Nat instAddNat) j.raw (@OfNat.ofNat Nat (nat_lit 12) (instOfNatNat (nat_lit 12))))) ((inFlight (@OfNat.ofNat Nat (nat_lit 990) (instOfNatNat (nat_lit 990)))).rawNow.decLe (@HAdd.hAdd Nat Nat Nat (@instHAdd Nat instAddNat) j.raw (@OfNat.ofNat Nat (nat_lit 12) (instOfNatNat (nat_lit 12))))))) ((inFlight (@OfNat.ofNat Nat (nat_lit 990) (instOfNatNat (nat_lit 990)))).window ((inFlight (@OfNat.ofNat Nat (nat_lit 990) (instOfNatNat (nat_lit 990)))).tenantOf (@OfNat.ofNat Nat (nat_lit 5) (instOfNatNat (nat_lit 5))))).jobs)) ∧
    [{ gen := 6, reason := jobGen4.reason, failed := jobGen4.failed, refused := 0, formed := jobGen4.formed, rolled := jobGen4.rolled, stamp := jobGen4.stamp, epoch := jobGen4.epoch, deps := [5], raw := 990 : VoidJob }] ≠ [] ∧
    ((inFlight 900).ctx 5).latch = none ∧ { g := regs2 4080 304, dvoid := true } = (inFlight 900).ctx 5 ∧
    4080 + 16 + 32 * (1 - 1) ≤ (inFlight 900).scrLen 5 ∧
    (@Eq (List VoidJob) (@List.nil VoidJob) (@List.filter VoidJob (fun j => ((true.and (@Option.isNone Nat (@none Nat))).and (@List.contains Nat (@instBEqOfDecidableEq Nat instDecidableEqNat) j.deps (@OfNat.ofNat Nat (nat_lit 5) (instOfNatNat (nat_lit 5))))).and (@decide (@LE.le Nat instLENat (inFlight (@OfNat.ofNat Nat (nat_lit 900) (instOfNatNat (nat_lit 900)))).rawNow (@HAdd.hAdd Nat Nat Nat (@instHAdd Nat instAddNat) j.raw (@OfNat.ofNat Nat (nat_lit 12) (instOfNatNat (nat_lit 12))))) ((inFlight (@OfNat.ofNat Nat (nat_lit 900) (instOfNatNat (nat_lit 900)))).rawNow.decLe (@HAdd.hAdd Nat Nat Nat (@instHAdd Nat instAddNat) j.raw (@OfNat.ofNat Nat (nat_lit 12) (instOfNatNat (nat_lit 12))))))) ((inFlight (@OfNat.ofNat Nat (nat_lit 900) (instOfNatNat (nat_lit 900)))).window ((inFlight (@OfNat.ofNat Nat (nat_lit 900) (instOfNatNat (nat_lit 900)))).tenantOf (@OfNat.ofNat Nat (nat_lit 5) (instOfNatNat (nat_lit 5))))).jobs)) := by decide

theorem test_queueReaders_hypotheses_1 :
    ((issuing deqI xq).ctx 5).latch = none ∧ xq = (issuing deqI xq).ctx 5 ∧ 6 = BitVec.toNat (xq.gr (fT 2 3 0).ra) ∧
    32 = BitVec.toNat (xq.gr (fT 2 3 0).rb) ∧
    (deqI = Instr.deq 5 (fT 2 3 0) ∧ (fT 2 3 0).ctl = 0 ∨ deqI = Instr.peek 5 (fT 2 3 0) ∧ (fT 2 3 0).ctl.toNat < 2) ∧
    (issuing deqI xq).readable ((issuing deqI xq).tenantOf 5) 6 = false ∧ ((reads peekI 33 [] 0).ctx 5).latch = none ∧
    { g := regs2 6 33 } = (reads peekI 33 [] 0).ctx 5 ∧ 6 = BitVec.toNat ({ g := regs2 6 33 : Ctx }.gr (fT 2 3 1).ra) ∧
    33 = BitVec.toNat ({ g := regs2 6 33 : Ctx }.gr (fT 2 3 1).rb) ∧
    (peekI = Instr.deq 5 (fT 2 3 1) ∧ (fT 2 3 1).ctl = 0 ∨ peekI = Instr.peek 5 (fT 2 3 1) ∧ (fT 2 3 1).ctl.toNat < 2) ∧
    (reads peekI 33 [] 0).readable ((reads peekI 33 [] 0).tenantOf 5) 6 = true ∧ ((reads deqI 3872 [] 0).ctx 5).latch = none ∧
    { g := regs2 6 3872 } = (reads deqI 3872 [] 0).ctx 5 ∧ 6 = BitVec.toNat ({ g := regs2 6 3872 : Ctx }.gr (fT 2 3 0).ra) ∧
    3872 = BitVec.toNat ({ g := regs2 6 3872 : Ctx }.gr (fT 2 3 0).rb) ∧
    (reads deqI 3872 [] 0).readable ((reads deqI 3872 [] 0).tenantOf 5) 6 = true ∧ (reads deqI 3872 [] 0).scrLen 5 < 3872 + 256 ∧
    (noRec.ctx 5).latch = none ∧ xq = noRec.ctx 5 ∧ noRec.readable (noRec.tenantOf 5) 6 = true ∧ 32 + 256 ≤ noRec.scrLen 5 ∧
    (noRec.begin 5).readQueue 6 (decide ((fT 2 3 0).ctl = 1)) (decide (deqI = Instr.deq 5 (fT 2 3 0))) = ((rq noRec deqI false).1, (rq noRec deqI false).2) ∧
    (rq noRec deqI false).2 = Head.empty ∧ (farRec.ctx 5).latch = none ∧ xq = farRec.ctx 5 ∧ farRec.readable (farRec.tenantOf 5) 6 = true ∧
    32 + 256 ≤ farRec.scrLen 5 ∧
    (farRec.begin 5).readQueue 6 (decide ((fT 2 3 0).ctl = 1)) (decide (deqI = Instr.deq 5 (fT 2 3 0))) = ((rq farRec deqI false).1, (rq farRec deqI false).2) ∧
    (rq farRec deqI false).2 = Head.remote := by decide

theorem test_queueReaders_hypotheses_2 :
    ((openRec deqI).ctx 5).latch = none ∧ xq = (openRec deqI).ctx 5 ∧ (openRec deqI).readable ((openRec deqI).tenantOf 5) 6 = true ∧
    32 + 256 ≤ (openRec deqI).scrLen 5 ∧
    ((openRec deqI).begin 5).readQueue 6 (decide ((fT 2 3 0).ctl = 1)) (decide (deqI = Instr.deq 5 (fT 2 3 0))) = ((rq (openRec deqI) deqI false).1, (rq (openRec deqI) deqI false).2) ∧
    (rq (openRec deqI) deqI false).2 = Head.item (rec0 4) 40 ∧
    (rq (openRec deqI) deqI false).1.genState (rec0 4).tenant (rec0 4).gen = GenState.open_ ∧ deqI = Instr.deq 5 (fT 2 3 0) ∧
    ((oldRec deqI).ctx 5).latch = none ∧ xq = (oldRec deqI).ctx 5 ∧ (oldRec deqI).readable ((oldRec deqI).tenantOf 5) 6 = true ∧
    32 + 256 ≤ (oldRec deqI).scrLen 5 ∧
    ((oldRec deqI).begin 5).readQueue 6 (decide ((fT 2 3 0).ctl = 1)) (decide (deqI = Instr.deq 5 (fT 2 3 0))) = ((rq (oldRec deqI) deqI false).1, (rq (oldRec deqI) deqI false).2) ∧
    (rq (oldRec deqI) deqI false).2 = Head.item (rec0 3) 40 ∧ (rq (oldRec deqI) deqI false).1.genState (rec0 3).tenant (rec0 3).gen = GenState.final ∧
    GenState.final ≠ GenState.open_ ∧ ((oldRec peekI).ctx 5).latch = none ∧ xq = (oldRec peekI).ctx 5 ∧ 6 = BitVec.toNat (xq.gr (fT 2 3 1).ra) ∧
    32 = BitVec.toNat (xq.gr (fT 2 3 1).rb) ∧ (oldRec peekI).readable ((oldRec peekI).tenantOf 5) 6 = true ∧ 32 + 256 ≤ (oldRec peekI).scrLen 5 ∧
    ((oldRec peekI).begin 5).readQueue 6 (decide ((fT 2 3 1).ctl = 1)) (decide (peekI = Instr.deq 5 (fT 2 3 1))) = ((rq (oldRec peekI) peekI true).1, (rq (oldRec peekI) peekI true).2) ∧
    (rq (oldRec peekI) peekI true).2 = Head.item (rec0 3) 40 ∧
    (rq (oldRec peekI) peekI true).1.genState (rec0 3).tenant (rec0 3).gen = GenState.final ∧ peekI = Instr.peek 5 (fT 2 3 1) ∧
    ((openRec peekI).ctx 5).latch = none ∧ xq = (openRec peekI).ctx 5 ∧ (openRec peekI).readable ((openRec peekI).tenantOf 5) 6 = true ∧
    32 + 256 ≤ (openRec peekI).scrLen 5 := by decide

theorem test_queueReaders_hypotheses_3 :
    ((openRec peekI).begin 5).readQueue 6 (decide ((fT 2 3 1).ctl = 1)) (decide (peekI = Instr.deq 5 (fT 2 3 1))) = ((rq (openRec peekI) peekI true).1, (rq (openRec peekI) peekI true).2) ∧
    (rq (openRec peekI) peekI true).2 = Head.item (rec0 4) 40 ∧
    (rq (openRec peekI) peekI true).1.genState (rec0 4).tenant (rec0 4).gen = GenState.open_ ∧
    ((issuing (Instr.depstat 5 (fT 2 3 3)) { dep := some 4, dvoid := true }).ctx 5).latch = none ∧
    { dep := some 4, dvoid := true } = (issuing (Instr.depstat 5 (fT 2 3 3)) { dep := some 4, dvoid := true }).ctx 5 ∧
    0 = BitVec.toNat ({ dep := some 4, dvoid := true : Ctx }.gr (fT 2 3 3).ra) ∧
    0 = BitVec.toNat ({ dep := some 4, dvoid := true : Ctx }.gr (fT 2 3 3).rb) ∧ (fT 2 3 3).ctl = 3 := by decide

theorem test_syncCounterInstructions_hypotheses_1 :
    ((counts (Instr.scadd 5 (f0 2 3 0)) 8 1 0).ctx 5).latch = none ∧ xc 8 1 = (counts (Instr.scadd 5 (f0 2 3 0)) 8 1 0).ctx 5 ∧
    8 = BitVec.toNat ((xc 8 1).gr (f0 2 3 0).ra) ∧ 0 = (counts (Instr.scadd 5 (f0 2 3 0)) 8 1 0).tenantOf 5 ∧
    (Instr.scadd 5 (f0 2 3 0) = Instr.scadd 5 (f0 2 3 0) ∧ (f0 2 3 0).rd = 0 ∧ (counts (Instr.scadd 5 (f0 2 3 0)) 8 1 0).inPart 0 8 = false ∨ Instr.scadd 5 (f0 2 3 0) = Instr.scwait 5 (f0 2 3 0) ∧ (f0 2 3 0).ctl = 0 ∧ (counts (Instr.scadd 5 (f0 2 3 0)) 8 1 0).readReach 0 8 = false ∨ Instr.scadd 5 (f0 2 3 0) = Instr.scrd 5 (f0 2 3 0) ∧ (f0 2 3 0).rb = 0 ∧ (f0 2 3 0).ctl = 0 ∧ (counts (Instr.scadd 5 (f0 2 3 0)) 8 1 0).readReach 0 8 = false) ∧
    ((counts (Instr.scadd 5 (f0 2 3 0)) 7 (2 ^ 64 - 1) 0).ctx 5).latch = none ∧
    xc 7 (2 ^ 64 - 1) = (counts (Instr.scadd 5 (f0 2 3 0)) 7 (2 ^ 64 - 1) 0).ctx 5 ∧ 7 = BitVec.toNat ((xc 7 (2 ^ 64 - 1)).gr (f0 2 3 0).ra) ∧
    0 = (counts (Instr.scadd 5 (f0 2 3 0)) 7 (2 ^ 64 - 1) 0).tenantOf 5 ∧ (f0 2 3 0).rd = 0 ∧
    (counts (Instr.scadd 5 (f0 2 3 0)) 7 (2 ^ 64 - 1) 0).inPart 0 7 = true ∧
    ((-1 : ℤ) = if (f0 (2 : ℕ) (3 : ℕ) (0 : ℕ)).ctl.getLsbD (7 : ℕ) = true then ↑(f0 (2 : ℕ) (3 : ℕ) (0 : ℕ)).ctl.toNat % (128 : ℤ) else BitVec.toInt ((xc (7 : ℕ) ((2 : ℕ) ^ (64 : ℕ) - (1 : ℕ))).gr (f0 (2 : ℕ) (3 : ℕ) (0 : ℕ)).rb)) ∧
    ((counts (Instr.scadd 5 (f0 2 3 0)) 7 2 (2 ^ 48 - 2)).ctx 5).latch = none ∧ xc 7 2 = (counts (Instr.scadd 5 (f0 2 3 0)) 7 2 (2 ^ 48 - 2)).ctx 5 ∧
    7 = BitVec.toNat ((xc 7 2).gr (f0 2 3 0).ra) ∧ 0 = (counts (Instr.scadd 5 (f0 2 3 0)) 7 2 (2 ^ 48 - 2)).tenantOf 5 ∧
    (counts (Instr.scadd 5 (f0 2 3 0)) 7 2 (2 ^ 48 - 2)).inPart 0 7 = true ∧
    ((2 : ℤ) = if (f0 (2 : ℕ) (3 : ℕ) (0 : ℕ)).ctl.getLsbD (7 : ℕ) = true then ↑(f0 (2 : ℕ) (3 : ℕ) (0 : ℕ)).ctl.toNat % (128 : ℤ) else BitVec.toInt ((xc (7 : ℕ) (2 : ℕ)).gr (f0 (2 : ℕ) (3 : ℕ) (0 : ℕ)).rb)) ∧
    (0 : ℤ) ≤ (2 : ℤ) ∧ ((counts (Instr.scadd 5 (f0 2 3 255)) 7 2 (2 ^ 48 - 1 - 127)).ctx 5).latch = none ∧
    xc 7 2 = (counts (Instr.scadd 5 (f0 2 3 255)) 7 2 (2 ^ 48 - 1 - 127)).ctx 5 ∧ 7 = BitVec.toNat ((xc 7 2).gr (f0 2 3 255).ra) ∧
    0 = (counts (Instr.scadd 5 (f0 2 3 255)) 7 2 (2 ^ 48 - 1 - 127)).tenantOf 5 ∧ (f0 2 3 255).rd = 0 ∧
    (counts (Instr.scadd 5 (f0 2 3 255)) 7 2 (2 ^ 48 - 1 - 127)).inPart 0 7 = true ∧
    ((127 : ℤ) = if (f0 (2 : ℕ) (3 : ℕ) (255 : ℕ)).ctl.getLsbD (7 : ℕ) = true then ↑(f0 (2 : ℕ) (3 : ℕ) (255 : ℕ)).ctl.toNat % (128 : ℤ) else BitVec.toInt ((xc (7 : ℕ) (2 : ℕ)).gr (f0 (2 : ℕ) (3 : ℕ) (255 : ℕ)).rb)) ∧
    (0 : ℤ) ≤ (127 : ℤ) ∧ (((counts (Instr.scwait 5 (fT 2 3 0)) 7 2 1).setF SC_COUNT_POISONED 7 1).ctx 5).latch = none ∧
    xc 7 2 = ((counts (Instr.scwait 5 (fT 2 3 0)) 7 2 1).setF SC_COUNT_POISONED 7 1).ctx 5 ∧ 7 = BitVec.toNat ((xc 7 2).gr (fT 2 3 0).ra) := by decide

theorem test_syncCounterInstructions_hypotheses_2 :
    0 = ((counts (Instr.scwait 5 (fT 2 3 0)) 7 2 1).setF SC_COUNT_POISONED 7 1).tenantOf 5 ∧ (fT 2 3 0).ctl = 0 ∧
    ((counts (Instr.scwait 5 (fT 2 3 0)) 7 2 1).setF SC_COUNT_POISONED 7 1).readReach 0 7 = true ∧
    1 = ((counts (Instr.scwait 5 (fT 2 3 0)) 7 2 1).setF SC_COUNT_POISONED 7 1).getF SC_COUNT_VALUE 7 ∧
    2 = BitVec.toNat ((xc 7 2).gr (fT 2 3 0).rb) % 2 ^ 48 ∧
    ((counts (Instr.scwait 5 (fT 2 3 0)) 7 2 1).setF SC_COUNT_POISONED 7 1).flag SC_COUNT_POISONED 7 = true ∧
    ((counts (Instr.scwait 5 (fT 2 3 0)) 7 2 2).ctx 5).latch = none ∧ xc 7 2 = (counts (Instr.scwait 5 (fT 2 3 0)) 7 2 2).ctx 5 ∧
    0 = (counts (Instr.scwait 5 (fT 2 3 0)) 7 2 2).tenantOf 5 ∧ (counts (Instr.scwait 5 (fT 2 3 0)) 7 2 2).readReach 0 7 = true ∧
    2 = (counts (Instr.scwait 5 (fT 2 3 0)) 7 2 2).getF SC_COUNT_VALUE 7 ∧
    (counts (Instr.scwait 5 (fT 2 3 0)) 7 2 2).flag SC_COUNT_POISONED 7 = false ∧ ((counts (Instr.scwait 5 (fT 2 3 0)) 7 2 1).ctx 5).latch = none ∧
    xc 7 2 = (counts (Instr.scwait 5 (fT 2 3 0)) 7 2 1).ctx 5 ∧ 0 = (counts (Instr.scwait 5 (fT 2 3 0)) 7 2 1).tenantOf 5 ∧
    (counts (Instr.scwait 5 (fT 2 3 0)) 7 2 1).readReach 0 7 = true ∧ 1 = (counts (Instr.scwait 5 (fT 2 3 0)) 7 2 1).getF SC_COUNT_VALUE 7 ∧
    (counts (Instr.scwait 5 (fT 2 3 0)) 7 2 1).flag SC_COUNT_POISONED 7 = false ∧ ((counts (Instr.scrd 5 (fT 2 0 0)) 7 2 1).ctx 5).latch = none ∧
    xc 7 2 = (counts (Instr.scrd 5 (fT 2 0 0)) 7 2 1).ctx 5 ∧ 7 = BitVec.toNat ((xc 7 2).gr (fT 2 0 0).ra) ∧
    0 = (counts (Instr.scrd 5 (fT 2 0 0)) 7 2 1).tenantOf 5 ∧ (fT 2 0 0).rb = 0 ∧ (fT 2 0 0).ctl = 0 ∧
    (counts (Instr.scrd 5 (fT 2 0 0)) 7 2 1).readReach 0 7 = true ∧
    (((ctx5 4 { wait := Wait.scwait 7 2 0 0 }).setF SC_COUNT_VALUE 7 2).ctx 5).latch = none ∧
    { wait := Wait.scwait 7 2 0 0 } = ((ctx5 4 { wait := Wait.scwait 7 2 0 0 }).setF SC_COUNT_VALUE 7 2).ctx 5 ∧
    0 = BitVec.toNat ({ wait := Wait.scwait 7 2 0 0 : Ctx }.gr (fT 0 0 0).ra) ∧
    0 = ((ctx5 4 { wait := Wait.scwait 7 2 0 0 }).setF SC_COUNT_VALUE 7 2).tenantOf 5 ∧
    ((ctx5 4 { wait := Wait.scwait 7 2 0 0 }).setF SC_COUNT_VALUE 7 2).inReset = false := by decide

theorem test_syncCounterInstructions_hypotheses_3 :
    ((ctx5 4 { wait := Wait.scwait 7 2 0 0 }).setF SC_COUNT_VALUE 7 2).cxState 5 = 4 ∧
    2 = ((ctx5 4 { wait := Wait.scwait 7 2 0 0 }).setF SC_COUNT_VALUE 7 2).getF SC_COUNT_VALUE 7 ∧
    (((ctx5 4 { wait := Wait.scwait 7 2 0 0 }).setF SC_COUNT_VALUE 7 2).flag SC_COUNT_POISONED 7 = true ∨ 2 ≤ 2) := by decide

theorem test_timerInstructions_hypotheses_1 :
    ((issuing (Instr.atarm 5 (f0 2 3 16)) { }).ctx 5).latch = none ∧ { } = (issuing (Instr.atarm 5 (f0 2 3 16)) { }).ctx 5 ∧
    0 = (issuing (Instr.atarm 5 (f0 2 3 16)) { }).tenantOf 5 ∧ (f0 2 3 16).rd = 0 ∧ (f0 2 3 16).ctl.toNat / 4 % 4 = 0 ∧
    (f0 2 3 16).ctl.toNat / 32 % 4 ≠ 3 ∧ (f0 2 3 16).ctl.toNat < 128 ∧ (f0 2 3 16).ctl.toNat / 16 % 2 = 1 ∧
    ((stoppedTime (Instr.atarm 5 (f0 2 3 3)) { }).ctx 5).latch = none ∧ { } = (stoppedTime (Instr.atarm 5 (f0 2 3 3)) { }).ctx 5 ∧
    0 = (stoppedTime (Instr.atarm 5 (f0 2 3 3)) { }).tenantOf 5 ∧ (f0 2 3 3).rd = 0 ∧ (f0 2 3 3).ctl.toNat / 4 % 4 = 0 ∧
    (f0 2 3 3).ctl.toNat / 32 % 4 ≠ 3 ∧ (f0 2 3 3).ctl.toNat < 128 ∧ (f0 2 3 3).ctl.toNat / 16 % 2 = 0 ∧
    (stoppedTime (Instr.atarm 5 (f0 2 3 3)) { }).running = false ∧ ((issuing (Instr.atarm 5 (f0 2 3 35)) (xc 8 9)).ctx 5).latch = none ∧
    xc 8 9 = (issuing (Instr.atarm 5 (f0 2 3 35)) (xc 8 9)).ctx 5 ∧ 0 = (issuing (Instr.atarm 5 (f0 2 3 35)) (xc 8 9)).tenantOf 5 ∧
    (f0 2 3 35).rd = 0 ∧ (f0 2 3 35).ctl.toNat / 4 % 4 = 0 ∧ (f0 2 3 35).ctl.toNat / 32 % 4 ≠ 3 ∧ (f0 2 3 35).ctl.toNat < 128 ∧
    (f0 2 3 35).ctl.toNat / 16 % 2 = 0 ∧ (issuing (Instr.atarm 5 (f0 2 3 35)) (xc 8 9)).running = true ∧
    true = (issuing (Instr.atarm 5 (f0 2 3 35)) (xc 8 9)).cmpSigned ((f0 2 3 35).ctl.toNat / 32 % 4) 0 ∧
    8 = BitVec.toNat ((xc 8 9).gr (f0 2 3 35).ra) ∧ 9 = BitVec.toNat ((xc 8 9).gr (f0 2 3 35).rb) ∧
    ((armsGate 128 8 31 (fld SG_CFG_ACTION 7)).ctx 5).latch = none := by decide

theorem test_timerInstructions_hypotheses_2 :
    xc 8 31 = (armsGate 128 8 31 (fld SG_CFG_ACTION 7)).ctx 5 ∧ 0 = (armsGate 128 8 31 (fld SG_CFG_ACTION 7)).tenantOf 5 ∧ (f0 2 3 128).rd = 0 ∧
    (f0 2 3 128).ctl.toNat / 4 % 4 = 0 ∧ (f0 2 3 128).ctl.toNat / 32 % 4 ≠ 3 ∧ 128 ≤ (f0 2 3 128).ctl.toNat ∧
    8 = BitVec.toNat ((xc 8 31).gr (f0 2 3 128).ra) ∧ 31 = BitVec.toNat ((xc 8 31).gr (f0 2 3 128).rb) % 4096 ∧
    900 * 65536 = leNat ((armsGate 128 8 31 (fld SG_CFG_ACTION 7)).scrBytes 5 8 8) ∧
    0 = leNat ((armsGate 128 8 31 (fld SG_CFG_ACTION 7)).scrBytes 5 (8 + 8) 8) ∧
    fld SG_CFG_ACTION 7 = BitVec.ofNat 64 (leNat ((armsGate 128 8 31 (fld SG_CFG_ACTION 7)).scrBytes 5 (8 + 16) 8)) ∧
    8 + 24 ≤ (armsGate 128 8 31 (fld SG_CFG_ACTION 7)).scrLen 5 ∧ 4 ≤ Fld.of (fld SG_CFG_ACTION 7) SG_CFG_ACTION ∧
    ((armsGate 128 9 31 0).ctx 5).latch = none ∧ xc 9 31 = (armsGate 128 9 31 0).ctx 5 ∧ 0 = (armsGate 128 9 31 0).tenantOf 5 ∧
    9 = BitVec.toNat ((xc 9 31).gr (f0 2 3 128).ra) ∧ 31 = BitVec.toNat ((xc 9 31).gr (f0 2 3 128).rb) % 4096 ∧
    900 * 65536 = leNat ((armsGate 128 9 31 0).scrBytes 5 9 8) ∧ 0 = leNat ((armsGate 128 9 31 0).scrBytes 5 (9 + 8) 8) ∧
    0 = BitVec.ofNat 64 (leNat ((armsGate 128 9 31 0).scrBytes 5 (9 + 16) 8)) ∧
    ((armsGate 128 9 31 0).scrLen 5 < 9 + 24 ∨ Fld.of 0 SG_CFG_ACTION < 4) ∧ ((armsGate 128 4080 31 0).ctx 5).latch = none ∧
    xc 4080 31 = (armsGate 128 4080 31 0).ctx 5 ∧ 0 = (armsGate 128 4080 31 0).tenantOf 5 ∧ 4080 = BitVec.toNat ((xc 4080 31).gr (f0 2 3 128).ra) ∧
    31 = BitVec.toNat ((xc 4080 31).gr (f0 2 3 128).rb) % 4096 ∧ 900 * 65536 = leNat ((armsGate 128 4080 31 0).scrBytes 5 4080 8) ∧
    0 = leNat ((armsGate 128 4080 31 0).scrBytes 5 (4080 + 8) 8) ∧
    0 = BitVec.ofNat 64 (leNat ((armsGate 128 4080 31 0).scrBytes 5 (4080 + 16) 8)) := by decide

theorem test_timerInstructions_hypotheses_3 :
    (armsGate 128 4080 31 0).scrLen 5 < 4080 + 24 ∧ ((armsGate 128 4072 32 0).ctx 5).latch = none ∧ xc 4072 32 = (armsGate 128 4072 32 0).ctx 5 ∧
    0 = (armsGate 128 4072 32 0).tenantOf 5 ∧ 4072 = BitVec.toNat ((xc 4072 32).gr (f0 2 3 128).ra) ∧
    32 = BitVec.toNat ((xc 4072 32).gr (f0 2 3 128).rb) % 4096 ∧ 900 * 65536 = leNat ((armsGate 128 4072 32 0).scrBytes 5 4072 8) ∧
    0 = leNat ((armsGate 128 4072 32 0).scrBytes 5 (4072 + 8) 8) ∧ 0 = BitVec.ofNat 64 (leNat ((armsGate 128 4072 32 0).scrBytes 5 (4072 + 16) 8)) ∧
    4072 + 24 ≤ (armsGate 128 4072 32 0).scrLen 5 ∧ Fld.of 0 SG_CFG_ACTION < 4 ∧ (armsGate 128 4072 32 0).ownsGate 0 32 = false ∧
    ((armsGate 176 4072 31 (fld SG_CFG_ACTION 3)).ctx 5).latch = none ∧ xc 4072 31 = (armsGate 176 4072 31 (fld SG_CFG_ACTION 3)).ctx 5 ∧
    0 = (armsGate 176 4072 31 (fld SG_CFG_ACTION 3)).tenantOf 5 ∧ (f0 2 3 176).rd = 0 ∧ (f0 2 3 176).ctl.toNat / 4 % 4 = 0 ∧
    (f0 2 3 176).ctl.toNat / 32 % 4 ≠ 3 ∧ 128 ≤ (f0 2 3 176).ctl.toNat ∧ 4072 = BitVec.toNat ((xc 4072 31).gr (f0 2 3 176).ra) ∧
    31 = BitVec.toNat ((xc 4072 31).gr (f0 2 3 176).rb) % 4096 ∧
    900 * 65536 = leNat ((armsGate 176 4072 31 (fld SG_CFG_ACTION 3)).scrBytes 5 4072 8) ∧
    0 = leNat ((armsGate 176 4072 31 (fld SG_CFG_ACTION 3)).scrBytes 5 (4072 + 8) 8) ∧
    fld SG_CFG_ACTION 3 = BitVec.ofNat 64 (leNat ((armsGate 176 4072 31 (fld SG_CFG_ACTION 3)).scrBytes 5 (4072 + 16) 8)) ∧
    4072 + 24 ≤ (armsGate 176 4072 31 (fld SG_CFG_ACTION 3)).scrLen 5 ∧ Fld.of (fld SG_CFG_ACTION 3) SG_CFG_ACTION < 4 ∧
    (armsGate 176 4072 31 (fld SG_CFG_ACTION 3)).ownsGate 0 31 = true ∧ (armsGate 176 4072 31 (fld SG_CFG_ACTION 3)).running = true ∧
    (armsGate 176 4072 31 (fld SG_CFG_ACTION 3)).foreignArm 0 31 = false ∧
    { lo := 900 * 65536, noLate := true, action := 3 : Gate } = { lo := 900 * 65536, signed := (armsGate 176 4072 31 (fld SG_CFG_ACTION 3)).cmpSigned ((f0 2 3 176).ctl.toNat / 32 % 4) 0, noLate := decide ((f0 2 3 176).ctl.toNat / 16 % 2 = 1), action := Fld.of (fld SG_CFG_ACTION 3) SG_CFG_ACTION, queue := Fld.of (fld SG_CFG_ACTION 3) SG_CFG_QUEUE, port := Fld.of (fld SG_CFG_ACTION 3) SG_CFG_PORT, slot := Fld.of (fld SG_CFG_ACTION 3) SG_CFG_SLOT, guard_ := Fld.of (fld SG_CFG_ACTION 3) SG_CFG_GUARD, duration := Fld.of (fld SG_CFG_ACTION 3) SG_CFG_DURATION : Gate } := by decide

theorem test_timerInstructions_hypotheses_4 :
    ((issuing (Instr.atcan 5 (f0 0 0 2)) { timers := [(2, { state := 1, lo := 641 * 65536 })] }).ctx 5).latch = none ∧
    { timers := [(2, { state := 1, lo := 641 * 65536 })] } = (issuing (Instr.atcan 5 (f0 0 0 2)) { timers := [(2, { state := 1, lo := 641 * 65536 })] }).ctx 5 ∧
    0 = (issuing (Instr.atcan 5 (f0 0 0 2)) { timers := [(2, { state := 1, lo := 641 * 65536 })] }).tenantOf 5 ∧ (f0 0 0 2).rd = 0 ∧
    (f0 0 0 2).ra = 0 ∧ (f0 0 0 2).ctl.toNat / 4 % 32 = 0 ∧ (f0 0 0 2).ctl.toNat < 128 ∧
    { state := 1, lo := 641 * 65536 : Timer } = { timers := [(2, { state := 1, lo := 641 * 65536 : Timer })] : Ctx }.timer ((f0 0 0 2).ctl.toNat % 4) ∧
    (issuing (Instr.atcan 5 (f0 0 0 2)) { timers := [(2, { state := 1, lo := 641 * 65536 })] }).holdsNow 0 true (641 * 65536) 0 0 = false ∧
    ((issuing (Instr.atcan 5 (f0 0 0 2)) { timers := [(2, { state := 2 })] }).ctx 5).latch = none ∧
    { timers := [(2, { state := 2 })] } = (issuing (Instr.atcan 5 (f0 0 0 2)) { timers := [(2, { state := 2 })] }).ctx 5 ∧
    0 = (issuing (Instr.atcan 5 (f0 0 0 2)) { timers := [(2, { state := 2 })] }).tenantOf 5 ∧
    { state := 2 : Timer } = { timers := [(2, { state := 2 : Timer })] : Ctx }.timer ((f0 0 0 2).ctl.toNat % 4) ∧
    (2 ≠ 1 ∨ (issuing (Instr.atcan 5 (f0 0 0 2)) { timers := [(2, { state := 2 })] }).holdsNow 0 true 0 0 0 = true) ∧
    ((cancels 4 1).ctx 5).latch = none ∧ xc 0 4 = (cancels 4 1).ctx 5 ∧ 0 = (cancels 4 1).tenantOf 5 ∧ (f0 0 3 128).rd = 0 ∧ (f0 0 3 128).ra = 0 ∧
    (f0 0 3 128).ctl.toNat / 4 % 32 = 0 ∧ 128 ≤ (f0 0 3 128).ctl.toNat ∧ 4 = BitVec.toNat ((xc 0 4).gr (f0 0 3 128).rb) % 4096 ∧
    (cancels 4 1).ownsGate 0 4 = false ∧ ((cancels 3 1).ctx 5).latch = none ∧ xc 0 3 = (cancels 3 1).ctx 5 ∧ 0 = (cancels 3 1).tenantOf 5 ∧
    3 = BitVec.toNat ((xc 0 3).gr (f0 0 3 128).rb) % 4096 ∧ (cancels 3 1).ownsGate 0 3 = true ∧ (cancels 3 1).foreignArm 0 3 = false ∧
    (cancels 3 1).gateState 3 = 1 := by decide

theorem test_timerInstructions_hypotheses_5 :
    (cancels 3 1).gateDue 3 = false ∧ ((cancels 3 2).ctx 5).latch = none ∧ xc 0 3 = (cancels 3 2).ctx 5 ∧ 0 = (cancels 3 2).tenantOf 5 ∧
    (cancels 3 2).ownsGate 0 3 = true ∧ ((cancels 3 2).gateState 3 ≠ 1 ∨ (cancels 3 2).gateDue 3 = true) ∧
    ((issuing (Instr.twait 5 (fT 0 0 8)) (timers3 2 4)).ctx 5).latch = none ∧ timers3 2 4 = (issuing (Instr.twait 5 (fT 0 0 8)) (timers3 2 4)).ctx 5 ∧
    0 = (issuing (Instr.twait 5 (fT 0 0 8)) (timers3 2 4)).tenantOf 5 ∧ (fT 0 0 8).ra = 0 ∧ (fT 0 0 8).rb = 0 ∧ (fT 0 0 8).ctl.toNat < 16 ∧
    8 = (fT 0 0 8).ctl.toNat ∧
    16386 = BitVec.ofNat 64 (((timers3 2 4).timer 0).state + 16 * ((timers3 2 4).timer 1).state + 256 * ((timers3 2 4).timer 2).state + 4096 * ((timers3 2 4).timer 3).state) ∧
    (∃ i < 4, Nat.testBit 8 i = true ∧ 2 ≤ ((timers3 2 4).timer i).state) ∧ ((issuing (Instr.twait 5 (fT 0 0 8)) (timers3 2 0)).ctx 5).latch = none ∧
    timers3 2 0 = (issuing (Instr.twait 5 (fT 0 0 8)) (timers3 2 0)).ctx 5 ∧ 0 = (issuing (Instr.twait 5 (fT 0 0 8)) (timers3 2 0)).tenantOf 5 ∧
    2 = BitVec.ofNat 64 (((timers3 2 0).timer 0).state + 16 * ((timers3 2 0).timer 1).state + 256 * ((timers3 2 0).timer 2).state + 4096 * ((timers3 2 0).timer 3).state) ∧
    (∀ i < 4, Nat.testBit 8 i = true → ((timers3 2 0).timer i).state = 0) ∧ ((issuing (Instr.twait 5 (fT 0 0 8)) (timers3 2 1)).ctx 5).latch = none ∧
    timers3 2 1 = (issuing (Instr.twait 5 (fT 0 0 8)) (timers3 2 1)).ctx 5 ∧ 0 = (issuing (Instr.twait 5 (fT 0 0 8)) (timers3 2 1)).tenantOf 5 ∧
    4098 = BitVec.ofNat 64 (((timers3 2 1).timer 0).state + 16 * ((timers3 2 1).timer 1).state + 256 * ((timers3 2 1).timer 2).state + 4096 * ((timers3 2 1).timer 3).state) ∧
    (∀ i < 4, Nat.testBit 8 i = true → ((timers3 2 1).timer i).state < 2) ∧
    (∃ i < 4, Nat.testBit 8 i = true ∧ ((timers3 2 1).timer i).state = 1) := by decide

theorem test_requestInstructions_hypotheses_1 :
    (((issuing (Instr.harvest 5 (fT 2 3 0)) { }).setF MYB_SYSTEN_SYS_TENANT 0 1).ctx 5).latch = none ∧
    { } = ((issuing (Instr.harvest 5 (fT 2 3 0)) { }).setF MYB_SYSTEN_SYS_TENANT 0 1).ctx 5 ∧
    0 = ((issuing (Instr.harvest 5 (fT 2 3 0)) { }).setF MYB_SYSTEN_SYS_TENANT 0 1).tenantOf 5 ∧ 0 = BitVec.toNat ({ : Ctx }.gr (fT 2 3 0).ra) ∧
    (fT 2 3 0).ctl.toNat % 32 = 0 ∧ (fT 2 3 0).ctl.toNat / 32 % 4 ≠ 3 ∧
    ((issuing (Instr.harvest 5 (fT 2 3 0)) { }).setF MYB_SYSTEN_SYS_TENANT 0 1).flag HV_CFG_PROG_EN 0 = false ∧
    0 ≠ ((issuing (Instr.harvest 5 (fT 2 3 0)) { }).setF MYB_SYSTEN_SYS_TENANT 0 1).sysTenant ∧ (asks.ctx 5).latch = none ∧ xc 8 9 = asks.ctx 5 ∧
    0 = asks.tenantOf 5 ∧ 8 = BitVec.toNat ((xc 8 9).gr (fT 2 3 160).ra) ∧ (fT 2 3 160).ctl.toNat % 32 = 0 ∧ (fT 2 3 160).ctl.toNat / 32 % 4 ≠ 3 ∧
    (asks.flag HV_CFG_PROG_EN 0 = true ∨ 0 = asks.sysTenant) ∧
    ((asks.begin 5).requestHarvest (if 128 ≤ (fT 2 3 160).ctl.toNat then asks.timedReq (asks.cmpSigned ((fT 2 3 160).ctl.toNat / 32 % 4) 0) 8 (BitVec.toNat ((xc 8 9).gr (fT 2 3 160).rb)) else asks.immediateReq) = (asked.1, asked.2)) ∧
    ((issuing launchI (xc 63 0)).ctx 5).latch = none ∧ xc 63 0 = (issuing launchI (xc 63 0)).ctx 5 ∧ 0 = (issuing launchI (xc 63 0)).tenantOf 5 ∧
    63 = BitVec.toNat ((xc 63 0).gr (fT 2 0 0).ra) ∧ (fT 2 0 0).rb = 0 ∧ (fT 2 0 0).ctl = 0 ∧ ((issuing launchI (xc 4096 0)).ctx 5).latch = none ∧
    xc 4096 0 = (issuing launchI (xc 4096 0)).ctx 5 ∧ 0 = (issuing launchI (xc 4096 0)).tenantOf 5 ∧
    4096 = BitVec.toNat ((xc 4096 0).gr (fT 2 0 0).ra) ∧ (issuing launchI (xc 4096 0)).scrLen 5 < 4096 + 64 ∧ (launchFull.ctx 5).latch = none ∧
    xc 4032 0 = launchFull.ctx 5 ∧ 0 = launchFull.tenantOf 5 := by decide

theorem test_requestInstructions_hypotheses_2 :
    4032 = BitVec.toNat ((xc 4032 0).gr (fT 2 0 0).ra) ∧ 4032 + 64 ≤ launchFull.scrLen 5 ∧ 16 ≤ (launchFull.launches 0).length ∧
    (((issuing launchI (xc 4032 0)).setF IM_TSTAT_TICKET 0 (2 ^ 32 - 1)).ctx 5).latch = none ∧
    xc 4032 0 = ((issuing launchI (xc 4032 0)).setF IM_TSTAT_TICKET 0 (2 ^ 32 - 1)).ctx 5 ∧
    0 = ((issuing launchI (xc 4032 0)).setF IM_TSTAT_TICKET 0 (2 ^ 32 - 1)).tenantOf 5 ∧
    4032 + 64 ≤ ((issuing launchI (xc 4032 0)).setF IM_TSTAT_TICKET 0 (2 ^ 32 - 1)).scrLen 5 ∧
    (((issuing launchI (xc 4032 0)).setF IM_TSTAT_TICKET 0 (2 ^ 32 - 1)).launches 0).length < 16 ∧
    (1 = if ((issuing launchI (xc 4032 0)).setF IM_TSTAT_TICKET 0 (2 ^ 32 - 1)).getF IM_TSTAT_TICKET 0 = 2 ^ 32 - 1 then 1 else ((issuing launchI (xc 4032 0)).setF IM_TSTAT_TICKET 0 (2 ^ 32 - 1)).getF IM_TSTAT_TICKET 0 + 1) ∧
    ((posts 49 0 3 none).ctx 5).latch = none ∧ xc 0 3 = (posts 49 0 3 none).ctx 5 ∧ 0 = (posts 49 0 3 none).tenantOf 5 ∧
    0 = BitVec.toNat ((xc 0 3).gr (f0 2 3 49).ra) ∧ (f0 2 3 49).rd = 0 ∧ (f0 2 3 49).ctl.toNat < 64 ∧
    3 = BitVec.toNat ((xc 0 3).gr (f0 2 3 49).rb) % 256 ∧ 49 = (f0 2 3 49).ctl.toNat ∧ ((posts 48 4 3 none).ctx 5).latch = none ∧
    xc 4 3 = (posts 48 4 3 none).ctx 5 ∧ 0 = (posts 48 4 3 none).tenantOf 5 ∧ 4 = BitVec.toNat ((xc 4 3).gr (f0 2 3 48).ra) ∧ (f0 2 3 48).rd = 0 ∧
    (f0 2 3 48).ctl.toNat < 64 ∧ 3 = BitVec.toNat ((xc 4 3).gr (f0 2 3 48).rb) % 256 ∧ 48 = (f0 2 3 48).ctl.toNat ∧
    ((posts 48 0 4 none).ctx 5).latch = none ∧ xc 0 4 = (posts 48 0 4 none).ctx 5 ∧ 0 = (posts 48 0 4 none).tenantOf 5 ∧
    0 = BitVec.toNat ((xc 0 4).gr (f0 2 3 48).ra) ∧ 4 = BitVec.toNat ((xc 0 4).gr (f0 2 3 48).rb) % 256 := by decide

theorem test_requestInstructions_hypotheses_3 :
    ((posts 48 4056 3 none).ctx 5).latch = none ∧ xc 4056 3 = (posts 48 4056 3 none).ctx 5 ∧ 0 = (posts 48 4056 3 none).tenantOf 5 ∧
    4056 = BitVec.toNat ((xc 4056 3).gr (f0 2 3 48).ra) ∧ 3 = BitVec.toNat ((xc 4056 3).gr (f0 2 3 48).rb) % 256 ∧
    (posts 48 4056 3 none).scrLen 5 < 4056 + 48 ∧ (((posts 48 4048 3 none).setF MB_HDR_READY 3 1).ctx 5).latch = none ∧
    xc 4048 3 = ((posts 48 4048 3 none).setF MB_HDR_READY 3 1).ctx 5 ∧ 0 = ((posts 48 4048 3 none).setF MB_HDR_READY 3 1).tenantOf 5 ∧
    4048 = BitVec.toNat ((xc 4048 3).gr (f0 2 3 48).ra) ∧ 3 = BitVec.toNat ((xc 4048 3).gr (f0 2 3 48).rb) % 256 ∧
    4048 + 48 ≤ ((posts 48 4048 3 none).setF MB_HDR_READY 3 1).scrLen 5 ∧
    ((((posts 48 4048 3 none).setF MB_HDR_READY 3 1).mailbox 3).parked ≠ none ∨ (xc 4048 3).dep = none ∧ ((posts 48 4048 3 none).setF MB_HDR_READY 3 1).flag MB_HDR_READY 3 = true) ∧
    ((posts 48 4048 3 none).ctx 5).latch = none ∧ xc 4048 3 = (posts 48 4048 3 none).ctx 5 ∧ 0 = (posts 48 4048 3 none).tenantOf 5 ∧
    4048 + 48 ≤ (posts 48 4048 3 none).scrLen 5 ∧ ((posts 48 4048 3 none).mailbox 3).parked = none ∧ (xc 4048 3).dep = none ∧
    (posts 48 4048 3 none).flag MB_HDR_READY 3 = false ∧ ((openSix (posts 0 4096 3 (some 4))).ctx 5).latch = none ∧
    { pc := (xc 4096 3).pc, g := (xc 4096 3).g, p := (xc 4096 3).p, timers := (xc 4096 3).timers, wait := (xc 4096 3).wait, dep := some 4, dvoid := (xc 4096 3).dvoid, snap := (xc 4096 3).snap, latch := (xc 4096 3).latch, flow := (xc 4096 3).flow, lateErrs := (xc 4096 3).lateErrs } = (openSix (posts 0 4096 3 (some 4))).ctx 5 ∧
    0 = (openSix (posts 0 4096 3 (some 4))).tenantOf 5 ∧
    4096 = BitVec.toNat ({ pc := (xc 4096 3).pc, g := (xc 4096 3).g, p := (xc 4096 3).p, timers := (xc 4096 3).timers, wait := (xc 4096 3).wait, dep := some 4, dvoid := (xc 4096 3).dvoid, snap := (xc 4096 3).snap, latch := (xc 4096 3).latch, flow := (xc 4096 3).flow, lateErrs := (xc 4096 3).lateErrs : Ctx }.gr (f0 2 3 0).ra) ∧
    (f0 2 3 0).rd = 0 ∧ (f0 2 3 0).ctl.toNat < 64 ∧
    3 = BitVec.toNat ({ pc := (xc 4096 3).pc, g := (xc 4096 3).g, p := (xc 4096 3).p, timers := (xc 4096 3).timers, wait := (xc 4096 3).wait, dep := some 4, dvoid := (xc 4096 3).dvoid, snap := (xc 4096 3).snap, latch := (xc 4096 3).latch, flow := (xc 4096 3).flow, lateErrs := (xc 4096 3).lateErrs : Ctx }.gr (f0 2 3 0).rb) % 256 ∧
    0 = (f0 2 3 0).ctl.toNat ∧ 4096 + 0 ≤ (openSix (posts 0 4096 3 (some 4))).scrLen 5 ∧
    ((openSix (posts 0 4096 3 (some 4))).mailbox 3).parked = none := by decide

theorem test_requestInstructions_hypotheses_4 :
    (openSix (posts 0 4096 3 (some 4))).genState 0 4 = GenState.open_ ∧ ((voidedWin (posts 48 4048 3 (some 4))).ctx 5).latch = none ∧
    { pc := (xc 4048 3).pc, g := (xc 4048 3).g, p := (xc 4048 3).p, timers := (xc 4048 3).timers, wait := (xc 4048 3).wait, dep := some 4, dvoid := (xc 4048 3).dvoid, snap := (xc 4048 3).snap, latch := (xc 4048 3).latch, flow := (xc 4048 3).flow, lateErrs := (xc 4048 3).lateErrs } = (voidedWin (posts 48 4048 3 (some 4))).ctx 5 ∧
    0 = (voidedWin (posts 48 4048 3 (some 4))).tenantOf 5 ∧
    4048 = BitVec.toNat ({ pc := (xc 4048 3).pc, g := (xc 4048 3).g, p := (xc 4048 3).p, timers := (xc 4048 3).timers, wait := (xc 4048 3).wait, dep := some 4, dvoid := (xc 4048 3).dvoid, snap := (xc 4048 3).snap, latch := (xc 4048 3).latch, flow := (xc 4048 3).flow, lateErrs := (xc 4048 3).lateErrs : Ctx }.gr (f0 2 3 48).ra) ∧
    3 = BitVec.toNat ({ pc := (xc 4048 3).pc, g := (xc 4048 3).g, p := (xc 4048 3).p, timers := (xc 4048 3).timers, wait := (xc 4048 3).wait, dep := some 4, dvoid := (xc 4048 3).dvoid, snap := (xc 4048 3).snap, latch := (xc 4048 3).latch, flow := (xc 4048 3).flow, lateErrs := (xc 4048 3).lateErrs : Ctx }.gr (f0 2 3 48).rb) % 256 ∧
    4048 + 48 ≤ (voidedWin (posts 48 4048 3 (some 4))).scrLen 5 ∧ ((voidedWin (posts 48 4048 3 (some 4))).mailbox 3).parked = none ∧
    (voidedWin (posts 48 4048 3 (some 4))).genState 0 4 = GenState.voided := by decide

theorem test_histogramAndSketch_hypotheses_1 :
    ((hists 64 4 0 []).ctx 5).latch = none ∧ xh 4 0 = (hists 64 4 0 []).ctx 5 ∧ 4 = BitVec.toNat ((xh 4 0).gr (fT 2 3 64).ra) ∧
    0 = BitVec.toNat ((xh 4 0).gr (fT 2 3 64).rb) ∧ (fT 2 3 64).ctl.toNat < 128 ∧ 0 = 0 / 2 ^ ((fT 2 3 64).ctl.toNat % 64) ∧
    (0 = if 0 = 0 then 0 else min 63 (Nat.log2 0 + 1)) ∧ 0 = leNat ((hists 64 4 0 []).scrBytes 5 (4 + 8 * 0) 8) ∧
    (7 = 0 + if (fT 2 3 64).ctl.getLsbD 6 = true then BitVec.toNat ((xh 4 0).gr (fT 2 3 64).rd) else 1) ∧ ((hists 64 3592 0 []).ctx 5).latch = none ∧
    xh 3592 0 = (hists 64 3592 0 []).ctx 5 ∧ 3592 = BitVec.toNat ((xh 3592 0).gr (fT 2 3 64).ra) ∧ 0 = BitVec.toNat ((xh 3592 0).gr (fT 2 3 64).rb) ∧
    0 = leNat ((hists 64 3592 0 []).scrBytes 5 (3592 + 8 * 0) 8) ∧
    (7 = 0 + if (fT 2 3 64).ctl.getLsbD 6 = true then BitVec.toNat ((xh 3592 0).gr (fT 2 3 64).rd) else 1) ∧
    (hists 64 3592 0 []).scrLen 5 < 3592 + 512 ∧ ((hists 64 3584 (2 ^ 63) (List.replicate 8 255)).ctx 5).latch = none ∧
    xh 3584 (2 ^ 63) = (hists 64 3584 (2 ^ 63) (List.replicate 8 255)).ctx 5 ∧ 3584 = BitVec.toNat ((xh 3584 (2 ^ 63)).gr (fT 2 3 64).ra) ∧
    2 ^ 63 = BitVec.toNat ((xh 3584 (2 ^ 63)).gr (fT 2 3 64).rb) ∧ 2 ^ 63 = 2 ^ 63 / 2 ^ ((fT 2 3 64).ctl.toNat % 64) ∧
    (63 = if 2 ^ 63 = 0 then 0 else min 63 ((2 ^ 63).log2 + 1)) ∧
    2 ^ 64 - 1 = leNat ((hists 64 3584 (2 ^ 63) (List.replicate 8 255)).scrBytes 5 (3584 + 8 * 63) 8) ∧
    (2 ^ 64 + 6 = 2 ^ 64 - 1 + if (fT 2 3 64).ctl.getLsbD 6 = true then BitVec.toNat ((xh 3584 (2 ^ 63)).gr (fT 2 3 64).rd) else 1) ∧
    3584 + 512 ≤ (hists 64 3584 (2 ^ 63) (List.replicate 8 255)).scrLen 5 ∧ ((sketches 3 0 9 []).ctx 5).latch = none ∧
    xc 0 9 = (sketches 3 0 9 []).ctx 5 ∧ 0 = BitVec.toNat ((xc 0 9).gr (fT 2 3 3).ra) ∧ 9 = BitVec.toNat ((xc 0 9).gr (fT 2 3 3).rb) ∧
    3 = (fT 2 3 3).ctl.toNat % 32 := by decide

theorem test_histogramAndSketch_hypotheses_2 :
    1 = (fT 2 3 3).ctl.toNat / 64 + 1 ∧ (∀ i < 1, 0 ≤ leNat ((sketches 3 0 9 []).scrBytes 5 (place 0 3 9 i) 4)) ∧
    (∃ i < 1, 0 = leNat ((sketches 3 0 9 []).scrBytes 5 (place 0 3 9 i) 4)) ∧ ((sketches 4 2 9 []).ctx 5).latch = none ∧
    xc 2 9 = (sketches 4 2 9 []).ctx 5 ∧ 2 = BitVec.toNat ((xc 2 9).gr (fT 2 3 4).ra) ∧ 9 = BitVec.toNat ((xc 2 9).gr (fT 2 3 4).rb) ∧
    4 = (fT 2 3 4).ctl.toNat % 32 ∧ 1 = (fT 2 3 4).ctl.toNat / 64 + 1 ∧ (∀ i < 1, 0 ≤ leNat ((sketches 4 2 9 []).scrBytes 5 (place 2 4 9 i) 4)) ∧
    (∃ i < 1, 0 = leNat ((sketches 4 2 9 []).scrBytes 5 (place 2 4 9 i) 4)) ∧ ((sketches 16 0 9 []).ctx 5).latch = none ∧
    xc 0 9 = (sketches 16 0 9 []).ctx 5 ∧ 0 = BitVec.toNat ((xc 0 9).gr (fT 2 3 16).ra) ∧ 9 = BitVec.toNat ((xc 0 9).gr (fT 2 3 16).rb) ∧
    16 = (fT 2 3 16).ctl.toNat % 32 ∧ 1 = (fT 2 3 16).ctl.toNat / 64 + 1 ∧ (∀ i < 1, 0 ≤ leNat ((sketches 16 0 9 []).scrBytes 5 (place 0 16 9 i) 4)) ∧
    (∃ i < 1, 0 = leNat ((sketches 16 0 9 []).scrBytes 5 (place 0 16 9 i) 4)) ∧ (sketches 16 0 9 []).scrLen 5 < 0 + 4 * 2 ^ 16 * 1 ∧
    ((sketches 228 3840 9 (bytesAt (place 3840 4 9 1) [5])).ctx 5).latch = none ∧
    xc 3840 9 = (sketches 228 3840 9 (bytesAt (place 3840 4 9 1) [5])).ctx 5 ∧ 3840 = BitVec.toNat ((xc 3840 9).gr (fT 2 3 228).ra) ∧
    9 = BitVec.toNat ((xc 3840 9).gr (fT 2 3 228).rb) ∧ 4 = (fT 2 3 228).ctl.toNat % 32 ∧ 4 = (fT 2 3 228).ctl.toNat / 64 + 1 ∧
    (∀ i < 4, 0 ≤ leNat ((sketches 228 3840 9 (bytesAt (place 3840 4 9 1) [5])).scrBytes 5 (place 3840 4 9 i) 4)) ∧
    (∃ i < 4, 0 = leNat ((sketches 228 3840 9 (bytesAt (place 3840 4 9 1) [5])).scrBytes 5 (place 3840 4 9 i) 4)) ∧
    3840 + 4 * 2 ^ 4 * 4 ≤ (sketches 228 3840 9 (bytesAt (place 3840 4 9 1) [5])).scrLen 5 := by decide

theorem test_controlInstructions_hypotheses_1 :
    ((issuing (Instr.fence 5 (plain 7)) { }).ctx 5).latch = none ∧ (plain 7).rd = 0 ∧ (plain 7).ra = 0 ∧ (plain 7).rb = 0 ∧ (plain 7).pd = 0 ∧
    { } = (issuing (Instr.fence 5 (plain 7)) { }).ctx 5 ∧ (plain 7).ctl.toNat < 8 ∧
    Or (@Eq (List Nat) (@List.nil Nat) (@List.nil Nat)) (@Eq Bool (@BitVec.getLsbD (@OfNat.ofNat Nat (nat_lit 8) (instOfNatNat (nat_lit 8))) (plain (@OfNat.ofNat Nat (nat_lit 7) (instOfNatNat (nat_lit 7)))).ctl (@OfNat.ofNat Nat (nat_lit 1) (instOfNatNat (nat_lit 1)))) false) ∧
    ((issuing (Instr.fence 5 (plain 2)) { lateErrs := [6, 7] }).ctx 5).latch = none ∧ (plain 2).rd = 0 ∧ (plain 2).ra = 0 ∧ (plain 2).rb = 0 ∧
    (plain 2).pd = 0 ∧ { lateErrs := [6, 7] } = (issuing (Instr.fence 5 (plain 2)) { lateErrs := [6, 7] }).ctx 5 ∧ (plain 2).ctl.toNat < 8 ∧
    (plain 2).ctl.getLsbD 1 = true ∧ ((issuing (Instr.yield 5 (plain 0)) { }).ctx 5).latch = none ∧ (plain 0).rd = 0 ∧ (plain 0).ra = 0 ∧
    (plain 0).rb = 0 ∧ (plain 0).pd = 0 ∧ { } = (issuing (Instr.yield 5 (plain 0)) { }).ctx 5 ∧
    ((issuing (Instr.yield 5 (plain 3)) { }).ctx 5).latch = none ∧ (plain 3).rd = 0 ∧ (plain 3).ra = 0 ∧ (plain 3).rb = 0 ∧ (plain 3).pd = 0 ∧
    { } = (issuing (Instr.yield 5 (plain 3)) { }).ctx 5 ∧
    ((skipping (Instr.halt 5 (plain 0)) (Skip.until_ (up.rawNow + 100000))).ctx 5).latch = none ∧
    { } = (skipping (Instr.halt 5 (plain 0)) (Skip.until_ (up.rawNow + 100000))).ctx 5 := by decide

theorem test_controlInstructions_hypotheses_2 :
    issuer (Instr.halt 5 (plain 0)) = some 5 ∧
    (skipping (Instr.halt 5 (plain 0)) (Skip.until_ (up.rawNow + 100000))).skipOf 5 = some (Skip.until_ (up.rawNow + 100000)) ∧
    (skipping (Instr.halt 5 (plain 0)) (Skip.until_ (up.rawNow + 100000))).rawNow < up.rawNow + 100000 ∧ (twoCtx.ctx 5).latch = none ∧
    { } = twoCtx.ctx 5 ∧ issuer (Instr.yield 5 (plain 0)) = some 5 ∧ twoCtx.skipOf 5 = some Skip.turn ∧ coreOf 4 = coreOf 5 ∧
    twoCtx.eligible 4 (twoCtx.needOf 4) = true ∧ twoCtx.skipOf 4 ≠ some Skip.turn ∧ ((issuing (Instr.halt 5 (plain 0)) { }).ctx 5).latch = none ∧
    { } = (issuing (Instr.halt 5 (plain 0)) { }).ctx 5 ∧ (plain 0).ctl = 0 ∧ ((issuing (Instr.trap 5 (plain 255)) { }).ctx 5).latch = none ∧
    (plain 255).rd = 0 ∧ (plain 255).ra = 0 ∧ (plain 255).rb = 0 ∧ (plain 255).pd = 0 ∧
    { } = (issuing (Instr.trap 5 (plain 255)) { }).ctx 5 := by decide

/-! ### Taps, harvests and the rake -/

def port8 : State := { running with taps := { running.taps with ports := [(8, 4)] } }
def blockedSlot : EgressSlot := { replay := false, dup := false, drop := false, abort := false, fill := false, packet := false, control := false, blocked := true }
def counted : State := { running with taps := { running.taps with acc := [(8 * 64 + 63, 5)], walk := [(8, 63)], tiles := [(0, { queue := [.flush 512 9 false] })] } }
def queueFull : State := { running with taps := { running.taps with tiles := [(31, { queue := List.replicate 128 (.marker false) })] } }
def presets : State := { running with taps := { running.taps with tiles := [(0, { queue := [.preset 512 9] })] } }
def timedSt : State := running.setReg .HV_TGT_LO 0 (900 * 65536)
def timedAns : State × Option Nat := timedSt.requestHarvest (timedSt.timedReq true (900 * 65536) 0)
def hvReq : HvReq := { num := 9, timed := false, tick := 1000 }
def hvDue : State := { running with taps := { running.taps with cal := [hvReq] } }
def hvRun : HvRun := { num := 9, tick := 1000, short := 5, epoch := 0, late := true, rake := false }
def latching : State := { counted with taps := { counted.taps with run := some hvRun } }
def hvDone : HvRun := { hvRun with complete := List.range 32, build := [(5, 6), (36863, 7)] }
def exchanging : State := { running.setF HV_CFG_DMA_EN 0 1 with taps := { running.taps with run := some hvDone } }
def hvImage : HvImage := { tenant := 0, addr := 0, header := List.replicate 64 1, values := [], ovf := [] }
/-- The first five units of 64 KiB of tenant 0's translated space lie in one large page of the salt pans. -/
def mappedBig (s : State) : State :=
  { s.setF XL_BASE_VALID 0 1 with
    salt := memWrite (bytesAt 0 (leBytes 8 (2 ^ 63 + 65536))) 65536
      ((List.range 5).flatMap (fun _ => leBytes 8 (2 ^ 63 + 2 ^ 61 + 2 ^ 60 + 2 ^ 59 + 32 * 65536))) }
def imaging : State := { (mappedBig running).setF DS_STAT_STATE 10 1 with taps := { running.taps with image := some hvImage } }
def imaged : State := (imaging.streamWrite 0 64 true 4680 hvImage.body).1
def unmapped : State := { (running.setF DS_STAT_STATE 10 1) with taps := { running.taps with image := some hvImage } }
def raking : State := { (running.setF RK_CFG_EN 0 1).setF RK_CFG_PERIOD 0 1 with
  time := { running.time with raw := 2000, hist := [{ ofs := 999 * 2 ^ 40 + 2 ^ 39, raw := 1999, incr := 703687441777, epoch := 0 }] } }
def rakeAns : State × Option Nat := raking.requestHarvest { num := 0, timed := true, tick := 2000, signed := true, lo := shortOf (1000 * 2 ^ 40), epoch := 0, rake := true }
def ring2 : State := ((running.setF RK_RING_LEN 0 1).setF RK_PTR_TAIL 0 128).setF RK_PTR_HEAD 0 64
def rakeJob : RakeJob := { tenant := 0, seq := 7, entry := List.replicate 64 5 }
def raked : State := { ((mapped running []).setF DS_STAT_STATE 9 1).setF RK_RING_LEN 0 1 with taps := { running.taps with rake := some rakeJob } }
def rakeLost : State := { ((running.setF DS_STAT_STATE 9 1).setF RK_RING_LEN 0 1) with taps := { running.taps with rake := some rakeJob } }
def tagging : State := ((port8.setF AN_TAG_EN 8 1).setF AN_TAG_K 8 24).setF AN_TAG_SEED 8 1
def flying (n : Nat) : State :=
  { port8 with taps := { port8.taps with
      stats := [(8, { flights := [(900, 3)], samples := n })], recs := [(0, List.replicate n (.sample 8 5 (List.replicate 16 0)))] } }
def landed : FlightInfo := { egress := none, outcome := 1, len := 64, stages := [some (900, 3), none, none, none, none, none, none, some (990, 1)] }
def tileTime : BitVec 256 := running.wordFor 1000
def summing (on : Nat) : State :=
  let s := ((flying 1).setF AN_PCFG_INTV 8 0).setF AN_PCFG_SLOT_EN 8 on
  { s with time := { s.time with tiles := [(0, { word := tileTime })] }, taps := { s.taps with stats := [(8, { sumIdx := 5, slots := [(1, 2)] })] } }
def ingestFull : State := { flying 2 with taps := { (flying 2).taps with ingested := 1000 } }

theorem test_antennaCounting_hypotheses :
    port8.inReset = false ∧ (63 = 60 + (slotRow blockedSlot).1 ∧ 1 = 1) ∧ (running.setReg Reg.CTR_LIVE 36863 (BitVec.allOnes 64)).inReset = false ∧
    counted.inReset = false ∧ 63 = smGet 0 counted.taps.walk 8 ∧ (counted.tapTile (8 / 16)).queue.length < 128 ∧
    (counted.tapTile (8 / 16)).wait = [] ∧ (128 ≤ (queueFull.tapTile (511 / 16)).queue.length ∨ (queueFull.tapTile (511 / 16)).wait ≠ []) ∧
    (counted.setReg Reg.CTR_LIVE 512 7).inReset = false ∧ ((counted.setReg Reg.CTR_LIVE 512 7).tapTile 0).building = none ∧
    ((counted.setReg Reg.CTR_LIVE 512 7).tapTile 0).queue = [FlushEnt.flush 512 9 false] ∧ presets.inReset = false ∧
    (presets.tapTile 0).building = none ∧ (presets.tapTile 0).queue = [FlushEnt.preset 512 9] ∧ counted.ready = true := by decide

theorem test_harvests_hypotheses :
    Fld.on (fld HV_CMD_TIMED 1) HV_CMD_GO = false ∧ running.ready = true ∧ Fld.on (fld HV_CMD_GO 1) HV_CMD_GO = true ∧
    Fld.on (fld HV_CMD_GO 1) HV_CMD_TIMED = false ∧ running.taps.run = none ∧ running.taps.cal = [] ∧ timedSt.ready = true ∧
    Fld.on (fld HV_CMD_GO 1 ||| fld HV_CMD_TIMED 1) HV_CMD_GO = true ∧ Fld.on (fld HV_CMD_GO 1 ||| fld HV_CMD_TIMED 1) HV_CMD_TIMED = true ∧
    timedSt.requestHarvest (timedSt.timedReq (timedSt.cmpSigned (Fld.of (fld HV_CMD_GO 1 ||| fld HV_CMD_TIMED 1) HV_CMD_MODE % 3) timedSt.sysTenant) (BitVec.toNat (timedSt.getReg Reg.HV_TGT_LO 0)) (BitVec.toNat (timedSt.getReg Reg.HV_TGT_HI 0))) = (timedAns.1, timedAns.2) ∧
    hvDue.inReset = false ∧ hvDue.taps.run = none ∧ (List.find? (fun x => x.num == hvReq.num) hvDue.taps.cal = some hvReq) ∧
    hvDue.harvestDue hvReq = true ∧ latching.inReset = false ∧ latching.taps.run = some hvRun ∧ hvRun.latched.contains 0 = false ∧
    exchanging.inReset = false ∧ exchanging.taps.run = some hvDone ∧ hvDone.complete.length = 32 ∧ 0 = exchanging.sysTenant ∧
    unmapped.inReset = false ∧ unmapped.taps.image = some hvImage ∧ unmapped.dsState hvImage.tenant 10 = 1 ∧
    unmapped.streamWrite hvImage.tenant (hvImage.addr + 64) true 4680 hvImage.body = (unmapped, some (1, 64)) := by decide +kernel

theorem test_rakeAndTags_hypotheses :
    raking.inReset = false ∧ raking.flag RK_CFG_EN 0 = true ∧ 1000 * 2 ^ 40 = raking.getF RK_CFG_PERIOD 0 * 1000 * 2 ^ 40 ∧
    raking.passes (1000 * 2 ^ 40) = some 1 ∧
    raking.requestHarvest { num := 0, timed := true, tick := raking.rawNow, lo := shortOf (1 * (1000 * 2 ^ 40)), epoch := raking.epoch, rake := true } = (rakeAns.1, rakeAns.2) ∧
    ring2.ready = true ∧ 128 = Fld.of (fld RK_PTR_HEAD 128) RK_PTR_HEAD ∧ 65536 = ring2.getF RK_RING_LEN 0 * 65536 ∧
    (128 + 65536 - ring2.getF RK_PTR_HEAD 0) % 65536 ≤ (ring2.getF RK_PTR_TAIL 0 + 65536 - ring2.getF RK_PTR_HEAD 0) % 65536 ∧
    65536 = Fld.of (fld RK_PTR_HEAD 65536) RK_PTR_HEAD ∧ 65 = Fld.of (fld RK_PTR_HEAD 65) RK_PTR_HEAD ∧ raked.inReset = false ∧
    raked.taps.rake = some rakeJob ∧ raked.dsState rakeJob.tenant 9 = 1 ∧
    raked.writeRing rakeJob.tenant (rakeJob.entry.length / 64) rakeJob.entry 0 = ((raked.writeRing 0 1 rakeJob.entry 0).1, none) ∧
    rakeLost.inReset = false ∧ rakeLost.taps.rake = some rakeJob ∧ rakeLost.dsState rakeJob.tenant 9 = 1 ∧
    rakeLost.writeRing rakeJob.tenant (rakeJob.entry.length / 64) rakeJob.entry 0 = (rakeLost, some (1, 0, 0)) ∧ running.ready = true ∧
    tagging.inReset = false ∧ tagging.firstSlot 8 = true ∧ tagging.flag AN_TAG_EN 8 = true ∧
    xorshift 1 = xorshift (tagging.getF AN_TAG_SEED 8) := by decide

theorem test_antennaRecords_hypotheses :
    (flying 62).inReset = false ∧ landed.stages.headD none = some (900, 3) ∧ ((flying 62).portStat 8).flights.contains (900, 3) = true ∧
    (flying 63).inReset = false ∧ ((flying 63).portStat 8).flights.contains (900, 3) = true ∧ (flying 3).inReset = false ∧
    (flying 3).firstSlot 8 = true ∧ ((flying 1).setF AN_PCFG_SI 8 0).inReset = false ∧ ((flying 1).setF AN_PCFG_SI 8 0).firstSlot 8 = true ∧
    2 ^ ((flying 1).setF AN_PCFG_SI 8 0).getF AN_PCFG_SI 8 ≤ (((flying 1).setF AN_PCFG_SI 8 0).portStat 8).samples ∧ (summing 1).inReset = false ∧
    (summing 1).firstSlot 8 = true ∧ (summing 1).running = true ∧ ((summing 1).portStat 8).sumIdx ≠ (summing 1).summaryIdx 8 ∧
    (flying 2).inReset = false ∧ (flying 2).recQueue 0 = [AntRec.sample 8 5 (List.replicate 16 0), AntRec.sample 8 5 (List.replicate 16 0)] ∧
    running.inReset = false ∧ running.recQueue 31 = [] := by decide

/-! ### Traces, credits and sequencers -/

def traceOn : State := (((running.setF TI_CTRL_ENABLE 0 1).setF HT_ADDR_VALID 200 1).setF HT_ADDR_ADDR 200 5).setF HT_ADDR_TENANT 200 3
def pkt (len : Nat) (payload : List Byte) : TracePkt := { dest := 0, src := 640, kind := 0x54, format := 1, len := len, cepoch := 0, payload := payload }
def credit (n : Nat) : State := traceOn.setF HT_STAT_LIMIT 200 n
/-- A wire record of one slot: its header and its payload. -/
def wire (typ seq : Nat) : List Byte := leBytes 8 (typ * 2 ^ 56 + seq) ++ List.replicate 24 0
def seqKnown : State := ((credit 1).setF TI_SEQVAL_VALID (128 * 200 + 127) 1).setF TI_SEQVAL_NEXT (128 * 200 + 127) 10
def gapSt : State := { running with funnel := { running.funnel with gaps := [(5, some { cause := 9, tenant := 0, count := 2, slots := 2, seqValid := true, first := 4, last := 5, gen := 0, at_ := 77 })] } }
def ownHome : State := (traceOn.setF PR_STATUS_STATE 0 2).setArrBit .PR_OWN 7 true
def seqHolds : State := ((((running.setF TS_STAT_RUNSTATE 0 1).setF TS_PROG0_KIND 2 1).setF TS_PROG0_NEXT 2 6).setF TS_PROG1_VALUE 2 0)
def drift : State := ((((up.setF SC_PART_LEN 0 8).setF SC_EXP_BARRIER 7 1).setF SC_EXP_EXP 7 3).setF SC_COUNT_VALUE 7 4)

theorem test_tracePackets_hypotheses :
    running.inReset = false ∧ running.flag TI_CTRL_ENABLE 0 = false ∧ traceOn.inReset = false ∧
    (True ↔ (pkt 33 (wire 2 4)).dest ≠ traceOn.getF TI_ADDR_ADDR 0 ∨ (pkt 33 (wire 2 4)).src % 128 ≠ 0 ∨ (pkt 33 (wire 2 4)).kind ≠ 84 ∨ (pkt 33 (wire 2 4)).payload.length ≠ (pkt 33 (wire 2 4)).len ∨ ¬((pkt 33 (wire 2 4)).format = 0 ∧ (pkt 33 (wire 2 4)).len = 96 ∨ (pkt 33 (wire 2 4)).format = 1 ∧ 32 ≤ (pkt 33 (wire 2 4)).len ∧ (pkt 33 (wire 2 4)).len ≤ 4096 ∧ (pkt 33 (wire 2 4)).len % 32 = 0 ∨ (pkt 33 (wire 2 4)).format = 2 ∧ (pkt 33 (wire 2 4)).len = 0)) ∧
    traceOn.flag TI_CTRL_ENABLE 0 = true ∧
    (False ↔ (pkt 32 (wire 2 4)).dest ≠ traceOn.getF TI_ADDR_ADDR 0 ∨ 128 % 128 ≠ 0 ∨ (pkt 32 (wire 2 4)).kind ≠ 84 ∨ (pkt 32 (wire 2 4)).payload.length ≠ (pkt 32 (wire 2 4)).len ∨ ¬((pkt 32 (wire 2 4)).format = 0 ∧ (pkt 32 (wire 2 4)).len = 96 ∨ (pkt 32 (wire 2 4)).format = 1 ∧ 32 ≤ (pkt 32 (wire 2 4)).len ∧ (pkt 32 (wire 2 4)).len ≤ 4096 ∧ (pkt 32 (wire 2 4)).len % 32 = 0 ∨ (pkt 32 (wire 2 4)).format = 2 ∧ (pkt 32 (wire 2 4)).len = 0)) ∧
    traceOn.homeOf 128 = none ∧ (credit 0).inReset = false ∧
    (False ↔ (pkt 32 (wire 2 4)).dest ≠ (credit 0).getF TI_ADDR_ADDR 0 ∨ (pkt 32 (wire 2 4)).src % 128 ≠ 0 ∨ (pkt 32 (wire 2 4)).kind ≠ 84 ∨ (pkt 32 (wire 2 4)).payload.length ≠ (pkt 32 (wire 2 4)).len ∨ ¬((pkt 32 (wire 2 4)).format = 0 ∧ (pkt 32 (wire 2 4)).len = 96 ∨ (pkt 32 (wire 2 4)).format = 1 ∧ 32 ≤ (pkt 32 (wire 2 4)).len ∧ (pkt 32 (wire 2 4)).len ≤ 4096 ∧ (pkt 32 (wire 2 4)).len % 32 = 0 ∨ (pkt 32 (wire 2 4)).format = 2 ∧ (pkt 32 (wire 2 4)).len = 0)) ∧
    (credit 0).flag TI_CTRL_ENABLE 0 = true ∧ (credit 0).homeOf (pkt 32 (wire 2 4)).src = some 200 ∧
    (pkt 32 (wire 2 4)).cepoch = (credit 0).getF HT_CRED_CEPOCH 200 ∧ (credit 0).creditOf 200 < (pkt 32 (wire 2 4)).len / 32 ∧
    (credit 1).inReset = false ∧
    (False ↔ (pkt 32 (wire 2 4)).dest ≠ (credit 1).getF TI_ADDR_ADDR 0 ∨ (pkt 32 (wire 2 4)).src % 128 ≠ 0 ∨ (pkt 32 (wire 2 4)).kind ≠ 84 ∨ (pkt 32 (wire 2 4)).payload.length ≠ (pkt 32 (wire 2 4)).len ∨ ¬((pkt 32 (wire 2 4)).format = 0 ∧ (pkt 32 (wire 2 4)).len = 96 ∨ (pkt 32 (wire 2 4)).format = 1 ∧ 32 ≤ (pkt 32 (wire 2 4)).len ∧ (pkt 32 (wire 2 4)).len ≤ 4096 ∧ (pkt 32 (wire 2 4)).len % 32 = 0 ∨ (pkt 32 (wire 2 4)).format = 2 ∧ (pkt 32 (wire 2 4)).len = 0)) ∧
    (credit 1).flag TI_CTRL_ENABLE 0 = true ∧ (credit 1).homeOf (pkt 32 (wire 2 4)).src = some 200 ∧
    ((pkt 32 (wire 2 4)).cepoch ≠ (credit 1).getF HT_CRED_CEPOCH 200 ∨ (pkt 32 (wire 2 4)).len / 32 ≤ (credit 1).creditOf 200) ∧
    seqKnown.inReset = false ∧
    (False ↔ (pkt 32 (wire 2 (127 * 2 ^ 28 + (10 + 2 ^ 27)))).dest ≠ seqKnown.getF TI_ADDR_ADDR 0 ∨ (pkt 32 (wire 2 (127 * 2 ^ 28 + (10 + 2 ^ 27)))).src % 128 ≠ 0 ∨ (pkt 32 (wire 2 (127 * 2 ^ 28 + (10 + 2 ^ 27)))).kind ≠ 84 ∨ (pkt 32 (wire 2 (127 * 2 ^ 28 + (10 + 2 ^ 27)))).payload.length ≠ (pkt 32 (wire 2 (127 * 2 ^ 28 + (10 + 2 ^ 27)))).len ∨ ¬((pkt 32 (wire 2 (127 * 2 ^ 28 + (10 + 2 ^ 27)))).format = 0 ∧ (pkt 32 (wire 2 (127 * 2 ^ 28 + (10 + 2 ^ 27)))).len = 96 ∨ (pkt 32 (wire 2 (127 * 2 ^ 28 + (10 + 2 ^ 27)))).format = 1 ∧ 32 ≤ (pkt 32 (wire 2 (127 * 2 ^ 28 + (10 + 2 ^ 27)))).len ∧ (pkt 32 (wire 2 (127 * 2 ^ 28 + (10 + 2 ^ 27)))).len ≤ 4096 ∧ (pkt 32 (wire 2 (127 * 2 ^ 28 + (10 + 2 ^ 27)))).len % 32 = 0 ∨ (pkt 32 (wire 2 (127 * 2 ^ 28 + (10 + 2 ^ 27)))).format = 2 ∧ (pkt 32 (wire 2 (127 * 2 ^ 28 + (10 + 2 ^ 27)))).len = 0)) ∧
    seqKnown.flag TI_CTRL_ENABLE 0 = true ∧ seqKnown.homeOf (pkt 32 (wire 2 (127 * 2 ^ 28 + (10 + 2 ^ 27)))).src = some 200 ∧
    ((pkt 32 (wire 2 (127 * 2 ^ 28 + (10 + 2 ^ 27)))).cepoch ≠ seqKnown.getF HT_CRED_CEPOCH 200 ∨ (pkt 32 (wire 2 (127 * 2 ^ 28 + (10 + 2 ^ 27)))).len / 32 ≤ seqKnown.creditOf 200) ∧
    (False ↔ (pkt 32 (wire 2 (127 * 2 ^ 28 + (9 + 2 ^ 27)))).dest ≠ seqKnown.getF TI_ADDR_ADDR 0 ∨ (pkt 32 (wire 2 (127 * 2 ^ 28 + (9 + 2 ^ 27)))).src % 128 ≠ 0 ∨ (pkt 32 (wire 2 (127 * 2 ^ 28 + (9 + 2 ^ 27)))).kind ≠ 84 ∨ (pkt 32 (wire 2 (127 * 2 ^ 28 + (9 + 2 ^ 27)))).payload.length ≠ (pkt 32 (wire 2 (127 * 2 ^ 28 + (9 + 2 ^ 27)))).len ∨ ¬((pkt 32 (wire 2 (127 * 2 ^ 28 + (9 + 2 ^ 27)))).format = 0 ∧ (pkt 32 (wire 2 (127 * 2 ^ 28 + (9 + 2 ^ 27)))).len = 96 ∨ (pkt 32 (wire 2 (127 * 2 ^ 28 + (9 + 2 ^ 27)))).format = 1 ∧ 32 ≤ (pkt 32 (wire 2 (127 * 2 ^ 28 + (9 + 2 ^ 27)))).len ∧ (pkt 32 (wire 2 (127 * 2 ^ 28 + (9 + 2 ^ 27)))).len ≤ 4096 ∧ (pkt 32 (wire 2 (127 * 2 ^ 28 + (9 + 2 ^ 27)))).len % 32 = 0 ∨ (pkt 32 (wire 2 (127 * 2 ^ 28 + (9 + 2 ^ 27)))).format = 2 ∧ (pkt 32 (wire 2 (127 * 2 ^ 28 + (9 + 2 ^ 27)))).len = 0)) ∧
    seqKnown.homeOf (pkt 32 (wire 2 (127 * 2 ^ 28 + (9 + 2 ^ 27)))).src = some 200 ∧
    ((pkt 32 (wire 2 (127 * 2 ^ 28 + (9 + 2 ^ 27)))).cepoch ≠ seqKnown.getF HT_CRED_CEPOCH 200 ∨ (pkt 32 (wire 2 (127 * 2 ^ 28 + (9 + 2 ^ 27)))).len / 32 ≤ seqKnown.creditOf 200) := by decide

theorem test_creditAndHome_hypotheses :
    gapSt.inReset = false ∧ gapSt.funnel.gaps ≠ [] ∧ (credit 0).inReset = false ∧ (credit 0).flag TI_CTRL_ENABLE 0 = true ∧ traceOn.ready = true ∧
    fld HT_ADDR_VALID 1 ||| fld HT_ADDR_ADDR 5 = storeFields false (fld HT_ADDR_VALID 1 ||| fld HT_ADDR_ADDR 5) allBits Reg.HT_ADDR.fields (traceOn.getReg Reg.HT_ADDR 7) ∧
    traceOn.duplicates 7 (fld HT_ADDR_VALID 1 ||| fld HT_ADDR_ADDR 5) = true ∧ ownHome.ready = true ∧
    0 = storeFields false 0 allBits Reg.HT_ADDR.fields (ownHome.getReg Reg.HT_ADDR 7) ∧ ownHome.pairState = 2 ∧ ownHome.arrBit Reg.PR_OWN 7 = true ∧
    fld HT_ADDR_VALID 1 ||| fld HT_ADDR_ADDR 6 = storeFields false (fld HT_ADDR_VALID 1 ||| fld HT_ADDR_ADDR 6) allBits Reg.HT_ADDR.fields (traceOn.getReg Reg.HT_ADDR 255) ∧
    traceOn.duplicates 255 (fld HT_ADDR_VALID 1 ||| fld HT_ADDR_ADDR 6) = false ∧
    (traceOn.pairState ≠ 2 ∨ traceOn.arrBit Reg.PR_OWN 255 = false) := by decide

theorem test_triggerSequencers_hypotheses :
    running.ready = true ∧ Fld.on (fld TS_CTL_RUN 1 ||| fld TS_CTL_START_STATE 9) TS_CTL_RUN = true ∧
    (running.setF TS_STAT_RUNSTATE 3 1).ready = true ∧ Fld.on 0 TS_CTL_RUN = false ∧ (running.setF TS_STAT_RUNSTATE 3 2).ready = true ∧
    (running.setF TS_STAT_RUNSTATE 3 2).runState 3 = 2 ∧ running.runState 3 ≠ 2 ∧
    Fld.on (fld TS_CMD_FORCE 1 ||| fld TS_CMD_STATE 15) TS_CMD_FORCE = true ∧
    Fld.on (fld TS_CMD_FORCE 1 ||| fld TS_CMD_STATE 15) TS_CMD_MANUAL = false ∧
    Fld.on (fld TS_CMD_MANUAL 1 ||| fld TS_CMD_ACTIONS 8) TS_CMD_MANUAL = true ∧
    Fld.on (fld TS_CMD_MANUAL 1 ||| fld TS_CMD_ACTIONS 8) TS_CMD_FORCE = false ∧ seqHolds.inReset = false ∧ seqHolds.runState 0 = 1 ∧
    seqHolds.cmpHolds 0 2 = true ∧ (∀ j < 2, seqHolds.cmpHolds 0 j = false) ∧ (∀ k < 4, running.cmpHolds 3 k = false) := by decide

theorem test_syncCounterHost_hypotheses :
    up.ready = true ∧
    fld SC_PART_BASE 16383 ||| fld SC_PART_LEN 1 = storeFields false (fld SC_PART_BASE 16383 ||| fld SC_PART_LEN 1) allBits Reg.SC_PART.fields (up.getReg Reg.SC_PART 63) ∧
    16383 = Fld.of (fld SC_PART_BASE 16383 ||| fld SC_PART_LEN 1) SC_PART_BASE ∧
    1 = Fld.of (fld SC_PART_BASE 16383 ||| fld SC_PART_LEN 1) SC_PART_LEN ∧ up.tnState 63 = 0 ∧
    (∀ w < 64, w ≠ 63 → 1 = 0 ∨ up.getF SC_PART_LEN w = 0 ∨ 16383 + 1 ≤ up.getF SC_PART_BASE w ∨ up.getF SC_PART_BASE w + up.getF SC_PART_LEN w ≤ 16383) ∧
    fld SC_PART_BASE 16383 ||| fld SC_PART_LEN 2 = storeFields false (fld SC_PART_BASE 16383 ||| fld SC_PART_LEN 2) allBits Reg.SC_PART.fields (up.getReg Reg.SC_PART 63) ∧
    16383 = Fld.of (fld SC_PART_BASE 16383 ||| fld SC_PART_LEN 2) SC_PART_BASE ∧
    2 = Fld.of (fld SC_PART_BASE 16383 ||| fld SC_PART_LEN 2) SC_PART_LEN ∧
    (up.tnState 63 ≠ 0 ∨ 16384 < 16383 + 2 ∨ ∃ w < 64, w ≠ 63 ∧ 2 ≠ 0 ∧ up.getF SC_PART_LEN w ≠ 0 ∧ up.getF SC_PART_BASE w < 16383 + 2 ∧ 16383 < up.getF SC_PART_BASE w + up.getF SC_PART_LEN w) ∧
    ((up.setF SC_PART_BASE 5 100).setF SC_PART_LEN 5 10).ready = true ∧
    fld SC_PART_BASE 109 ||| fld SC_PART_LEN 2 = storeFields false (fld SC_PART_BASE 109 ||| fld SC_PART_LEN 2) allBits Reg.SC_PART.fields (((up.setF SC_PART_BASE 5 100).setF SC_PART_LEN 5 10).getReg Reg.SC_PART 63) ∧
    109 = Fld.of (fld SC_PART_BASE 109 ||| fld SC_PART_LEN 2) SC_PART_BASE ∧ 2 = Fld.of (fld SC_PART_BASE 109 ||| fld SC_PART_LEN 2) SC_PART_LEN ∧
    (((up.setF SC_PART_BASE 5 100).setF SC_PART_LEN 5 10).tnState 63 ≠ 0 ∨ 16384 < 109 + 2 ∨ ∃ w < 64, w ≠ 63 ∧ 2 ≠ 0 ∧ ((up.setF SC_PART_BASE 5 100).setF SC_PART_LEN 5 10).getF SC_PART_LEN w ≠ 0 ∧ ((up.setF SC_PART_BASE 5 100).setF SC_PART_LEN 5 10).getF SC_PART_BASE w < 109 + 2 ∧ 109 < ((up.setF SC_PART_BASE 5 100).setF SC_PART_LEN 5 10).getF SC_PART_BASE w + ((up.setF SC_PART_BASE 5 100).setF SC_PART_LEN 5 10).getF SC_PART_LEN w) ∧
    7 = Fld.of (fld SC_HOSTADD_COUNTER 7 ||| fld SC_HOSTADD_AMOUNT 5) SC_HOSTADD_COUNTER ∧ drift.ready = true ∧
    Fld.on (fld SC_CMD_CHECK 1) SC_CMD_CHECK = true ∧ 0 = Fld.of (fld SC_CMD_CHECK 1) SC_CMD_TENANT ∧
    ((drift.setF SC_COUNT_OVER 7 1).setF SC_AUX_LOST 7 9).ready = true ∧
    7 = Fld.of (fld SC_FLAGCLR_COUNTER 7 ||| fld SC_FLAGCLR_OVER 1 ||| fld SC_FLAGCLR_LOST 1) SC_FLAGCLR_COUNTER ∧
    (drift.setF SC_WTGT_TARGET 511 4).ready = true ∧ Fld.on (fld SC_WCFG_ARM 1 ||| fld SC_WCFG_COUNTER 7) SC_WCFG_ARM = true ∧
    Fld.on (fld SC_WCFG_ARM 1 ||| fld SC_WCFG_COUNTER 7) SC_WCFG_DISARM = false ∧
    7 = Fld.of (storeFields false (fld SC_WCFG_ARM 1 ||| fld SC_WCFG_COUNTER 7) allBits Reg.SC_WCFG.fields ((drift.setF SC_WTGT_TARGET 511 4).getReg Reg.SC_WCFG 511)) SC_WCFG_COUNTER ∧
    (up.setF SC_WCFG_STATE 511 1).ready = true ∧ Fld.on (fld SC_WCFG_DISARM 1) SC_WCFG_DISARM = true ∧
    Fld.on (fld SC_WCFG_DISARM 1) SC_WCFG_ARM = false := by decide

/-! ### The ledger -/

def lgCfg (st : Nat) : State :=
  ((((running.setF LG_STATUS_STATE 63 st).setF LG_LEN_LEN 63 2).setF LG_CFG_SLOTS 63 3).setF LG_CFG_LOOKAHEAD 63 2).setF LG_CFG_JOB 63 9
def tag9 : SchedTag := { job := 9, phase := 0, pass := 0, last := false }
def acc9 : PhaseAcc := { port := 8, tag := tag9, pkts := 2, bytes := 128, first := ⟨5, 0⟩, last := ⟨6, 0⟩ }
/-- Tile 0 holds these accumulators and this flush queue. -/
def tile0 (s : State) (accs : List PhaseAcc) (q : List FlushEnt) : State :=
  { s with taps := { s.taps with tiles := [(0, { accs := accs, queue := q })] } }
def ent0 : LgEnt := { phase := 0, timed := true, barrier := false, cyclic := false, win := false, span := 0, pred := 0, group := 0, offset := 0, winLo := 0, winHi := 0, expPkts := 10, sc := 0, scMode := 0, retryExt := 1, retryMax := 1, expBytes := 640, scInc := 0 }
def phase0 (st : PhState) : Phase := { ent := ent0, pass := 0, ports := [8], st := st }
def holdsPhase (lg : Nat) (st : PhState) : State := { lgCfg lg with ledgers := [(63, { ents := [], pf := 1, slots := [phase0 st] })] }
def lgEntBytes (idx : Nat) : List Byte := let b := leBytes 4 idx ++ leBytes 1 1 ++ List.replicate 55 0; b ++ leBytes 4 (crc32c b)
def fetching (bs : List Byte) : State :=
  let s := mapped ((((lgCfg 1).setF LG_STATUS_STATE 0 1).setF LG_LEN_LEN 0 2).setF DS_STAT_STATE 2 1) bs
  s
def lookSt : State := holdsPhase 2 .lookahead
def lateOpen : State := { (holdsPhase 2 .open_).setF LG_TIMING_GIVEUP_US 63 1 with time := { running.time with hist := [{ ofs := 1000 * 2 ^ 40, raw := 1000, incr := 703687441777, epoch := 0 }] } }
/-- The phase of an older pass stays OPEN with SHORT formed; that of a later pass is due. -/
def leftOpen : State := { lateOpen with ledgers := [(63, { ents := [], pf := 1, slots := [{ phase0 .open_ with shortDone := true }, { phase0 .open_ with pass := 1 }] })] }
def settling : State := { (holdsPhase 2 .settling).setF LG_TIMING_SETTLE_US 63 0 with ledgers := [(63, { slots := [phase0 .settling], allOpen := true, cyc := none, pf := 2 })] }
def lastSettles : State := { settling.setF LG_CURSOR_PASS 63 1 with ledgers := [(63, { slots := [phase0 .open_, { phase0 .settling with pass := 1 }], allOpen := true, cyc := none, pf := 2 })] }

theorem test_ledgerCommands_hypotheses :
    (lgCfg 2).ready = true ∧ (lgCfg 2).loadFails 63 ≠ 0 ∧ (lgCfg 3).ready = true ∧ (lgCfg 3).lgState 63 ∈ [1, 2, 3] ∧ (lgCfg 6).ready = true ∧
    (lgCfg 6).loadFails 63 = 0 ∧ (lgCfg 0).ready = true ∧
    (Instr.lgRun 63 = Instr.lgRun 63 ∧ 41943040 = (lgCfg 0).now16 ∨ Instr.lgRun 63 = Instr.lgRunTimed 63 ∧ 41943040 = targetUnits (BitVec.toNat ((lgCfg 0).getReg Reg.LG_START_LO 63)) (BitVec.toNat ((lgCfg 0).getReg Reg.LG_START_HI 63))) ∧
    (lgCfg 0).lgState 63 ≠ 1 ∧ ((lgCfg 1).setReg Reg.LG_START_LO 63 77).ready = true ∧
    (Instr.lgRunTimed 63 = Instr.lgRun 63 ∧ 77 = ((lgCfg 1).setReg Reg.LG_START_LO 63 77).now16 ∨ Instr.lgRunTimed 63 = Instr.lgRunTimed 63 ∧ 77 = targetUnits (BitVec.toNat (((lgCfg 1).setReg Reg.LG_START_LO 63 77).getReg Reg.LG_START_LO 63)) (BitVec.toNat (((lgCfg 1).setReg Reg.LG_START_LO 63 77).getReg Reg.LG_START_HI 63))) ∧
    ((lgCfg 1).setReg Reg.LG_START_LO 63 77).lgState 63 = 1 ∧ (lgCfg 3).lgState 63 ≠ 2 ∧ (lgCfg 2).lgState 63 = 2 ∧ (lgCfg 2).lgState 63 ≠ 3 ∧
    (lgCfg 3).lgState 63 = 3 ∧ (lgCfg 4).ready = true ∧ (lgCfg 4).lgState 63 ∉ [1, 2, 3, 5] ∧ (lgCfg 5).ready = true ∧
    (lgCfg 5).lgState 63 ∈ [1, 2, 3, 5] := by decide

theorem test_ledgerDeliveries_hypotheses_1 :
    (tile0 running [acc9] []).inReset = false ∧ (990, 0) = (tile0 running [acc9] []).egressStamp 8 990 0 ∧
    0 = ((tile0 running [acc9] []).tile (8 / 16)).wordAt 990 ∧ acc9 ∈ ((tile0 running [acc9] []).tapTile (8 / 16)).accs ∧ acc9.port = 8 ∧
    acc9.tag = tag9 ∧
    (tile0 running (List.replicate 15 { port := acc9.port, tag := { job := tag9.job, phase := 3, pass := tag9.pass, last := tag9.last }, pkts := acc9.pkts, bytes := acc9.bytes, first := acc9.first, last := acc9.last }) []).inReset = false ∧
    (990, 0) = (tile0 running (List.replicate 15 { port := acc9.port, tag := { job := tag9.job, phase := 3, pass := tag9.pass, last := tag9.last }, pkts := acc9.pkts, bytes := acc9.bytes, first := acc9.first, last := acc9.last }) []).egressStamp 8 990 0 ∧
    0 = ((tile0 running (List.replicate 15 { port := acc9.port, tag := { job := tag9.job, phase := 3, pass := tag9.pass, last := tag9.last }, pkts := acc9.pkts, bytes := acc9.bytes, first := acc9.first, last := acc9.last }) []).tile (8 / 16)).wordAt 990 ∧
    (∀ a ∈ ((tile0 running (List.replicate 15 { port := acc9.port, tag := { job := tag9.job, phase := 3, pass := tag9.pass, last := tag9.last }, pkts := acc9.pkts, bytes := acc9.bytes, first := acc9.first, last := acc9.last }) []).tapTile (8 / 16)).accs, a.port ≠ 8 ∨ a.tag ≠ tag9) ∧
    ((List.filter (fun a => a.port == 8) ((tile0 running (List.replicate 15 { port := acc9.port, tag := { job := tag9.job, phase := 3, pass := tag9.pass, last := tag9.last }, pkts := acc9.pkts, bytes := acc9.bytes, first := acc9.first, last := acc9.last }) []).tapTile (8 / 16)).accs).length < 16) ∧
    (tile0 (lgCfg 2) (List.replicate 16 { port := acc9.port, tag := { job := tag9.job, phase := 3, pass := tag9.pass, last := tag9.last }, pkts := acc9.pkts, bytes := acc9.bytes, first := acc9.first, last := acc9.last }) []).inReset = false ∧
    (990, 0) = (tile0 (lgCfg 2) (List.replicate 16 { port := acc9.port, tag := { job := tag9.job, phase := 3, pass := tag9.pass, last := tag9.last }, pkts := acc9.pkts, bytes := acc9.bytes, first := acc9.first, last := acc9.last }) []).egressStamp 8 990 0 ∧
    0 = ((tile0 (lgCfg 2) (List.replicate 16 { port := acc9.port, tag := { job := tag9.job, phase := 3, pass := tag9.pass, last := tag9.last }, pkts := acc9.pkts, bytes := acc9.bytes, first := acc9.first, last := acc9.last }) []).tile (8 / 16)).wordAt 990 ∧
    (∀ a ∈ ((tile0 (lgCfg 2) (List.replicate 16 { port := acc9.port, tag := { job := tag9.job, phase := 3, pass := tag9.pass, last := tag9.last }, pkts := acc9.pkts, bytes := acc9.bytes, first := acc9.first, last := acc9.last }) []).tapTile (8 / 16)).accs, a.port ≠ 8 ∨ a.tag ≠ tag9) ∧
    (16 ≤ (List.filter (fun a => a.port == 8) ((tile0 (lgCfg 2) (List.replicate 16 { port := acc9.port, tag := { job := tag9.job, phase := 3, pass := tag9.pass, last := tag9.last }, pkts := acc9.pkts, bytes := acc9.bytes, first := acc9.first, last := acc9.last }) []).tapTile (8 / 16)).accs).length) ∧
    (tile0 (lgCfg 2) (List.replicate 16 { port := acc9.port, tag := { job := tag9.job, phase := 3, pass := tag9.pass, last := tag9.last }, pkts := acc9.pkts, bytes := acc9.bytes, first := acc9.first, last := acc9.last }) []).jobOwner tag9.job = some 63 ∧
    (tile0 running [acc9] (List.replicate 127 (FlushEnt.marker false))).inReset = false ∧
    ((tile0 running [acc9] (List.replicate 127 (FlushEnt.marker false))).tapTile 0).latched = [] ∧
    ((tile0 running [acc9] (List.replicate 127 (FlushEnt.marker false))).tapTile 0).queue.length < 128 ∧
    ((tile0 running [acc9] (List.replicate 127 (FlushEnt.marker false))).tapTile 0).wait = [] ∧
    ((tile0 running [acc9] (List.replicate 127 (FlushEnt.marker false))).tapTile 0).accs = [acc9] ∧
    (tile0 running [] [FlushEnt.phase acc9]).inReset = false ∧ ((tile0 running [] [FlushEnt.phase acc9]).tapTile 0).building = none ∧
    ((tile0 running [] [FlushEnt.phase acc9]).tapTile 0).queue = [FlushEnt.phase acc9] ∧
    (tile0 running [] [FlushEnt.phase acc9]).jobOwner acc9.tag.job = none ∧ (tile0 (lgCfg 2) [] [FlushEnt.phase acc9]).inReset = false ∧
    ((tile0 (lgCfg 2) [] [FlushEnt.phase acc9]).tapTile 0).building = none ∧
    ((tile0 (lgCfg 2) [] [FlushEnt.phase acc9]).tapTile 0).queue = [FlushEnt.phase acc9] ∧
    (tile0 (lgCfg 2) [] [FlushEnt.phase acc9]).jobOwner acc9.tag.job = some 63 := by decide

theorem test_ledgerDeliveries_hypotheses_2 :
    (∀ p ∈ ((tile0 (lgCfg 2) [] [FlushEnt.phase acc9]).ledger 63).slots, p.ent.phase ≠ acc9.tag.phase ∨ p.pass % 16 ≠ acc9.tag.pass % 16) ∧
    (tile0 (holdsPhase 2 PhState.open_) [] [FlushEnt.phase { port := 9, tag := acc9.tag, pkts := acc9.pkts, bytes := acc9.bytes, first := acc9.first, last := acc9.last }]).inReset = false ∧
    ((tile0 (holdsPhase 2 PhState.open_) [] [FlushEnt.phase { port := 9, tag := acc9.tag, pkts := acc9.pkts, bytes := acc9.bytes, first := acc9.first, last := acc9.last }]).tapTile 0).building = none ∧
    ((tile0 (holdsPhase 2 PhState.open_) [] [FlushEnt.phase { port := 9, tag := acc9.tag, pkts := acc9.pkts, bytes := acc9.bytes, first := acc9.first, last := acc9.last }]).tapTile 0).queue = [FlushEnt.phase { port := 9, tag := acc9.tag, pkts := acc9.pkts, bytes := acc9.bytes, first := acc9.first, last := acc9.last }] ∧
    (tile0 (holdsPhase 2 PhState.open_) [] [FlushEnt.phase { port := 9, tag := acc9.tag, pkts := acc9.pkts, bytes := acc9.bytes, first := acc9.first, last := acc9.last }]).jobOwner acc9.tag.job = some 63 ∧
    (List.find? (fun p => p.ent.phase == acc9.tag.phase && p.pass % 16 == acc9.tag.pass % 16) ((tile0 (holdsPhase 2 PhState.open_) [] [FlushEnt.phase { port := 9, tag := acc9.tag, pkts := acc9.pkts, bytes := acc9.bytes, first := acc9.first, last := acc9.last }]).ledger 63).slots = some (phase0 PhState.open_)) ∧
    9 ∉ (phase0 PhState.open_).ports ∧ (tile0 (holdsPhase 2 PhState.lookahead) [] [FlushEnt.phase acc9]).inReset = false ∧
    ((tile0 (holdsPhase 2 PhState.lookahead) [] [FlushEnt.phase acc9]).tapTile 0).building = none ∧
    ((tile0 (holdsPhase 2 PhState.lookahead) [] [FlushEnt.phase acc9]).tapTile 0).queue = [FlushEnt.phase acc9] ∧
    (tile0 (holdsPhase 2 PhState.lookahead) [] [FlushEnt.phase acc9]).jobOwner acc9.tag.job = some 63 ∧
    (List.find? (fun p => p.ent.phase == acc9.tag.phase && p.pass % 16 == acc9.tag.pass % 16) ((tile0 (holdsPhase 2 PhState.lookahead) [] [FlushEnt.phase acc9]).ledger 63).slots = some (phase0 PhState.lookahead)) ∧
    acc9.port ∈ (phase0 PhState.lookahead).ports ∧ (phase0 PhState.lookahead).st = PhState.lookahead ∧ (phase0 PhState.lookahead).ent.scMode ≠ 3 ∧
    (tile0 (holdsPhase 2 PhState.open_) [] [FlushEnt.phase { port := acc9.port, tag := acc9.tag, pkts := 10, bytes := 640, first := acc9.first, last := acc9.last }]).inReset = false ∧
    ((tile0 (holdsPhase 2 PhState.open_) [] [FlushEnt.phase { port := acc9.port, tag := acc9.tag, pkts := 10, bytes := 640, first := acc9.first, last := acc9.last }]).tapTile 0).building = none ∧
    ((tile0 (holdsPhase 2 PhState.open_) [] [FlushEnt.phase { port := acc9.port, tag := acc9.tag, pkts := 10, bytes := 640, first := acc9.first, last := acc9.last }]).tapTile 0).queue = [FlushEnt.phase { port := acc9.port, tag := acc9.tag, pkts := 10, bytes := 640, first := acc9.first, last := acc9.last }] ∧
    (tile0 (holdsPhase 2 PhState.open_) [] [FlushEnt.phase { port := acc9.port, tag := acc9.tag, pkts := 10, bytes := 640, first := acc9.first, last := acc9.last }]).jobOwner acc9.tag.job = some 63 ∧
    (List.find? (fun p => p.ent.phase == acc9.tag.phase && p.pass % 16 == acc9.tag.pass % 16) ((tile0 (holdsPhase 2 PhState.open_) [] [FlushEnt.phase { port := acc9.port, tag := acc9.tag, pkts := 10, bytes := 640, first := acc9.first, last := acc9.last }]).ledger 63).slots = some (phase0 PhState.open_)) ∧
    acc9.port ∈ (phase0 PhState.open_).ports ∧ (fetching (lgEntBytes 0)).inReset = false ∧ (fetching (lgEntBytes 0)).prefetchDue 0 = true ∧
    (fetching (lgEntBytes 0)).streamRead 0 ((fetching (lgEntBytes 0)).getF LG_ADDR_ADDR 0 + 64 * ((fetching (lgEntBytes 0)).ledger 0).pf) false 1 = Except.ok (lgEntBytes 0) ∧
    entryFails (lgEntBytes 0) ((fetching (lgEntBytes 0)).ledger 0).pf ((fetching (lgEntBytes 0)).getF LG_LEN_LOOP_FIRST 0) ((fetching (lgEntBytes 0)).ledger 0).cyc = 0 ∧
    (fetching (lgEntBytes 1)).inReset = false ∧ (fetching (lgEntBytes 1)).prefetchDue 0 = true ∧
    (fetching (lgEntBytes 1)).streamRead 0 ((fetching (lgEntBytes 1)).getF LG_ADDR_ADDR 0 + 64 * ((fetching (lgEntBytes 1)).ledger 0).pf) false 1 = Except.ok (lgEntBytes 1) ∧
    entryFails (lgEntBytes 1) ((fetching (lgEntBytes 1)).ledger 0).pf ((fetching (lgEntBytes 1)).getF LG_LEN_LOOP_FIRST 0) ((fetching (lgEntBytes 1)).ledger 0).cyc ≠ 0 ∧
    ((lgCfg 2).setF DS_STAT_STATE (16 * 63 + 2) 1).inReset = false := by decide +kernel

theorem test_ledgerDeliveries_hypotheses_3 :
    ((lgCfg 2).setF DS_STAT_STATE (16 * 63 + 2) 1).prefetchDue 63 = true ∧
    ((lgCfg 2).setF DS_STAT_STATE (16 * 63 + 2) 1).streamRead 63 (((lgCfg 2).setF DS_STAT_STATE (16 * 63 + 2) 1).getF LG_ADDR_ADDR 63 + 64 * (((lgCfg 2).setF DS_STAT_STATE (16 * 63 + 2) 1).ledger 63).pf) false 1 = Except.error (1, 0) := by decide

theorem test_ledgerPhases_hypotheses :
    lookSt.inReset = false ∧ (lookSt.lgState 63 = 2 ∨ lookSt.lgState 63 = 3) ∧ lateOpen.inReset = false ∧
    phase0 PhState.open_ ∈ (lateOpen.ledger 63).slots ∧ (phase0 PhState.open_).ent.phase = 0 ∧ (phase0 PhState.open_).st = PhState.open_ ∧
    (phase0 PhState.open_).shortDone = false ∧ (phase0 PhState.open_).deadline + microsecond16 ≤ lateOpen.now16 ∧
    lateOpen.slotDue 63 0 lateOpen.shortDue = some (phase0 PhState.open_) ∧ (lateOpen.setF LG_STATUS_STATE 63 4).inReset = false ∧
    (lateOpen.setF LG_STATUS_STATE 63 4).slotDue 63 0 (lateOpen.setF LG_STATUS_STATE 63 4).shortDue = some (phase0 PhState.open_) ∧
    1 = lateOpen.getF LG_TIMING_GIVEUP_US 63 ∧ (phase0 PhState.open_).deadline + 1 * microsecond16 ≤ lateOpen.now16 ∧
    lateOpen.slotDue 63 0 (lateOpen.giveUpDue 63) = some (phase0 PhState.open_) ∧ leftOpen.inReset = false ∧
    { ent := (phase0 PhState.open_).ent, pass := 1, ports := (phase0 PhState.open_).ports, st := (phase0 PhState.open_).st, pkts := (phase0 PhState.open_).pkts, bytes := (phase0 PhState.open_).bytes, first := (phase0 PhState.open_).first, last := (phase0 PhState.open_).last, lastPort := (phase0 PhState.open_).lastPort, start := (phase0 PhState.open_).start, opened := (phase0 PhState.open_).opened, retries := (phase0 PhState.open_).retries, dev := (phase0 PhState.open_).dev, lateOpen := (phase0 PhState.open_).lateOpen, predShort := (phase0 PhState.open_).predShort, joined := (phase0 PhState.open_).joined, shortDone := (phase0 PhState.open_).shortDone, doneRaw := (phase0 PhState.open_).doneRaw, doneAt := (phase0 PhState.open_).doneAt } ∈ (leftOpen.ledger 63).slots ∧
    { ent := (phase0 PhState.open_).ent, pass := 1, ports := (phase0 PhState.open_).ports, st := (phase0 PhState.open_).st, pkts := (phase0 PhState.open_).pkts, bytes := (phase0 PhState.open_).bytes, first := (phase0 PhState.open_).first, last := (phase0 PhState.open_).last, lastPort := (phase0 PhState.open_).lastPort, start := (phase0 PhState.open_).start, opened := (phase0 PhState.open_).opened, retries := (phase0 PhState.open_).retries, dev := (phase0 PhState.open_).dev, lateOpen := (phase0 PhState.open_).lateOpen, predShort := (phase0 PhState.open_).predShort, joined := (phase0 PhState.open_).joined, shortDone := (phase0 PhState.open_).shortDone, doneRaw := (phase0 PhState.open_).doneRaw, doneAt := (phase0 PhState.open_).doneAt : Phase }.deadline + microsecond16 ≤ leftOpen.now16 ∧
    leftOpen.slotDue 63 0 leftOpen.shortDue = some { ent := (phase0 PhState.open_).ent, pass := 1, ports := (phase0 PhState.open_).ports, st := (phase0 PhState.open_).st, pkts := (phase0 PhState.open_).pkts, bytes := (phase0 PhState.open_).bytes, first := (phase0 PhState.open_).first, last := (phase0 PhState.open_).last, lastPort := (phase0 PhState.open_).lastPort, start := (phase0 PhState.open_).start, opened := (phase0 PhState.open_).opened, retries := (phase0 PhState.open_).retries, dev := (phase0 PhState.open_).dev, lateOpen := (phase0 PhState.open_).lateOpen, predShort := (phase0 PhState.open_).predShort, joined := (phase0 PhState.open_).joined, shortDone := (phase0 PhState.open_).shortDone, doneRaw := (phase0 PhState.open_).doneRaw, doneAt := (phase0 PhState.open_).doneAt } ∧
    settling.inReset = false ∧ settling.slotDue 63 0 (settling.settleDue 63) = some (phase0 PhState.settling) ∧ lastSettles.inReset = false ∧
    lastSettles.slotDue 63 0 (lastSettles.settleDue 63) = some { ent := (phase0 PhState.settling).ent, pass := 1, ports := (phase0 PhState.settling).ports, st := (phase0 PhState.settling).st, pkts := (phase0 PhState.settling).pkts, bytes := (phase0 PhState.settling).bytes, first := (phase0 PhState.settling).first, last := (phase0 PhState.settling).last, lastPort := (phase0 PhState.settling).lastPort, start := (phase0 PhState.settling).start, opened := (phase0 PhState.settling).opened, retries := (phase0 PhState.settling).retries, dev := (phase0 PhState.settling).dev, lateOpen := (phase0 PhState.settling).lateOpen, predShort := (phase0 PhState.settling).predShort, joined := (phase0 PhState.settling).joined, shortDone := (phase0 PhState.settling).shortDone, doneRaw := (phase0 PhState.settling).doneRaw, doneAt := (phase0 PhState.settling).doneAt } ∧
    (∀ u < 64, lookSt.struck u 8 = []) ∧ (holdsPhase 2 PhState.open_).inReset = false := by decide

/-! ### Queues and streams -/

/-- Queue 6 of tenant 0 takes the records of source 0x8307 in class 1, which the pool has room for. -/
def qUp : State := ((((running.setF QM_QCFG_VALID 6 1).setReg .QT_UNITQ 0 (BitVec.ofNat 64 ((32768 + 6) * 2 ^ 16))).setF QT_LIMIT_LIMIT 0 100))
def inRec (cls src : Nat) : RecIn := { typ := if cls = 2 then 1 else 0x40, cls := cls, tenant := 0, source := src, stamp := 5, epoch := 0, payload := List.replicate 16 7 }
def badRec : RecIn := { inRec 0 0x8307 with typ := 0x40 }
def hasCell (closed : Bool) : State := queueState qUp [{ idx := 40, recs := [rec0 0], closed := closed }] 1
def qcfgNew (d : Word) (q : State) : Word := storeFields false d allBits Reg.QM_QCFG.fields (q.getReg .QM_QCFG (q.getF QM_QSEL_QUEUE 0))
def selSix : State := (hasCell false).setF QM_QSEL_QUEUE 0 6
def orphan : Orphan := { queue := 6, incarn := 0, tenant := 0, cells := [40, 41] }
def scrub : State := { qUp with qm := { waiting := List.replicate 17 orphan } }
def walking : State := { qUp with qm := { serving := [orphan], walking := true, used := [(40, true), (41, true), (77, true)] } }
def spills : State :=
  let s := ((((queueState qUp [] 1).setF QM_QCFG_SPILL 6 1).setF SP_SIZE_EN 0 1).setF SP_SIZE_CELLS 0 256).setF QT_USE_RESIDENT 0 2
  { (s.setF QT_LIMIT_SPILL_MARK 0 1).setF QT_LIMIT_FRONT 0 1 with qm := { queues := [(6, { front := [{ idx := 3, recs := [rec0 0], closed := true }], back := [{ idx := 40, recs := [rec0 0], closed := true }, { idx := 41, recs := [rec0 0] }] })] } }
def spillBroken : State := spills.setQueue 6 { spills.queue 6 with desc := 1 }
def ringEnt (incarn : Nat) : RingEnt := { queue := 6, incarn := incarn, cell := { idx := 40, recs := [rec0 0], closed := true } }
def spilling (incarn : Nat) : State :=
  let s := mapped (spills.setF DS_STAT_STATE 0 1) []
  { s with qm := { s.qm with rings := [(0, { spill := some (ringEnt incarn) })], used := [(40, true)] } }
def drains : State := { (mapped spills []).setF QT_USE_RESIDENT 0 0 with qm := { queues := [(6, {})], rings := [(0, { ents := [ringEnt 0] })] } }
def ringSt (side : List Byte) : State :=
  let s := (mapped (drains.setF DS_STAT_STATE 1 1) ((ringEnt 0).cell.data))
  { s with salt := memWrite s.salt (131072 + 65536) side }
def ringSideBytes : List Byte := (ringEnt 0).side ++ leBytes 4 (ringEnt 0).check ++ leBytes 4 0
def stream (k st : Nat) : State := (running.setF DS_STAT_STATE (16 * 63 + k) st).setF DS_STAT_POS (16 * 63 + k) 100
def loadBusy : State := { (stream 8 1) with load := some { src := 0, tenant := 63, core := 0, mask := 1, start := false } }

theorem test_recordAppend_hypotheses :
    qUp.inReset = false ∧
    true = keeps (qUp.flag EX_SHSTAT_SHED3 (offered badRec).tenant) (qUp.getF EX_SHSTAT_D (offered badRec).tenant) (offered badRec).cls (shedNumber qUp (offered badRec)) (offered badRec).source ∧
    true = keeps (qUp.flag EX_SHSTAT_SHED3 (offered (inRec 1 33543)).tenant) (qUp.getF EX_SHSTAT_D (offered (inRec 1 33543)).tenant) (offered (inRec 1 33543)).cls (shedNumber qUp (offered (inRec 1 33543))) (offered (inRec 1 33543)).source ∧
    ((offered (inRec 1 33543)).typ ∈ [1] ∧ (offered (inRec 1 33543)).cls = 2 ∧ 1 ≤ (offered (inRec 1 33543)).slots ∧ (offered (inRec 1 33543)).slots ≤ 4 ∨ (offered (inRec 1 33543)).typ ∈ [2, 3] ∧ (offered (inRec 1 33543)).cls = 2 ∧ (offered (inRec 1 33543)).slots = 1 ∨ (offered (inRec 1 33543)).typ ∈ [4, 5, 17, 49] ∧ (offered (inRec 1 33543)).cls = 2 ∧ 1 ≤ (offered (inRec 1 33543)).slots ∧ (offered (inRec 1 33543)).slots ≤ 2 ∨ (offered (inRec 1 33543)).typ ∈ [16, 18] ∧ (offered (inRec 1 33543)).cls = 2 ∧ (offered (inRec 1 33543)).slots = 2 ∨ (offered (inRec 1 33543)).typ ∈ [32, 33, 48] ∧ (offered (inRec 1 33543)).cls = 1 ∧ (offered (inRec 1 33543)).slots = 2 ∨ (offered (inRec 1 33543)).typ ∈ [64, 82] ∧ (offered (inRec 1 33543)).cls = 1 ∧ 1 ≤ (offered (inRec 1 33543)).slots ∧ (offered (inRec 1 33543)).slots ≤ 2 ∨ (offered (inRec 1 33543)).typ ∈ [65, 81] ∧ (offered (inRec 1 33543)).cls = 1 ∧ (offered (inRec 1 33543)).slots = 1 ∨ (offered (inRec 1 33543)).typ = 80 ∧ (offered (inRec 1 33543)).cls = 1 ∧ 2 ≤ (offered (inRec 1 33543)).slots ∧ (offered (inRec 1 33543)).slots ≤ 8 ∨ (offered (inRec 1 33543)).typ = 96 ∧ (offered (inRec 1 33543)).cls = 0 ∧ 1 ≤ (offered (inRec 1 33543)).slots ∧ (offered (inRec 1 33543)).slots ≤ 2 ∨ (offered (inRec 1 33543)).typ = 113 ∧ (offered (inRec 1 33543)).cls = 3 ∧ (offered (inRec 1 33543)).slots = 8 ∨ ((offered (inRec 1 33543)).typ = 112 ∨ 128 ≤ (offered (inRec 1 33543)).typ) ∧ (offered (inRec 1 33543)).typ < 256 ∧ 1 ≤ (offered (inRec 1 33543)).cls ∧ (offered (inRec 1 33543)).cls ≤ 3 ∧ 1 ≤ (offered (inRec 1 33543)).slots ∧ (offered (inRec 1 33543)).slots ≤ 8) ∧
    (qUp.setF EX_SHSTAT_D 0 8).inReset = false ∧
    false = keeps ((qUp.setF EX_SHSTAT_D 0 8).flag EX_SHSTAT_SHED3 (offered (inRec 2 33543)).tenant) ((qUp.setF EX_SHSTAT_D 0 8).getF EX_SHSTAT_D (offered (inRec 2 33543)).tenant) (offered (inRec 2 33543)).cls (shedNumber (qUp.setF EX_SHSTAT_D 0 8) (offered (inRec 2 33543))) (offered (inRec 2 33543)).source ∧
    ((offered (inRec 2 33543)).typ ∈ [1] ∧ (offered (inRec 2 33543)).cls = 2 ∧ 1 ≤ (offered (inRec 2 33543)).slots ∧ (offered (inRec 2 33543)).slots ≤ 4 ∨ (offered (inRec 2 33543)).typ ∈ [2, 3] ∧ (offered (inRec 2 33543)).cls = 2 ∧ (offered (inRec 2 33543)).slots = 1 ∨ (offered (inRec 2 33543)).typ ∈ [4, 5, 17, 49] ∧ (offered (inRec 2 33543)).cls = 2 ∧ 1 ≤ (offered (inRec 2 33543)).slots ∧ (offered (inRec 2 33543)).slots ≤ 2 ∨ (offered (inRec 2 33543)).typ ∈ [16, 18] ∧ (offered (inRec 2 33543)).cls = 2 ∧ (offered (inRec 2 33543)).slots = 2 ∨ (offered (inRec 2 33543)).typ ∈ [32, 33, 48] ∧ (offered (inRec 2 33543)).cls = 1 ∧ (offered (inRec 2 33543)).slots = 2 ∨ (offered (inRec 2 33543)).typ ∈ [64, 82] ∧ (offered (inRec 2 33543)).cls = 1 ∧ 1 ≤ (offered (inRec 2 33543)).slots ∧ (offered (inRec 2 33543)).slots ≤ 2 ∨ (offered (inRec 2 33543)).typ ∈ [65, 81] ∧ (offered (inRec 2 33543)).cls = 1 ∧ (offered (inRec 2 33543)).slots = 1 ∨ (offered (inRec 2 33543)).typ = 80 ∧ (offered (inRec 2 33543)).cls = 1 ∧ 2 ≤ (offered (inRec 2 33543)).slots ∧ (offered (inRec 2 33543)).slots ≤ 8 ∨ (offered (inRec 2 33543)).typ = 96 ∧ (offered (inRec 2 33543)).cls = 0 ∧ 1 ≤ (offered (inRec 2 33543)).slots ∧ (offered (inRec 2 33543)).slots ≤ 2 ∨ (offered (inRec 2 33543)).typ = 113 ∧ (offered (inRec 2 33543)).cls = 3 ∧ (offered (inRec 2 33543)).slots = 8 ∨ ((offered (inRec 2 33543)).typ = 112 ∨ 128 ≤ (offered (inRec 2 33543)).typ) ∧ (offered (inRec 2 33543)).typ < 256 ∧ 1 ≤ (offered (inRec 2 33543)).cls ∧ (offered (inRec 2 33543)).cls ≤ 3 ∧ 1 ≤ (offered (inRec 2 33543)).slots ∧ (offered (inRec 2 33543)).slots ≤ 8) ∧
    (offered (inRec 2 33543)).typ ≠ 82 ∧
    true = keeps (qUp.flag EX_SHSTAT_SHED3 (offered (inRec 2 33543)).tenant) (qUp.getF EX_SHSTAT_D (offered (inRec 2 33543)).tenant) (offered (inRec 2 33543)).cls (shedNumber qUp (offered (inRec 2 33543))) (offered (inRec 2 33543)).source ∧
    qUp.route (offered (inRec 1 33543)).source (offered (inRec 1 33543)).tenant (offered (inRec 1 33543)).cls = some 6 ∧
    qUp.refuse 6 (offered (inRec 1 33543)) = 0 ∧ (qUp.queue 6).desc = 0 ∧
    ((qUp.queue 6).fits (qUp.isRemote 6) (offered (inRec 1 33543)).slots = true ∨ qUp.flag QM_QCFG_FR 6 = false ∨ (qUp.queue 6).cells.length < qUp.getF QM_QCFG_CAP 6) := by decide

theorem test_queueCommands_hypotheses :
    selSix.ready = true ∧ 6 = selSix.getF QM_QSEL_QUEUE 0 ∧
    fld QM_QCFG_TENANT 1 = storeFields false (fld QM_QCFG_TENANT 1) allBits Reg.QM_QCFG.fields (selSix.getReg Reg.QM_QCFG 6) ∧
    (True ↔ selSix.getF QM_QSTAT_COUNT 6 ≠ 0 ∧ (Fld.of (fld QM_QCFG_TENANT 1) QM_QCFG_TENANT ≠ selSix.getF QM_QCFG_TENANT 6 ∨ Fld.of (fld QM_QCFG_TENANT 1) QM_QCFG_FR ≠ selSix.getF QM_QCFG_FR 6 ∨ Fld.of (fld QM_QCFG_TENANT 1) QM_QCFG_REWIND ≠ selSix.getF QM_QCFG_REWIND 6) ∨ Fld.of (fld QM_QCFG_TENANT 1) QM_QCFG_FR = 1 ∧ Fld.of (fld QM_QCFG_TENANT 1) QM_QCFG_CAP = 0) ∧
    fld QM_QCFG_FR 1 = storeFields false (fld QM_QCFG_FR 1) allBits Reg.QM_QCFG.fields (selSix.getReg Reg.QM_QCFG 6) ∧
    (True ↔ selSix.getF QM_QSTAT_COUNT 6 ≠ 0 ∧ (Fld.of (fld QM_QCFG_FR 1) QM_QCFG_TENANT ≠ selSix.getF QM_QCFG_TENANT 6 ∨ Fld.of (fld QM_QCFG_FR 1) QM_QCFG_FR ≠ selSix.getF QM_QCFG_FR 6 ∨ Fld.of (fld QM_QCFG_FR 1) QM_QCFG_REWIND ≠ selSix.getF QM_QCFG_REWIND 6) ∨ Fld.of (fld QM_QCFG_FR 1) QM_QCFG_FR = 1 ∧ Fld.of (fld QM_QCFG_FR 1) QM_QCFG_CAP = 0) ∧
    fld QM_QCFG_SPILL 1 = storeFields false (fld QM_QCFG_SPILL 1) allBits Reg.QM_QCFG.fields (selSix.getReg Reg.QM_QCFG 6) ∧
    (False ↔ selSix.getF QM_QSTAT_COUNT 6 ≠ 0 ∧ (Fld.of (fld QM_QCFG_SPILL 1) QM_QCFG_TENANT ≠ selSix.getF QM_QCFG_TENANT 6 ∨ Fld.of (fld QM_QCFG_SPILL 1) QM_QCFG_FR ≠ selSix.getF QM_QCFG_FR 6 ∨ Fld.of (fld QM_QCFG_SPILL 1) QM_QCFG_REWIND ≠ selSix.getF QM_QCFG_REWIND 6) ∨ Fld.of (fld QM_QCFG_SPILL 1) QM_QCFG_FR = 1 ∧ Fld.of (fld QM_QCFG_SPILL 1) QM_QCFG_CAP = 0) ∧
    (False ↔ Fld.of (fld QM_QCFG_SPILL 1) QM_QCFG_TENANT ≠ selSix.getF QM_QCFG_TENANT 6 ∨ Fld.of (fld QM_QCFG_SPILL 1) QM_QCFG_REWIND ≠ selSix.getF QM_QCFG_REWIND 6) ∧
    (qUp.setF QM_QSEL_QUEUE 0 6).ready = true ∧ 6 = (qUp.setF QM_QSEL_QUEUE 0 6).getF QM_QSEL_QUEUE 0 ∧
    fld QM_QCFG_TENANT 1 = storeFields false (fld QM_QCFG_TENANT 1) allBits Reg.QM_QCFG.fields ((qUp.setF QM_QSEL_QUEUE 0 6).getReg Reg.QM_QCFG 6) ∧
    (False ↔ (qUp.setF QM_QSEL_QUEUE 0 6).getF QM_QSTAT_COUNT 6 ≠ 0 ∧ (Fld.of (fld QM_QCFG_TENANT 1) QM_QCFG_TENANT ≠ (qUp.setF QM_QSEL_QUEUE 0 6).getF QM_QCFG_TENANT 6 ∨ Fld.of (fld QM_QCFG_TENANT 1) QM_QCFG_FR ≠ (qUp.setF QM_QSEL_QUEUE 0 6).getF QM_QCFG_FR 6 ∨ Fld.of (fld QM_QCFG_TENANT 1) QM_QCFG_REWIND ≠ (qUp.setF QM_QSEL_QUEUE 0 6).getF QM_QCFG_REWIND 6) ∨ Fld.of (fld QM_QCFG_TENANT 1) QM_QCFG_FR = 1 ∧ Fld.of (fld QM_QCFG_TENANT 1) QM_QCFG_CAP = 0) ∧
    (True ↔ Fld.of (fld QM_QCFG_TENANT 1) QM_QCFG_TENANT ≠ (qUp.setF QM_QSEL_QUEUE 0 6).getF QM_QCFG_TENANT 6 ∨ Fld.of (fld QM_QCFG_TENANT 1) QM_QCFG_REWIND ≠ (qUp.setF QM_QSEL_QUEUE 0 6).getF QM_QCFG_REWIND 6) ∧
    (hasCell true).ready = true ∧ 6 = Fld.of (fld QM_CMD_QUEUE 6 ||| fld QM_CMD_CMD 1) QM_CMD_QUEUE ∧
    Fld.of (fld QM_CMD_QUEUE 6 ||| fld QM_CMD_CMD 1) QM_CMD_CMD = 1 ∧ ((hasCell true).setF QM_QCFG_FR 6 1).ready = true ∧
    6 = Fld.of (fld QM_CMD_QUEUE 6 ||| fld QM_CMD_CMD 2) QM_CMD_QUEUE ∧ Fld.of (fld QM_CMD_QUEUE 6 ||| fld QM_CMD_CMD 2) QM_CMD_CMD = 2 ∧
    ((hasCell true).setF QM_QCFG_FR 6 1).flag QM_QCFG_FR 6 = true ∧ (hasCell true).flag QM_QCFG_FR 6 = false ∧
    32767 = Fld.of (fld QM_CMD_QUEUE 32767 ||| fld QM_CMD_CMD 3) QM_CMD_QUEUE ∧ Fld.of (fld QM_CMD_QUEUE 32767 ||| fld QM_CMD_CMD 3) QM_CMD_CMD = 3 ∧
    1 = BitVec.twoPow 64 0 ∧ (hasCell true).bankOut 0 = false := by decide

theorem test_scrubSpillAndDrain_hypotheses :
    scrub.inReset = false ∧ scrub.qm.walking = false ∧ scrub.qm.waiting ≠ [] ∧ walking.inReset = false ∧ walking.qm.walking = true ∧
    spillBroken.inReset = false ∧ spillBroken.spillDue 0 = true ∧ spillBroken.spillQueue 0 = some 6 ∧ (spillBroken.queue 6).desc ≠ 0 ∧
    spills.inReset = false ∧ spills.spillDue 0 = true ∧ spills.spillQueue 0 = some 6 ∧ (spills.queue 6).desc = 0 ∧
    spills.spillCell 6 = some { idx := 40, recs := [rec0 0], closed := true } ∧ (spilling 1).inReset = false ∧ (spilling 1).dsState 0 0 = 1 ∧
    ((spilling 1).ring 0).spill = some (ringEnt 1) ∧ drains.inReset = false ∧ drains.drainDue 0 = true ∧ (ringSt ringSideBytes).inReset = false ∧
    (ringSt ringSideBytes).dsState 0 1 = 1 ∧ ((ringSt ringSideBytes).ring 0).ents = [ringEnt 0] ∧
    (ringSt ringSideBytes).getF QM_CFG_CTL_RESERVE 0 < (ringSt ringSideBytes).getF QM_POOL_FREE 0 ∧ (up.setF SP_LEVEL_LEVEL 63 9).inReset = false ∧
    (up.setF SP_LEVEL_LEVEL 63 9).ready = true ∧ Fld.of (fld SP_PEAK_CLEAR 1) SP_PEAK_CLEAR = 1 := by decide

theorem test_streamsAndTranslations_hypotheses :
    (stream 2 1).inReset = false ∧ (stream 2 1).dsState 63 2 = 1 ∧ (stream 0 1).inReset = false ∧ (stream 0 1).dsState 63 0 = 1 ∧
    loadBusy.inReset = false ∧ loadBusy.dsState 63 8 = 1 ∧ loadBusy.load = some { src := 0, tenant := 63, core := 0, mask := 1, start := false } ∧
    (stream 7 2).ready = true ∧ ((stream 7 2).dsState 63 7 ≠ 2 ∨ 7 = 7 ∨ 11 ≤ 7) ∧ (stream 15 2).ready = true ∧
    ((stream 15 2).dsState 63 15 ≠ 2 ∨ 15 = 7 ∨ 11 ≤ 15) ∧ (stream 0 1).ready = true ∧ ((stream 0 1).dsState 63 0 ≠ 2 ∨ 0 = 7 ∨ 11 ≤ 0) ∧
    (stream 10 2).ready = true ∧ (stream 10 2).dsState 63 10 = 2 ∧ (stream 2 2).ready = true ∧ (stream 2 2).dsState 63 2 = 2 ∧
    (stream 0 2).ready = true ∧ (stream 0 2).dsState 63 0 = 2 ∧ up.ready = true ∧ Fld.of (fld XL_INV_GO 1) XL_INV_GO = 1 ∧
    (running.setF XL_INV_BUSY 0 1).inReset = false ∧ (running.setF XL_INV_BUSY 0 1).flag XL_INV_BUSY 0 = true := by decide

/-! ### Windows and losses -/

def winCfg : Word := fld WN_CFG_EN 1 ||| fld WN_CFG_K 20 ||| fld WN_CFG_MAXK 20 ||| fld WN_CFG_SEAL_IRQ 1
def activeSix : State := running.setF TN_STATUS_STATE 0 1
/-- Window 4 of tenant 0 is open; context 5 depends on it, mailbox 0 has a parked post of it, and queue 6 holds a record of it behind a
mark. -/
def fullWin (cfg : Word) (w : Window) : State :=
  let s := queueState (openSix (ctx5 4 { dep := some 4 })) [{ idx := 40, recs := [rec0 3, rec0 4] }] 2
  let s := { s with qm := { s.qm with used := [(40, true)], queues := [(6, { front := [{ idx := 40, recs := [rec0 3, rec0 4] }], mark := .set 4 40 1 })] } }
  let s := { s with mbox := [(0, { parked := some { len := 2, data := [8, 9], gen := 4 } })], win := { s.win with wins := [(0, w)] } }
  ((((s.setF CX_STATUS_DEP 5 1).setF TN_STATUS_STATE 0 1).setF WN_GEN_NEXT 0 5).setF MB_HDR_PARKED 0 1).setReg .WN_CFG 0 cfg
def win4 : Window := { c1 := 1, c2 := 2, c3 := 3, slots := 9, digest := 77, align := 1, refused := 2, maxk := 0 }
def sealQ (s : State) : State := (((s.setF QM_QCFG_VALID 7 1).setReg .QT_UNITQ 0 (BitVec.ofNat 64 ((32768 + 7) * 2 ^ 16))).setF QT_LIMIT_LIMIT 0 100)
def fullOpen : State := sealQ (fullWin winCfg win4)
def ending : State := sealQ (fullWin winCfg { win4 with align := 0, openIdx := 1, k := 10 })
def capped : State := { fullOpen with us := 1 }
def sealFour : Word := fld WN_CMD_GEN 4 ||| fld WN_CMD_SEAL 1
def voidFour : Word := fld WN_CMD_GEN 4 ||| fld WN_CMD_VOID 1
def bothFour : Word := sealFour ||| voidFour
def fSeal : FmtT := { rd := 0, ra := 2, rb := 0, pd := 5, ctl := 0 }
def sealCtx (dep : Option Nat) : Ctx := { g := regs2 4 0, dep := dep }
def sealing (i : Instr) (dep : Option Nat) (w : Window) : State :=
  { (((openSix (issuing i (sealCtx dep))).setF TN_STATUS_STATE 0 1).setF WN_GEN_NEXT 0 5) with win := { wins := [(0, w)] } }
def job4 : VoidJob := { gen := 4, reason := 2, failed := false, refused := 2, formed := 6, rolled := 1, stamp := 5, epoch := 0 }
def voidPending : State := sealQ (fullWin winCfg { win4 with jobs := [job4] })
def tally9 : Tally := { source := 0x8205, tenant := 0, cause := 1, gen := 4, cls := 2, formed := true, count := 3, slots := 4, seqValid := true, firstSeq := 1, lastSeq := 3, digest := 5, firstAt := 100, firstUs := 0 }
def tallied (n : Nat) : State := { fullOpen with us := n, win := { fullOpen.win with tallies := [(0x8205, some tally9)] } }
def waitingLoss : State := { fullOpen with win := { fullOpen.win with closed := [{ tally9 with tried := true }] } }

theorem test_windows_hypotheses_1 :
    activeSix.ready = true ∧ Fld.of winCfg WN_CFG_EN = 1 ∧ fullOpen.ready = true ∧ Fld.of 0 WN_CFG_EN = 0 ∧ ending.inReset = false ∧
    ending.intervalOver 0 = true ∧ capped.inReset = false ∧ capped.capDue 0 = true ∧ ending.ready = true ∧
    (Instr.wnSeal 0 sealFour = Instr.wnSeal 0 sealFour ∧ Fld.of sealFour WN_CMD_SEAL = 1 ∧ Fld.of sealFour WN_CMD_VOID = 0 ∧ false = false ∨ Instr.wnSeal 0 sealFour = Instr.wnVoid 0 sealFour ∧ Fld.of sealFour WN_CMD_VOID = 1 ∧ Fld.of sealFour WN_CMD_SEAL = 0 ∧ false = true) ∧
    fullOpen.intervalOver 0 = false ∧ fullOpen.getF WN_STAT_STATE 0 = 1 ∧ fullOpen.getF WN_GEN_CUR 0 = Fld.of sealFour WN_CMD_GEN ∧
    (Instr.wnVoid 0 voidFour = Instr.wnSeal 0 voidFour ∧ Fld.of voidFour WN_CMD_SEAL = 1 ∧ Fld.of voidFour WN_CMD_VOID = 0 ∧ true = false ∨ Instr.wnVoid 0 voidFour = Instr.wnVoid 0 voidFour ∧ Fld.of voidFour WN_CMD_VOID = 1 ∧ Fld.of voidFour WN_CMD_SEAL = 0 ∧ true = true) ∧
    fullOpen.getF WN_GEN_CUR 0 = Fld.of voidFour WN_CMD_GEN ∧
    (Instr.wnSeal 0 (fld WN_CMD_SEAL 1) = Instr.wnSeal 0 (fld WN_CMD_SEAL 1) ∧ Fld.of (fld WN_CMD_SEAL 1) WN_CMD_SEAL = 1 ∧ Fld.of (fld WN_CMD_SEAL 1) WN_CMD_VOID = 0 ∧ false = false ∨ Instr.wnSeal 0 (fld WN_CMD_SEAL 1) = Instr.wnVoid 0 (fld WN_CMD_SEAL 1) ∧ Fld.of (fld WN_CMD_SEAL 1) WN_CMD_VOID = 1 ∧ Fld.of (fld WN_CMD_SEAL 1) WN_CMD_SEAL = 0 ∧ false = true) ∧
    (fullOpen.getF WN_STAT_STATE 0 ≠ 1 ∨ fullOpen.getF WN_GEN_CUR 0 ≠ Fld.of (fld WN_CMD_SEAL 1) WN_CMD_GEN) ∧ Fld.of bothFour WN_CMD_SEAL = 1 ∧
    Fld.of bothFour WN_CMD_VOID = 1 ∧ Instr.wnVoid 0 bothFour ∈ [Instr.wnSeal 0 bothFour, Instr.wnVoid 0 bothFour] ∧
    fullOpen.getF WN_GEN_CUR 0 = Fld.of bothFour WN_CMD_GEN ∧ fullOpen.getF WN_GEN_NEXT 0 ≠ Fld.of bothFour WN_CMD_GEN ∧
    (Instr.seal 5 fSeal = Instr.seal 5 fSeal ∧ false = false ∨ Instr.seal 5 fSeal = Instr.void 5 fSeal ∧ false = true) ∧
    (sealing (Instr.seal 5 fSeal) (some 4) win4).tenantOf 5 = 0 ∧ (sealing (Instr.seal 5 fSeal) (some 4) win4).ownerOf 5 = some 0 ∧ fSeal.rd = 0 ∧
    fSeal.rb = 0 ∧ fSeal.ctl = 0 ∧ ((sealing (Instr.seal 5 fSeal) (some 4) win4).ctx 5).latch = none ∧
    sealCtx (some 4) = (sealing (Instr.seal 5 fSeal) (some 4) win4).ctx 5 := by decide

theorem test_windows_hypotheses_2 :
    4 = BitVec.toNat ((sealCtx (some 4)).gr fSeal.ra) % 2 ^ 32 ∧
    (Instr.void 5 fSeal = Instr.seal 5 fSeal ∧ true = false ∨ Instr.void 5 fSeal = Instr.void 5 fSeal ∧ true = true) ∧
    (sealing (Instr.void 5 fSeal) (some 4) win4).tenantOf 5 = 0 ∧ (sealing (Instr.void 5 fSeal) (some 4) win4).ownerOf 5 = some 0 ∧
    ((sealing (Instr.void 5 fSeal) (some 4) win4).ctx 5).latch = none ∧
    sealCtx (some 4) = (sealing (Instr.void 5 fSeal) (some 4) win4).ctx 5 := by decide

theorem test_voidsAndLosses_hypotheses :
    voidPending.inReset = false ∧ (voidPending.window 0).jobs = [job4] ∧ (tallied 16).inReset = false ∧
    smGet none (tallied 16).win.tallies 33285 = some tally9 ∧ tally9.firstUs + 16 ≤ (tallied 16).us ∧ (tallied 15).inReset = false ∧
    waitingLoss.inReset = false ∧
    waitingLoss.win.closed = [{ source := tally9.source, tenant := tally9.tenant, cause := tally9.cause, gen := tally9.gen, cls := tally9.cls, formed := tally9.formed, count := tally9.count, slots := tally9.slots, seqValid := tally9.seqValid, firstSeq := tally9.firstSeq, lastSeq := tally9.lastSeq, digest := tally9.digest, firstAt := tally9.firstAt, firstUs := tally9.firstUs, tried := true }] := by decide

/-! ### Export -/

/-- Export is on and time is locked; port 0 is UP with all its lanes; tenant 0's stream 5 leaves there, and queue 6 is exported. -/
def exUp : State :=
  let s := (((running.setF MYB_BLKID_LOCK 0 1).setF EX_CFG_EN 0 1).setF EX_PORT_STATE 0 2).setF EX_PORT_RATE 0 3
  let s := (((s.setF EX_PORT_LANES 0 255).setF EX_STREAM_VALID 0 1).setF EX_STREAM_STREAM 0 5).setF EX_STREAM_WEIGHT 0 1
  (((s.setF EX_CFG_FLUSH_NS 0 100).setF EX_CFG_RESERVE 0 10).setF QM_QCFG_EXPORT 6 1).setF EX_MAC_MAC 0 0x112233
def exHead (s : State) (cs : List Cell) (n : Nat) : State := queueState s cs n
def cell1 (r : Rec) : Cell := { idx := 40, recs := [r] }
def exOne : State := { exHead exUp [cell1 (rec0 0)] 1 with qm := { (exHead exUp [cell1 (rec0 0)] 1).qm with used := [(40, true)] } }
def rec3 : Rec := { rec0 0 with cls := 3 }
def exShed : State := (exHead exUp [cell1 rec3] 1).setF EX_SHSTAT_SHED3 0 1
def pausedPort : State := exOne.setExPort 0 { pause := [(6, 1)] }
def exFrame (n gen : Nat) : ExFrame := { tenant := 0, cls := 1, epoch := 0, gen := gen, slots := n, born := 500, recs := [] }
def exOpen (f : ExFrame) : State := exOne.setOpenFrame 0 1 (some f)
def sends : ExFrame := { exFrame 1 0 with recs := [(rec0 0, false)] }
def exReady : State := { exUp with ex := { exUp.ex with ready := [sends, exFrame 280 0], used := 281, streams := [(0, { fseq := 7, sent := [(1, 9)] })] } }
def sending : ExSend := { frame := sends, bytes := [1, 2, 3] }
def onWire (stop : Bool) : State := exUp.setExPort 0 { cur := some sending, stop := stop }
def training : State := exUp.setF EX_PORT_STATE 0 1
def enableExp : Word := fld EX_CFG_EN 1
def exOff : State := exUp.setF EX_CFG_EN 0 0
def enableTwo : Word := fld EX_CFG_EN 1 ||| fld EX_CFG_MODE 2
def pfcOn : State := exUp.setF EX_PFC_PFC_EN 0 1
def pausing : State := exUp.setExPort 0 { pause := [(2, 5), (7, 640001)] }
def retHdr (b : Nat) : List Byte := leBytes 1 1 ++ leBytes 1 0x80 ++ leBytes 2 exUp.blockId ++ leBytes 2 5 ++ leBytes 1 b ++ leBytes 5 0 ++ leBytes 4 640 ++ leBytes 4 641 ++ leBytes 4 642 ++ leBytes 8 0

theorem test_exportDrain_hypotheses_1 :
    exOne.inReset = false ∧ exOne.served 6 = true ∧ (exHead exUp [] 0).inReset = false ∧ (exHead exUp [] 0).served 6 = true ∧
    ((exHead exUp [] 0).queue 6).desc = 0 ∧ ((exHead exUp [] 0).headOf 6 = Head.empty ∨ (exHead exUp [] 0).headOf 6 = Head.remote) ∧
    exShed.inReset = false ∧ exShed.served 6 = true ∧ (exShed.queue 6).desc = 0 ∧ exShed.headOf 6 = Head.item rec3 40 ∧ rec3.err = 0 ∧
    exShed.shedsHead rec3 = true ∧ pausedPort.inReset = false ∧ pausedPort.served 6 = true ∧ (pausedPort.queue 6).desc = 0 ∧
    pausedPort.headOf 6 = Head.item (rec0 0) 40 ∧ (rec0 0).err = 0 ∧ pausedPort.shedsHead (rec0 0) = false ∧ pausedPort.drainTurn 6 = false ∧
    (exOne.queue 6).desc = 0 ∧ exOne.headOf 6 = Head.item (rec0 0) 40 ∧ exOne.shedsHead (rec0 0) = false ∧ exOne.drainTurn 6 = true ∧
    (exOpen (exFrame 7 3)).inReset = false ∧ (exOpen (exFrame 7 3)).openFrame 0 1 = some (exFrame 7 3) ∧ (exFrame 7 3).tenant = 0 ∧
    25 * (exOpen (exFrame 7 3)).getF EX_CFG_FLUSH_NS 0 ≤ 16 * ((exOpen (exFrame 7 3)).rawNow - (exFrame 7 3).born) ∧ exReady.inReset = false ∧
    exReady.chooseFrame 0 = some sends ∧ (onWire false).inReset = false := by decide

theorem test_exportDrain_hypotheses_2 :
    ((onWire false).exPort 0).cur = some sending ∧ ((onWire false).exPort 0).stop = false ∧ ((onWire true).setF EX_CFG_EN 0 0).inReset = false ∧
    (((onWire true).setF EX_CFG_EN 0 0).exPort 0).cur = some sending ∧ (((onWire true).setF EX_CFG_EN 0 0).exPort 0).stop = true ∧
    ((onWire true).setF EX_CFG_EN 0 0).flag EX_CFG_EN 0 = false ∧ (onWire true).inReset = false ∧ ((onWire true).exPort 0).cur = some sending ∧
    ((onWire true).exPort 0).stop = true ∧ (onWire true).flag EX_CFG_EN 0 = true := by decide

theorem test_exportPorts_hypotheses_1 :
    training.inReset = false ∧ training.getF EX_PORT_STATE 0 = 1 ∧ training.flag MYB_BIST_STAT_BUSY 0 = false ∧ (onWire false).inReset = false ∧
    (onWire false).ex.dead / 2 ^ 7 % 2 = 0 ∧ exUp.ready = true ∧
    (Instr.exportEnable enableExp = Instr.exportEnable enableExp ∧ Fld.of enableExp EX_CFG_EN = 1 ∨ Instr.exportEnable enableExp = Instr.exportDisable enableExp ∧ Fld.of enableExp EX_CFG_EN = 0) ∧
    Fld.of enableExp EX_CFG_EN = exUp.getF EX_CFG_EN 0 ∧ exOff.ready = true ∧
    (Instr.exportEnable enableTwo = Instr.exportEnable enableTwo ∧ Fld.of enableTwo EX_CFG_EN = 1 ∨ Instr.exportEnable enableTwo = Instr.exportDisable enableTwo ∧ Fld.of enableTwo EX_CFG_EN = 0) ∧
    Fld.of enableTwo EX_CFG_EN = 1 ∧ exOff.getF EX_CFG_EN 0 = 0 ∧
    { regs := (onWire false).regs, time := (onWire false).time, qm := (onWire false).qm, win := (onWire false).win, ex := { open_ := (onWire false).ex.open_, ready := [sends], used := (onWire false).ex.used, ports := (onWire false).ex.ports, streams := (onWire false).ex.streams, turn := (onWire false).ex.turn, taken := (onWire false).ex.taken, lastQ := (onWire false).ex.lastQ, dead := (onWire false).ex.dead : ExportUnit }, ctxs := (onWire false).ctxs, cores := (onWire false).cores, mbox := (onWire false).mbox, load := (onWire false).load, saves := (onWire false).saves, restores := (onWire false).restores, taps := (onWire false).taps, funnel := (onWire false).funnel, seqrs := (onWire false).seqrs, ledgers := (onWire false).ledgers, watches := (onWire false).watches, salt := (onWire false).salt, host := (onWire false).host, memBad := (onWire false).memBad, imago := (onWire false).imago, leases := (onWire false).leases, mtx := (onWire false).mtx, pair := (onWire false).pair, board := (onWire false).board, us := (onWire false).us, inReset := (onWire false).inReset, out := (onWire false).out, hostResp := (onWire false).hostResp, freeCtr := (onWire false).freeCtr, pending := (onWire false).pending : State }.ready = true ∧
    (Instr.exportDisable (fld EX_CFG_MODE 2) = Instr.exportEnable (fld EX_CFG_MODE 2) ∧ Fld.of (fld EX_CFG_MODE 2) EX_CFG_EN = 1 ∨ Instr.exportDisable (fld EX_CFG_MODE 2) = Instr.exportDisable (fld EX_CFG_MODE 2) ∧ Fld.of (fld EX_CFG_MODE 2) EX_CFG_EN = 0) ∧
    Fld.of (fld EX_CFG_MODE 2) EX_CFG_EN = 0 ∧
    { regs := (onWire false).regs, time := (onWire false).time, qm := (onWire false).qm, win := (onWire false).win, ex := { open_ := (onWire false).ex.open_, ready := [sends], used := (onWire false).ex.used, ports := (onWire false).ex.ports, streams := (onWire false).ex.streams, turn := (onWire false).ex.turn, taken := (onWire false).ex.taken, lastQ := (onWire false).ex.lastQ, dead := (onWire false).ex.dead : ExportUnit }, ctxs := (onWire false).ctxs, cores := (onWire false).cores, mbox := (onWire false).mbox, load := (onWire false).load, saves := (onWire false).saves, restores := (onWire false).restores, taps := (onWire false).taps, funnel := (onWire false).funnel, seqrs := (onWire false).seqrs, ledgers := (onWire false).ledgers, watches := (onWire false).watches, salt := (onWire false).salt, host := (onWire false).host, memBad := (onWire false).memBad, imago := (onWire false).imago, leases := (onWire false).leases, mtx := (onWire false).mtx, pair := (onWire false).pair, board := (onWire false).board, us := (onWire false).us, inReset := (onWire false).inReset, out := (onWire false).out, hostResp := (onWire false).hostResp, freeCtr := (onWire false).freeCtr, pending := (onWire false).pending : State }.getF EX_CFG_EN 0 = 1 ∧
    (exUp.setF EX_PFC_PFC_EN 0 0).inReset = false ∧
    ((exUp.setF EX_PFC_PFC_EN 0 0).portUp 0 = false ∨ (exUp.setF EX_PFC_PFC_EN 0 0).flag EX_PFC_PFC_EN 0 = false) ∧ pfcOn.inReset = false ∧
    pfcOn.portUp 0 = true ∧ pfcOn.flag EX_PFC_PFC_EN 0 = true ∧ pausing.inReset = false ∧ 5 = smGet 0 (pausing.exPort 0).pause 2 ∧
    5 ≤ pausing.rawNow * 640 ∧ 640001 = smGet 0 (pausing.exPort 0).pause 7 ∧ (640001 = 0 ∨ pausing.rawNow * 640 < 640001) ∧ exUp.inReset = false ∧
    exUp.portUp 0 = true ∧ (1122868 % 2 ^ 48 ≠ exUp.getF EX_MAC_MAC 0 ∨ exUp.goodReturn (retHdr 14) = false) ∧
    1122867 % 2 ^ 48 = exUp.getF EX_MAC_MAC 0 := by decide

theorem test_exportPorts_hypotheses_2 :
    exUp.goodReturn (retHdr 14) = true ∧ (((exUp.setF EX_CRSTAT_EN1 63 1).setF EX_CFG_CRED_TO 0 5).setStream 63 { crTicks := 5 }).inReset = false ∧
    (((exUp.setF EX_CRSTAT_EN1 63 1).setF EX_CFG_CRED_TO 0 5).setStream 63 { crTicks := 5 }).creditBits 63 ≠ 0 ∧
    (((exUp.setF EX_CRSTAT_EN1 63 1).setF EX_CFG_CRED_TO 0 5).setStream 63 { crTicks := 5 }).getF EX_CFG_CRED_TO 0 ≠ 0 ∧
    (((exUp.setF EX_CRSTAT_EN1 63 1).setF EX_CFG_CRED_TO 0 5).setStream 63 { crTicks := 5 }).getF EX_CFG_CRED_TO 0 ≤ ((((exUp.setF EX_CRSTAT_EN1 63 1).setF EX_CFG_CRED_TO 0 5).setStream 63 { crTicks := 5 }).stream 63).crTicks := by decide

theorem test_shedding_hypotheses :
    exUp.inReset = false := by decide

/-! ### Imago units, models and health -/

def dsc (op func fl model m n a c param : Nat) : List Byte :=
  leBytes 1 op ++ leBytes 2 0 ++ leBytes 1 func ++ leBytes 1 fl ++ leBytes 1 model ++ leBytes 2 0 ++ leBytes 2 m ++ leBytes 2 0 ++ leBytes 4 n ++
    leBytes 8 a ++ leBytes 8 0 ++ leBytes 8 c ++ leBytes 8 param ++ leBytes 8 0
/-- Tenant 0, ACTIVE, holds context 5 with a scratch, and these launches. -/
def imState (xs : List Launch) : State :=
  { (((ctx5 3 {}).setF CX_CFG_SCR_LEN 5 1).setF TN_STATUS_STATE 0 1).setF IM_TSTAT_QUEUED 0 1 with imago := { queues := [(0, xs)] } }
def eltwise : List Byte := dsc 2 2 0 1 1 4 128 192 0
def lnch (d : List Byte) : Launch := { ticket := 9, ctx := 5, at_ := 64, desc := d }
def runsOn (k : Nat) (d : List Byte) : Launch := { lnch d with unit := some k, begun := true }
def verdicts : List Byte := dsc 5 0 0 1 2 0 128 0 (7 * 2 ^ 32 + 3)
def badOp : List Byte := dsc 6 2 0 1 1 4 128 192 0
def fromStore : List Byte := dsc 2 2 0 1 1 4 (2 ^ 63 + 0) 192 0
/-- Model 1 of tenant 0 in a state. -/
def withModel (s : State) (st : Nat) (x : Model) : State := (s.setF HM_CTL_STATE 1 st).setModel 0 1 x
def weights : Model := { first := 3, count := 1, waddr := 0, wkib := 1, work := 5, target := 10, limit := 20 }
def streams (xs : List Launch) : State := withModel (imState xs) 3 weights
def running0 : State := (imState [runsOn 0 eltwise]).setF IM_UNIT_DUTY 0 40
def opsOf (s : State) (x : Launch) : List Byte × List Byte × Option (Nat × Nat) := s.operands 0 x
def runningS : State := (((streams [runsOn 0 fromStore]).setF IM_UNIT_DUTY 0 40).setF DS_STAT_STATE 4 1).setF IM_UNIT_BUSY 0 1
def opsS : List Byte × List Byte × Option (Nat × Nat) := opsOf runningS (runsOn 0 fromStore)
def runningM : State := mapped runningS (List.replicate 64 1)
def opsM : List Byte × List Byte × Option (Nat × Nat) := opsOf runningM (runsOn 0 fromStore)
/-- Model 1 of tenant 0 is LOADING, nothing of it is copied yet, and its launch runs on unit 0. -/
def midCopy (s : State) : State := (withModel s 1 weights).setF DS_STAT_STATE 4 1
def treats (n : Nat) : Launch := { runsOn 4 verdicts with entry := n }
def modelling (base len wkib work target limit : Nat) : State :=
  let s := ((running.setF IM_TCFG_WS_BASE 0 base).setF IM_TCFG_WS_LEN 0 len).setF IM_TCFG_WBW 0 4
  (((s.setF HM_WORK_WKIB 1 wkib).setF HM_WORK_WORK 1 work).setF HM_CAD_TARGET_US 1 target).setF HM_CAD_LIMIT_US 1 limit
def needOf (s : State) (streamed : Bool) : Option Nat := s.needUs 0 (s.getF HM_WORK_WKIB 1) (s.getF HM_WORK_WORK 1) streamed
def starved : State := (modelling 7 2 128 1000 10 1000000).setF MYB_CAPS_IMAGO_OK 0 0
def fits : State := (modelling 7 2 128 1000 10 1000000).setF PW_ALLOC_IMAGO 0 100
def fitsNot : State := (modelling 7 1 128 1000 10 1000000).setF PW_ALLOC_IMAGO 0 100
def unloads : State := ((withModel (imState [runsOn 0 fromStore]) 3 weights).setF DS_STAT_STATE 4 1).setF IM_UNIT_BUSY 0 1
def copying : State := (withModel (mapped running [1, 2, 3]) 1 weights).setF DS_STAT_STATE 4 1
def copied : List Byte := match copying.streamRead 0 0 false 16 with | .ok bs => bs | _ => []
def copyFails : State := (withModel running 1 weights).setF DS_STAT_STATE 4 1
def memErr : State := withModel (imState [runsOn 0 fromStore]) 2 weights
def entry (i req score advice : Nat) : List Byte := leBytes 1 i ++ leBytes 1 0 ++ leBytes 1 req ++ leBytes 1 0 ++ leBytes 4 score ++ leBytes 2 advice ++ leBytes 6 0
/-- The health unit runs a VERDICT launch with this entry; home entry 200 is tenant 0's, in a liveness state. -/
def judging (e : List Byte) (st : Nat) : State :=
  let s := imState [{ treats 1 with desc := dsc 5 0 0 1 2 0 128 0 (7 * 2 ^ 32 + 3) }]
  let s := { s with cores := [(1, { scratch := bytesAt (s.scrBase 5 + 144) e })] }
  let s := ((((s.setF HT_ADDR_VALID 200 1).setF LS_ENT_STATE 200 st).setF GV_SPARE_SPARE 0 5).setF GV_CFG_FLOOR 0 5).setF GV_LEVEL_LEVEL 0 (2 ^ 32)
  sealQ ((s.setF HL_TEN_IRQ 0 1).setF GV_CFG_CAP 0 3)
def judged : Nat → Nat → List Byte := fun req score => entry 200 req score 1024
abbrev advanced (s : State) : State → Prop := fun t => t.launches 0 = (s.launches 0).replace (treats 1) { treats 1 with entry := 2 }
def expels : State := judging (judged 3 0x3F800000) 1
/-- A second launch bears the ticket of the one whose entries are treated, as a restore may bring it. -/
def twins : State := { judging (judged 7 0) 1 with imago := { queues := [(0, [treats 1, lnch eltwise])] } }
def leasing : State :=
  let s := ((sealQ running).setF LS_CFG_EN 0 1).setF LS_CFG_MISS_MAX 0 3
  let s := [0, 1, 2, 255].foldl (fun (z : State) i => ((z.setF HT_ADDR_VALID i 1).setF LS_ENT_STATE i 1).setF LS_ENT_MISSES i (i % 200)) s
  let s := (s.setF LS_ENT_MISSES 255 255).setF LS_ENT_MISSES 2 2
  { s with leases := { renewed := [(0, true)], ticks := s.getF LS_CFG_PERIOD_US 0 } }
def living (st : Nat) : State := (leasing.setF LS_ENT_STATE 255 st).setF HL_TEN_IRQ 0 1

theorem test_launches_hypotheses_1 :
    (imState [lnch eltwise]).inReset = false ∧ (imState [lnch eltwise]).startable 0 0 = some (lnch eltwise) ∧
    (imState [lnch eltwise]).running? 0 = none ∧ (0 < 4 → (imState [lnch eltwise]).flag IM_UNIT_MAPPED_OUT 0 = false) ∧
    (imState [lnch eltwise]).nextTenant 0 = some 0 ∧ parseDesc eltwise = parseDesc (lnch eltwise).desc ∧
    0 = (imState [lnch eltwise]).launchError 0 (lnch eltwise) ∧ (imState [lnch badOp]).inReset = false ∧ (imState [lnch badOp]).running? 3 = none ∧
    (3 < 4 → (imState [lnch badOp]).flag IM_UNIT_MAPPED_OUT 3 = false) ∧ (imState [lnch badOp]).nextTenant 3 = some 0 ∧
    (imState [lnch badOp]).startable 3 0 = some (lnch badOp) ∧ parseDesc badOp = parseDesc (lnch badOp).desc ∧
    1 = (imState [lnch badOp]).launchError 0 (lnch badOp) ∧ running0.inReset = false ∧ running0.running? 0 = some (0, runsOn 0 eltwise) ∧
    parseDesc eltwise = parseDesc (runsOn 0 eltwise).desc ∧
    (40 = (running0.imago.further.getD (running0.getF IM_UNIT_DUTY 0) * if running0.getF IM_TCFG_SHARE 0 = 0 then 16 else running0.getF IM_TCFG_SHARE 0) / 16) ∧
    (False ↔ (parseDesc eltwise).readsStore = true ∧ (running0.modelState 0 (parseDesc eltwise).model = 1 ∧ running0.weightPos 0 (parseDesc eltwise).model < (parseDesc eltwise).storeEnd ∨ running0.modelState 0 (parseDesc eltwise).model = 3 ∧ running0.dsState 0 (3 + (parseDesc eltwise).model) ≠ 1)) ∧
    runningS.inReset = false ∧ runningS.running? 0 = some (0, runsOn 0 fromStore) ∧ parseDesc fromStore = parseDesc (runsOn 0 fromStore).desc ∧
    (40 = (runningS.imago.further.getD (runningS.getF IM_UNIT_DUTY 0) * if runningS.getF IM_TCFG_SHARE 0 = 0 then 16 else runningS.getF IM_TCFG_SHARE 0) / 16) ∧
    (False ↔ (parseDesc fromStore).readsStore = true ∧ (runningS.modelState 0 (parseDesc fromStore).model = 1 ∧ runningS.weightPos 0 (parseDesc fromStore).model < (parseDesc fromStore).storeEnd ∨ runningS.modelState 0 (parseDesc fromStore).model = 3 ∧ runningS.dsState 0 (3 + (parseDesc fromStore).model) ≠ 1)) ∧
    (running0.setF IM_UNIT_DUTY 0 0).inReset = false ∧ (running0.setF IM_UNIT_DUTY 0 0).running? 0 = some (0, runsOn 0 eltwise) ∧
    (0 = ((running0.setF IM_UNIT_DUTY 0 0).imago.further.getD ((running0.setF IM_UNIT_DUTY 0 0).getF IM_UNIT_DUTY 0) * if (running0.setF IM_UNIT_DUTY 0 0).getF IM_TCFG_SHARE 0 = 0 then 16 else (running0.setF IM_UNIT_DUTY 0 0).getF IM_TCFG_SHARE 0) / 16) ∧
    (False ↔ (parseDesc eltwise).readsStore = true ∧ ((running0.setF IM_UNIT_DUTY 0 0).modelState 0 (parseDesc eltwise).model = 1 ∧ (running0.setF IM_UNIT_DUTY 0 0).weightPos 0 (parseDesc eltwise).model < (parseDesc eltwise).storeEnd ∨ (running0.setF IM_UNIT_DUTY 0 0).modelState 0 (parseDesc eltwise).model = 3 ∧ (running0.setF IM_UNIT_DUTY 0 0).dsState 0 (3 + (parseDesc eltwise).model) ≠ 1)) ∧
    (runningS.setF DS_STAT_STATE 4 2).inReset = false ∧ (runningS.setF DS_STAT_STATE 4 2).running? 0 = some (0, runsOn 0 fromStore) := by decide

theorem test_launches_hypotheses_2 :
    (40 = ((runningS.setF DS_STAT_STATE 4 2).imago.further.getD ((runningS.setF DS_STAT_STATE 4 2).getF IM_UNIT_DUTY 0) * if (runningS.setF DS_STAT_STATE 4 2).getF IM_TCFG_SHARE 0 = 0 then 16 else (runningS.setF DS_STAT_STATE 4 2).getF IM_TCFG_SHARE 0) / 16) ∧
    (True ↔ (parseDesc fromStore).readsStore = true ∧ ((runningS.setF DS_STAT_STATE 4 2).modelState 0 (parseDesc fromStore).model = 1 ∧ (runningS.setF DS_STAT_STATE 4 2).weightPos 0 (parseDesc fromStore).model < (parseDesc fromStore).storeEnd ∨ (runningS.setF DS_STAT_STATE 4 2).modelState 0 (parseDesc fromStore).model = 3 ∧ (runningS.setF DS_STAT_STATE 4 2).dsState 0 (3 + (parseDesc fromStore).model) ≠ 1)) ∧
    ((runningS.setF DS_STAT_STATE 4 2).modelState 0 (parseDesc fromStore).model ≠ 1 ∨ (runningS.setF DS_STAT_STATE 4 2).dsState 0 (3 + (parseDesc fromStore).model) ≠ 1) ∧
    (midCopy runningM).inReset = false ∧ (midCopy runningM).running? 0 = some (0, runsOn 0 fromStore) ∧
    (40 = ((midCopy runningM).imago.further.getD ((midCopy runningM).getF IM_UNIT_DUTY 0) * if (midCopy runningM).getF IM_TCFG_SHARE 0 = 0 then 16 else (midCopy runningM).getF IM_TCFG_SHARE 0) / 16) ∧
    (True ↔ (parseDesc fromStore).readsStore = true ∧ ((midCopy runningM).modelState 0 (parseDesc fromStore).model = 1 ∧ (midCopy runningM).weightPos 0 (parseDesc fromStore).model < (parseDesc fromStore).storeEnd ∨ (midCopy runningM).modelState 0 (parseDesc fromStore).model = 3 ∧ (midCopy runningM).dsState 0 (3 + (parseDesc fromStore).model) ≠ 1)) ∧
    (midCopy runningM).modelState 0 (parseDesc fromStore).model = 1 ∧ (midCopy runningM).dsState 0 (3 + (parseDesc fromStore).model) = 1 ∧
    (midCopy runningM).streamDesc 0 1 = (midCopy runningM).streamDesc 0 (parseDesc fromStore).model ∧
    0 = (midCopy runningM).weightPos 0 (parseDesc fromStore).model ∧
    (midCopy runningM).streamed 0 (((midCopy runningM).streamDesc 0 1).src + 0) ((min (parseDesc fromStore).storeEnd ((midCopy runningM).streamDesc 0 1).len - 0 + 63) / 64) = (List.replicate 64 1, none) ∧
    (parseDesc fromStore).storeEnd ≤ (0 : ℕ) + (List.replicate (64 : ℕ) (1 : Byte)).length ∧
    (0 : ℕ) + (List.replicate (64 : ℕ) (1 : Byte)).length < (2 : ℕ) ^ DS_STAT_POS.width ∧ (midCopy runningS).inReset = false ∧
    (midCopy runningS).running? 0 = some (0, runsOn 0 fromStore) ∧
    (40 = ((midCopy runningS).imago.further.getD ((midCopy runningS).getF IM_UNIT_DUTY 0) * if (midCopy runningS).getF IM_TCFG_SHARE 0 = 0 then 16 else (midCopy runningS).getF IM_TCFG_SHARE 0) / 16) ∧
    (True ↔ (parseDesc fromStore).readsStore = true ∧ ((midCopy runningS).modelState 0 (parseDesc fromStore).model = 1 ∧ (midCopy runningS).weightPos 0 (parseDesc fromStore).model < (parseDesc fromStore).storeEnd ∨ (midCopy runningS).modelState 0 (parseDesc fromStore).model = 3 ∧ (midCopy runningS).dsState 0 (3 + (parseDesc fromStore).model) ≠ 1)) ∧
    (midCopy runningS).modelState 0 (parseDesc fromStore).model = 1 ∧ (midCopy runningS).dsState 0 (3 + (parseDesc fromStore).model) = 1 ∧
    (midCopy runningS).streamDesc 0 1 = (midCopy runningS).streamDesc 0 (parseDesc fromStore).model ∧
    0 = (midCopy runningS).weightPos 0 (parseDesc fromStore).model ∧
    (midCopy runningS).streamed 0 (((midCopy runningS).streamDesc 0 1).src + 0) ((min (parseDesc fromStore).storeEnd ((midCopy runningS).streamDesc 0 1).len - 0 + 63) / 64) = ([], some (1, 0)) ∧
    (imState [treats 1]).inReset = false ∧ (imState [treats 1]).running? 4 = some (0, treats 1) ∧ parseDesc verdicts = parseDesc (treats 1).desc ∧
    (treats 1).entry < (parseDesc verdicts).m ∧ (imState [treats 2]).inReset = false ∧ (imState [treats 2]).running? 4 = some (0, treats 2) ∧
    parseDesc verdicts = parseDesc (treats 2).desc := by decide

theorem test_launches_hypotheses_3 :
    (parseDesc verdicts).m ≤ (treats 2).entry := by decide

theorem test_models_hypotheses_1 :
    (fits.setF HM_CTL_STATE 1 2).ready = true ∧ 1 = hm 0 1 ∧ 2 = (fits.setF HM_CTL_STATE 1 2).modelState 0 1 ∧
    128 = (fits.setF HM_CTL_STATE 1 2).getF HM_WORK_WKIB 1 ∧ 1000 = (fits.setF HM_CTL_STATE 1 2).getF HM_WORK_WORK 1 ∧
    some 7 = (fits.setF HM_CTL_STATE 1 2).wsPlace 0 1 2 ∧ needOf fits false = (fits.setF HM_CTL_STATE 1 2).needUs 0 128 1000 (some 7).isNone ∧
    (@Eq Nat (@OfNat.ofNat Nat (nat_lit 1) (instOfNatNat (nat_lit 1))) (@ite Nat (And (@Ne Nat (@OfNat.ofNat Nat (nat_lit 2) (instOfNatNat (nat_lit 2))) (@OfNat.ofNat Nat (nat_lit 0) (instOfNatNat (nat_lit 0)))) (@Ne Nat (@OfNat.ofNat Nat (nat_lit 2) (instOfNatNat (nat_lit 2))) (@OfNat.ofNat Nat (nat_lit 4) (instOfNatNat (nat_lit 4))))) (@instDecidableAnd (@Ne Nat (@OfNat.ofNat Nat (nat_lit 2) (instOfNatNat (nat_lit 2))) (@OfNat.ofNat Nat (nat_lit 0) (instOfNatNat (nat_lit 0)))) (@Ne Nat (@OfNat.ofNat Nat (nat_lit 2) (instOfNatNat (nat_lit 2))) (@OfNat.ofNat Nat (nat_lit 4) (instOfNatNat (nat_lit 4)))) (@instDecidableNot (@Eq Nat (@OfNat.ofNat Nat (nat_lit 2) (instOfNatNat (nat_lit 2))) (@OfNat.ofNat Nat (nat_lit 0) (instOfNatNat (nat_lit 0)))) (instDecidableEqNat (@OfNat.ofNat Nat (nat_lit 2) (instOfNatNat (nat_lit 2))) (@OfNat.ofNat Nat (nat_lit 0) (instOfNatNat (nat_lit 0))))) (@instDecidableNot (@Eq Nat (@OfNat.ofNat Nat (nat_lit 2) (instOfNatNat (nat_lit 2))) (@OfNat.ofNat Nat (nat_lit 4) (instOfNatNat (nat_lit 4)))) (instDecidableEqNat (@OfNat.ofNat Nat (nat_lit 2) (instOfNatNat (nat_lit 2))) (@OfNat.ofNat Nat (nat_lit 4) (instOfNatNat (nat_lit 4)))))) (@OfNat.ofNat Nat (nat_lit 1) (instOfNatNat (nat_lit 1))) (@ite Nat (Or (@Eq Nat (@OfNat.ofNat Nat (nat_lit 128) (instOfNatNat (nat_lit 128))) (@OfNat.ofNat Nat (nat_lit 0) (instOfNatNat (nat_lit 0)))) (@LT.lt Nat instLTNat (@OfNat.ofNat Nat (nat_lit 524288) (instOfNatNat (nat_lit 524288))) (@OfNat.ofNat Nat (nat_lit 128) (instOfNatNat (nat_lit 128))))) (@instDecidableOr (@Eq Nat (@OfNat.ofNat Nat (nat_lit 128) (instOfNatNat (nat_lit 128))) (@OfNat.ofNat Nat (nat_lit 0) (instOfNatNat (nat_lit 0)))) (@LT.lt Nat instLTNat (@OfNat.ofNat Nat (nat_lit 524288) (instOfNatNat (nat_lit 524288))) (@OfNat.ofNat Nat (nat_lit 128) (instOfNatNat (nat_lit 128)))) (instDecidableEqNat (@OfNat.ofNat Nat (nat_lit 128) (instOfNatNat (nat_lit 128))) (@OfNat.ofNat Nat (nat_lit 0) (instOfNatNat (nat_lit 0)))) (Nat.decLt (@OfNat.ofNat Nat (nat_lit 524288) (instOfNatNat (nat_lit 524288))) (@OfNat.ofNat Nat (nat_lit 128) (instOfNatNat (nat_lit 128))))) (@OfNat.ofNat Nat (nat_lit 3) (instOfNatNat (nat_lit 3))) (@ite Nat (∀ (n : Nat), @Eq (Option Nat) (needOf fits false) (@some Nat n) → @LT.lt Nat instLTNat ((fits.setF HM_CTL_STATE (@OfNat.ofNat Nat (nat_lit 1) (instOfNatNat (nat_lit 1))) (@OfNat.ofNat Nat (nat_lit 2) (instOfNatNat (nat_lit 2)))).getF HM_CAD_LIMIT_US (@OfNat.ofNat Nat (nat_lit 1) (instOfNatNat (nat_lit 1)))) n) (@Option.decidableForallMem Nat (@LT.lt Nat instLTNat ((fits.setF HM_CTL_STATE (@OfNat.ofNat Nat (nat_lit 1) (instOfNatNat (nat_lit 1))) (@OfNat.ofNat Nat (nat_lit 2) (instOfNatNat (nat_lit 2)))).getF HM_CAD_LIMIT_US (@OfNat.ofNat Nat (nat_lit 1) (instOfNatNat (nat_lit 1))))) ((fits.setF HM_CTL_STATE (@OfNat.ofNat Nat (nat_lit 1) (instOfNatNat (nat_lit 1))) (@OfNat.ofNat Nat (nat_lit 2) (instOfNatNat (nat_lit 2)))).getF HM_CAD_LIMIT_US (@OfNat.ofNat Nat (nat_lit 1) (instOfNatNat (nat_lit 1)))).decLt (needOf fits false)) (@OfNat.ofNat Nat (nat_lit 4) (instOfNatNat (nat_lit 4))) (@OfNat.ofNat Nat (nat_lit 0) (instOfNatNat (nat_lit 0))))))) ∧
    fits.ready = true ∧ 0 = fits.modelState 0 1 ∧ 128 = fits.getF HM_WORK_WKIB 1 ∧ 1000 = fits.getF HM_WORK_WORK 1 ∧ some 7 = fits.wsPlace 0 1 2 ∧
    needOf fits false = fits.needUs 0 128 1000 (some 7).isNone ∧
    (@Eq Nat (@OfNat.ofNat Nat (nat_lit 0) (instOfNatNat (nat_lit 0))) (@ite Nat (And (@Ne Nat (@OfNat.ofNat Nat (nat_lit 0) (instOfNatNat (nat_lit 0))) (@OfNat.ofNat Nat (nat_lit 0) (instOfNatNat (nat_lit 0)))) (@Ne Nat (@OfNat.ofNat Nat (nat_lit 0) (instOfNatNat (nat_lit 0))) (@OfNat.ofNat Nat (nat_lit 4) (instOfNatNat (nat_lit 4))))) (@instDecidableAnd (@Ne Nat (@OfNat.ofNat Nat (nat_lit 0) (instOfNatNat (nat_lit 0))) (@OfNat.ofNat Nat (nat_lit 0) (instOfNatNat (nat_lit 0)))) (@Ne Nat (@OfNat.ofNat Nat (nat_lit 0) (instOfNatNat (nat_lit 0))) (@OfNat.ofNat Nat (nat_lit 4) (instOfNatNat (nat_lit 4)))) (@instDecidableNot (@Eq Nat (@OfNat.ofNat Nat (nat_lit 0) (instOfNatNat (nat_lit 0))) (@OfNat.ofNat Nat (nat_lit 0) (instOfNatNat (nat_lit 0)))) (instDecidableEqNat (@OfNat.ofNat Nat (nat_lit 0) (instOfNatNat (nat_lit 0))) (@OfNat.ofNat Nat (nat_lit 0) (instOfNatNat (nat_lit 0))))) (@instDecidableNot (@Eq Nat (@OfNat.ofNat Nat (nat_lit 0) (instOfNatNat (nat_lit 0))) (@OfNat.ofNat Nat (nat_lit 4) (instOfNatNat (nat_lit 4)))) (instDecidableEqNat (@OfNat.ofNat Nat (nat_lit 0) (instOfNatNat (nat_lit 0))) (@OfNat.ofNat Nat (nat_lit 4) (instOfNatNat (nat_lit 4)))))) (@OfNat.ofNat Nat (nat_lit 1) (instOfNatNat (nat_lit 1))) (@ite Nat (Or (@Eq Nat (@OfNat.ofNat Nat (nat_lit 128) (instOfNatNat (nat_lit 128))) (@OfNat.ofNat Nat (nat_lit 0) (instOfNatNat (nat_lit 0)))) (@LT.lt Nat instLTNat (@OfNat.ofNat Nat (nat_lit 524288) (instOfNatNat (nat_lit 524288))) (@OfNat.ofNat Nat (nat_lit 128) (instOfNatNat (nat_lit 128))))) (@instDecidableOr (@Eq Nat (@OfNat.ofNat Nat (nat_lit 128) (instOfNatNat (nat_lit 128))) (@OfNat.ofNat Nat (nat_lit 0) (instOfNatNat (nat_lit 0)))) (@LT.lt Nat instLTNat (@OfNat.ofNat Nat (nat_lit 524288) (instOfNatNat (nat_lit 524288))) (@OfNat.ofNat Nat (nat_lit 128) (instOfNatNat (nat_lit 128)))) (instDecidableEqNat (@OfNat.ofNat Nat (nat_lit 128) (instOfNatNat (nat_lit 128))) (@OfNat.ofNat Nat (nat_lit 0) (instOfNatNat (nat_lit 0)))) (Nat.decLt (@OfNat.ofNat Nat (nat_lit 524288) (instOfNatNat (nat_lit 524288))) (@OfNat.ofNat Nat (nat_lit 128) (instOfNatNat (nat_lit 128))))) (@OfNat.ofNat Nat (nat_lit 3) (instOfNatNat (nat_lit 3))) (@ite Nat (∀ (n : Nat), @Eq (Option Nat) (needOf fits false) (@some Nat n) → @LT.lt Nat instLTNat (fits.getF HM_CAD_LIMIT_US (@OfNat.ofNat Nat (nat_lit 1) (instOfNatNat (nat_lit 1)))) n) (@Option.decidableForallMem Nat (@LT.lt Nat instLTNat (fits.getF HM_CAD_LIMIT_US (@OfNat.ofNat Nat (nat_lit 1) (instOfNatNat (nat_lit 1))))) (fits.getF HM_CAD_LIMIT_US (@OfNat.ofNat Nat (nat_lit 1) (instOfNatNat (nat_lit 1)))).decLt (needOf fits false)) (@OfNat.ofNat Nat (nat_lit 4) (instOfNatNat (nat_lit 4))) (@OfNat.ofNat Nat (nat_lit 0) (instOfNatNat (nat_lit 0))))))) ∧
    fits.wsPlace 0 1 2 = some 7 ∧ fits.modelState 0 1 = 0 ∧ unloads.ready = true ∧ unloads.modelState 0 1 ≠ 0 ∧ copying.inReset = false ∧
    weights = copying.model 0 1 ∧ smGet none copying.imago.streams 1 = none ∧ copying.modelState 0 1 = 1 ∧ copying.dsState 0 (3 + 1) = 1 ∧
    0 = copying.weightPos 0 1 ∧
    copying.streamed 0 ((copying.streamDesc 0 1).src + 0) (((copying.streamDesc 0 1).len - 0 + 63) / 64) = (copied, none) ∧
    copyFails.inReset = false ∧ copyFails.modelState 0 1 = 1 ∧ copyFails.dsState 0 (3 + 1) = 1 ∧ 0 = copyFails.weightPos 0 1 := by decide

theorem test_models_hypotheses_2 :
    copyFails.streamed 0 ((copyFails.streamDesc 0 1).src + 0) (((copyFails.streamDesc 0 1).len - 0 + 63) / 64) = ([], some (1, 0)) ∧
    memErr.inReset = false ∧ memErr.modelState 0 1 = 2 ∧ unloads.inReset = false := by decide

theorem test_verdictsAndGovernor_hypotheses_1 :
    (judging (judged 7 0) 1).inReset = false ∧ (List.find? (fun x => x.unit == some 4) ((judging (judged 7 0) 1).launches 0) = some (treats 1)) ∧
    parseDesc verdicts = parseDesc (treats 1).desc ∧ (treats 1).entry < (parseDesc verdicts).m ∧
    judged 7 0 = (judging (judged 7 0) 1).scrBytes (treats 1).ctx ((parseDesc verdicts).aOfs + 16 * (treats 1).entry) 16 ∧
    200 = leNat (List.take 1 (judged 7 0)) ∧ 7 = leNat (List.take 1 (List.drop 2 (judged 7 0))) ∧ 0 = leNat (List.take 4 (List.drop 4 (judged 7 0))) ∧
    1024 = leNat (List.take 2 (List.drop 8 (judged 7 0))) ∧
    (True ↔ 4 < 7 ∨ leNat (List.take 1 (List.drop 1 (judged 7 0))) ≠ 0 ∨ leNat (List.take 1 (List.drop 3 (judged 7 0))) ≠ 0 ∨ leNat (List.take 6 (List.drop 10 (judged 7 0))) ≠ 0 ∨ 1024 < 1024 ∨ 1065353216 < 0 ∧ 0 ≠ 2147483648 ∨ (judging (judged 7 0) 1).homeValid 200 = false ∨ (judging (judged 7 0) 1).homeTenant 200 ≠ 0) ∧
    (judging (judged 1 1065353217) 1).inReset = false ∧
    (List.find? (fun x => x.unit == some 4) ((judging (judged 1 1065353217) 1).launches 0) = some (treats 1)) ∧
    judged 1 1065353217 = (judging (judged 1 1065353217) 1).scrBytes (treats 1).ctx ((parseDesc verdicts).aOfs + 16 * (treats 1).entry) 16 ∧
    200 = leNat (List.take 1 (judged 1 1065353217)) ∧ 1 = leNat (List.take 1 (List.drop 2 (judged 1 1065353217))) ∧
    1065353217 = leNat (List.take 4 (List.drop 4 (judged 1 1065353217))) ∧ 1024 = leNat (List.take 2 (List.drop 8 (judged 1 1065353217))) ∧
    (True ↔ 4 < 1 ∨ leNat (List.take 1 (List.drop 1 (judged 1 1065353217))) ≠ 0 ∨ leNat (List.take 1 (List.drop 3 (judged 1 1065353217))) ≠ 0 ∨ leNat (List.take 6 (List.drop 10 (judged 1 1065353217))) ≠ 0 ∨ 1024 < 1024 ∨ 1065353216 < 1065353217 ∧ 1065353217 ≠ 2147483648 ∨ (judging (judged 1 1065353217) 1).homeValid 200 = false ∨ (judging (judged 1 1065353217) 1).homeTenant 200 ≠ 0) ∧
    (judging (judged 1 1065353216) 3).inReset = false ∧
    (List.find? (fun x => x.unit == some 4) ((judging (judged 1 1065353216) 3).launches 0) = some (treats 1)) ∧
    judged 1 1065353216 = (judging (judged 1 1065353216) 3).scrBytes (treats 1).ctx ((parseDesc verdicts).aOfs + 16 * (treats 1).entry) 16 ∧
    200 = leNat (List.take 1 (judged 1 1065353216)) ∧ 1 = leNat (List.take 1 (List.drop 2 (judged 1 1065353216))) ∧
    1065353216 = leNat (List.take 4 (List.drop 4 (judged 1 1065353216))) ∧ 1024 = leNat (List.take 2 (List.drop 8 (judged 1 1065353216))) ∧
    (False ↔ 4 < 1 ∨ leNat (List.take 1 (List.drop 1 (judged 1 1065353216))) ≠ 0 ∨ leNat (List.take 1 (List.drop 3 (judged 1 1065353216))) ≠ 0 ∨ leNat (List.take 6 (List.drop 10 (judged 1 1065353216))) ≠ 0 ∨ 1024 < 1024 ∨ 1065353216 < 1065353216 ∧ 1065353216 ≠ 2147483648 ∨ (judging (judged 1 1065353216) 3).homeValid 200 = false ∨ (judging (judged 1 1065353216) 3).homeTenant 200 ≠ 0) ∧
    (judging (judged 1 1065353216) 3).liveness 200 ∈ [3, 4] ∧ expels.inReset = false ∧
    (List.find? (fun x => x.unit == some 4) (expels.launches 0) = some (treats 1)) ∧
    judged 3 1065353216 = expels.scrBytes (treats 1).ctx ((parseDesc verdicts).aOfs + 16 * (treats 1).entry) 16 := by decide

theorem test_verdictsAndGovernor_hypotheses_2 :
    200 = leNat (List.take 1 (judged 3 1065353216)) ∧ 3 = leNat (List.take 1 (List.drop 2 (judged 3 1065353216))) ∧
    1065353216 = leNat (List.take 4 (List.drop 4 (judged 3 1065353216))) ∧ 1024 = leNat (List.take 2 (List.drop 8 (judged 3 1065353216))) ∧
    (False ↔ 4 < 3 ∨ leNat (List.take 1 (List.drop 1 (judged 3 1065353216))) ≠ 0 ∨ leNat (List.take 1 (List.drop 3 (judged 3 1065353216))) ≠ 0 ∨ leNat (List.take 6 (List.drop 10 (judged 3 1065353216))) ≠ 0 ∨ 1024 < 1024 ∨ 1065353216 < 1065353216 ∧ 1065353216 ≠ 2147483648 ∨ expels.homeValid 200 = false ∨ expels.homeTenant 200 ≠ 0) ∧
    expels.liveness 200 ∉ [3, 4] ∧ (false = decide (3 = 3 ∧ expels.flag LS_ENT_EXPEL_SENT 200 = true)) ∧
    (0 = if 3 ≠ 3 ∨ false = true then 0 else if expels.getF GV_SPARE_SPARE 0 < expels.getF GV_CFG_FLOOR 0 then 1 else if expels.getF GV_CFG_CAP 0 = 0 ∨ expels.getF GV_LEVEL_LEVEL 0 < 2 ^ 32 then 2 else 0) ∧
    (3 = if 0 = 0 then 3 else 4) ∧ (0 = ((if 0 = 0 then 0 else 1) + if 0 = 2 then 2 else 0) + if false = true then 4 else 0) ∧ twins.inReset = false ∧
    (List.find? (fun x => x.unit == some 4) (twins.launches 0) = some (treats 1)) ∧
    judged 7 0 = twins.scrBytes (treats 1).ctx ((parseDesc verdicts).aOfs + 16 * (treats 1).entry) 16 ∧
    (True ↔ 4 < 7 ∨ leNat (List.take 1 (List.drop 1 (judged 7 0))) ≠ 0 ∨ leNat (List.take 1 (List.drop 3 (judged 7 0))) ≠ 0 ∨ leNat (List.take 6 (List.drop 10 (judged 7 0))) ≠ 0 ∨ 1024 < 1024 ∨ 1065353216 < 0 ∧ 0 ≠ 2147483648 ∨ twins.homeValid 200 = false ∨ twins.homeTenant 200 ≠ 0) ∧
    expels.ready = true := by decide

theorem test_leasesAndLiveness_hypotheses :
    leasing.inReset = false ∧ leasing.flag LS_CFG_EN 0 = true ∧ leasing.getF LS_CFG_PERIOD_US 0 ≤ leasing.leases.ticks ∧ (living 0).ready = true ∧
    2 = Fld.of (fld LS_ENT_VIEW 2) LS_ENT_VIEW ∧ Fld.of (fld LS_ENT_VIEW 2) LS_ENT_DECIDE = 0 ∧ 0 = (living 0).liveness 255 ∧
    (living 1).ready = true ∧ 1 = (living 1).liveness 255 ∧ (living 4).ready = true ∧ 1 = Fld.of (fld LS_ENT_DECIDE 1) LS_ENT_DECIDE ∧
    Fld.of (fld LS_ENT_DECIDE 1) LS_ENT_VIEW = 0 ∧ 4 = (living 4).liveness 255 ∧ 4 ∈ [3, 4] ∧ (living 3).ready = true ∧
    2 = Fld.of (fld LS_ENT_DECIDE 2) LS_ENT_DECIDE ∧ Fld.of (fld LS_ENT_DECIDE 2) LS_ENT_VIEW = 0 ∧ 3 = (living 3).liveness 255 ∧
    3 = Fld.of (fld LS_ENT_DECIDE 3) LS_ENT_DECIDE ∧ Fld.of (fld LS_ENT_DECIDE 3) LS_ENT_VIEW = 0 ∧
    (3 = 1 ∧ 3 ∉ [3, 4] ∨ 3 = 2 ∧ 3 ≠ 3 ∨ 3 = 3) := by decide

/-! ### Pairing -/

/-- The block in a pairing state, paired with block 9 as pair 3 over both lanes; home entries 3 and 200 are valid and the partner's, 4 is this block's. -/
def paired (st : Nat) : State :=
  let s := (((running.setF MYB_BLKID_LOCK 0 1).setF PR_STATUS_STATE 0 st).setF PR_LINK_LANES 0 3).setF PR_CTL_PAIR_ID 0 3
  let s := ((s.setF PR_PEER_PEER_ID 0 9).setF PR_CTL_EN 0 1).setF PR_CTL_ADMIT_LEAD 0 5
  let s := [3, 4, 200].foldl (fun (z : State) i => (z.setF HT_ADDR_VALID i 1).setF LS_ENT_STATE i 1) s
  let s := ((s.setReg .PR_OWN 0 8).setReg .PR_OWN 3 256).setF HT_CRED_CEPOCH 3 255
  { s with pair := { s.pair with image := { s.pair.image with lives := [(3, { state := 3, jobView := 2, expelSent := 1, mseq := 4 })] } } }
def pairEn : Word := fld PR_CTL_EN 1 ||| fld PR_CTL_PAIR_ID 77
def ctlNew (d : Word) (s : State) : Word := storeFields false d allBits Reg.PR_CTL.fields (s.getReg .PR_CTL 0)
def pairOffSt : State := ((paired 0).setF PR_LINK_LANES 0 0).setF PR_CTL_EN 0 0
def unlockedOff : State := pairOffSt.setF MYB_BLKID_LOCK 0 0
/-- Two messages wait behind one that a frame has carried. -/
def mirroring (st : Nat) (extra : List MirMsg) : State :=
  { paired st with mtx := { base := 0xFFFFFFFF, framed := 1, unacked := [(500, .scAdd 1 2 3), (700, .leave), (900, .govCharge 1 2 3)], extra := extra } }
def readyPeer : State := { paired 6 with pair := { (paired 6).pair with peerReady := true } }
def beat (mirror : Bool) (st : Nat) : Beat := { mirror := mirror, blockId := 9, pairId := 3, tx := 70000, epoch := 0, quality := 2, state := st, joinReady := false, locked := true, ack := 0, echo := 50000, turn := 100, receipt := 71000 }
def strange (mirror : Bool) : Beat := { beat mirror 2 with blockId := 8 }
def adopting : State := { (paired 5).setF PR_CTL_ADOPT_TIME 0 1 with pair := { exch := List.replicate 63 (5000, -4), echo := 3 } }
def heard : State := { (paired 2).setF PR_STATUS_MISS_MIR 0 15 with pair := { seenFabric := true } }
def late : State := { mirroring 2 [] with time := { running.time with raw := 7000 } }
def mframe (ms : List MirMsg) : MirFrame := { blockId := 9, pairId := 3, mseq := 0, ack := 0, msgs := ms }
def tagged : MirFrame := { mframe [.leave] with tagged := true }
def early : MirFrame := { mframe [.govCharge 1 2 3] with mseq := 5 }

theorem test_pairingCommands_hypotheses_1 :
    pairOffSt.ready = true ∧ Fld.of pairEn PR_CTL_EN = 1 ∧
    ctlNew pairEn pairOffSt = storeFields false pairEn allBits Reg.PR_CTL.fields (pairOffSt.getReg Reg.PR_CTL 0) ∧ pairOffSt.pairState = 0 ∧
    pairOffSt.locked = true ∧ unlockedOff.ready = true ∧
    ctlNew pairEn unlockedOff = storeFields false pairEn allBits Reg.PR_CTL.fields (unlockedOff.getReg Reg.PR_CTL 0) ∧ unlockedOff.pairState = 0 ∧
    unlockedOff.locked = false ∧ (paired 2).ready = true ∧
    ctlNew pairEn (paired 2) = storeFields false pairEn allBits Reg.PR_CTL.fields ((paired 2).getReg Reg.PR_CTL 0) ∧ (paired 2).pairState ≠ 0 ∧
    Fld.of (fld PR_CTL_PAIR_ID 77) PR_CTL_EN = 0 ∧ Fld.of 0 PR_CTL_EN = 0 ∧ (mirroring 5 []).ready = true ∧
    Fld.of (fld PR_CMD_LEAVE 1) PR_CMD_LEAVE = 1 ∧ Fld.of (fld PR_CMD_LEAVE 1) PR_CMD_YIELD = 0 ∧ Fld.of (fld PR_CMD_LEAVE 1) PR_CMD_TAKE = 0 ∧
    Fld.of (fld PR_CMD_LEAVE 1) PR_CMD_ADMIT = 0 ∧ (mirroring 5 []).mirrors = true ∧ (paired 4).ready = true ∧ (paired 4).pairState = 4 ∧
    (paired 3).ready = true ∧ ((paired 3).pairState = 1 ∨ (paired 3).pairState = 3) ∧ (paired 0).ready = true ∧ (paired 0).mirrors = false ∧
    (paired 0).pairState ∉ [1, 3, 4] ∧ (mirroring 3 []).ready = true ∧ Fld.of (fld PR_CMD_YIELD 1) PR_CMD_LEAVE = 0 ∧
    Fld.of (fld PR_CMD_YIELD 1) PR_CMD_YIELD = 1 := by decide

theorem test_pairingCommands_hypotheses_2 :
    Fld.of (fld PR_CMD_YIELD 1) PR_CMD_TAKE = 0 ∧ Fld.of (fld PR_CMD_YIELD 1) PR_CMD_ADMIT = 0 ∧ (mirroring 3 []).pairState = 3 ∧
    (paired 2).pairState ≠ 3 ∧ ((paired 4).setF PR_CTL_AUTO 0 0).ready = true ∧ Fld.of (fld PR_CMD_TAKE 1) PR_CMD_LEAVE = 0 ∧
    Fld.of (fld PR_CMD_TAKE 1) PR_CMD_YIELD = 0 ∧ Fld.of (fld PR_CMD_TAKE 1) PR_CMD_TAKE = 1 ∧ Fld.of (fld PR_CMD_TAKE 1) PR_CMD_ADMIT = 0 ∧
    ((paired 4).setF PR_CTL_AUTO 0 0).pairState = 4 ∧ ((paired 4).setF PR_CTL_AUTO 0 0).flag PR_CTL_AUTO 0 = false ∧
    ((paired 4).setF PR_CTL_AUTO 0 1).ready = true ∧
    (((paired 4).setF PR_CTL_AUTO 0 1).pairState ≠ 4 ∨ ((paired 4).setF PR_CTL_AUTO 0 1).flag PR_CTL_AUTO 0 = true) ∧ readyPeer.ready = true ∧
    Fld.of (fld PR_CMD_ADMIT 1) PR_CMD_LEAVE = 0 ∧ Fld.of (fld PR_CMD_ADMIT 1) PR_CMD_YIELD = 0 ∧ Fld.of (fld PR_CMD_ADMIT 1) PR_CMD_TAKE = 0 ∧
    Fld.of (fld PR_CMD_ADMIT 1) PR_CMD_ADMIT = 1 ∧ readyPeer.pairState = 6 ∧ readyPeer.pair.peerReady = true ∧ readyPeer.pair.admitAt = none ∧
    (paired 6).ready = true ∧ ((paired 6).pairState ≠ 6 ∨ (paired 6).pair.peerReady = false ∨ (paired 6).pair.admitAt ≠ none) ∧
    (paired 1).inReset = false ∧ (paired 1).pairState ≠ 0 ∧ (paired 2).inReset = false ∧ (paired 2).pair.failedLanes / 2 ^ 1 % 2 = 0 := by decide

theorem test_heartbeatsAndFrames_hypotheses_1 :
    (paired 2).inReset = false ∧ (paired 2).pairState ≠ 0 ∧ ((strange true).mirror = true → (paired 2).mirrorUp = true) ∧
    (False ↔ (strange true).pairId = (paired 2).getF PR_CTL_PAIR_ID 0 ∧ (strange true).blockId = (paired 2).getF PR_PEER_PEER_ID 0) ∧
    (strange true).mirror = true ∧ ((strange false).mirror = true → (paired 2).mirrorUp = true) ∧
    (False ↔ (strange false).pairId = (paired 2).getF PR_CTL_PAIR_ID 0 ∧ (strange false).blockId = (paired 2).getF PR_PEER_PEER_ID 0) ∧
    (strange false).mirror = false ∧ ((beat true 2).mirror = true → (paired 2).mirrorUp = true) ∧
    (True ↔ (beat true 2).pairId = (paired 2).getF PR_CTL_PAIR_ID 0 ∧ (beat true 2).blockId = (paired 2).getF PR_PEER_PEER_ID 0) ∧
    (1 = if (paired 2).pair.seenMirror = true then (paired 2).getF PR_STATUS_MISS_MIR 0 else min ((paired 2).getF PR_STATUS_MISS_MIR 0 + 1) 63) ∧
    (1 = if ((paired 2).pair.seenMirror || (paired 2).pair.seenFabric) = true then (paired 2).getF PR_STATUS_MISS_BOTH 0 else min ((paired 2).getF PR_STATUS_MISS_BOTH 0 + 1) 63) ∧
    ((paired 2).pairState = 2 → 1 < 16) ∧ (mirroring 2 []).inReset = false ∧
    { regs := (mirroring 2 []).regs, time := (mirroring 2 []).time, qm := (mirroring 2 []).qm, win := (mirroring 2 []).win, ex := (mirroring 2 []).ex, ctxs := (mirroring 2 []).ctxs, cores := (mirroring 2 []).cores, mbox := (mirroring 2 []).mbox, load := (mirroring 2 []).load, saves := (mirroring 2 []).saves, restores := (mirroring 2 []).restores, taps := (mirroring 2 []).taps, funnel := (mirroring 2 []).funnel, seqrs := (mirroring 2 []).seqrs, ledgers := (mirroring 2 []).ledgers, watches := (mirroring 2 []).watches, salt := (mirroring 2 []).salt, host := (mirroring 2 []).host, memBad := (mirroring 2 []).memBad, imago := (mirroring 2 []).imago, leases := (mirroring 2 []).leases, mtx := { unacked := [(0, MirMsg.leave), (600, MirMsg.leave)], framed := 1 : MirrorTx }, pair := (mirroring 2 []).pair, board := (mirroring 2 []).board, us := (mirroring 2 []).us, inReset := (mirroring 2 []).inReset, out := (mirroring 2 []).out, hostResp := (mirroring 2 []).hostResp, freeCtr := (mirroring 2 []).freeCtr, pending := (mirroring 2 []).pending : State }.frameDue = true ∧
    (paired 2).frameDue = false ∧ late.inReset = false ∧ late.retransmitDue = true ∧ (paired 2).mirrorUp = true ∧
    (False ↔ (mframe []).etherType = 34997 ∧ (mframe []).tagged = false ∧ (mframe []).bytes ≤ 9216 ∧ 4 = (paired 2).getF PR_CTL_PAIR_ID 0 ∧ (mframe []).blockId = (paired 2).getF PR_PEER_PEER_ID 0) ∧
    (paired 4).inReset = false ∧ (paired 4).pairState ≠ 0 ∧ (paired 4).mirrorUp = true ∧
    (True ↔ (mframe [MirMsg.leave]).etherType = 34997 ∧ (mframe [MirMsg.leave]).tagged = false ∧ (mframe [MirMsg.leave]).bytes ≤ 9216 ∧ (mframe [MirMsg.leave]).pairId = (paired 4).getF PR_CTL_PAIR_ID 0 ∧ (mframe [MirMsg.leave]).blockId = (paired 4).getF PR_PEER_PEER_ID 0) ∧
    (paired 4).mirrors = false ∧ ((paired 4).pairState ≠ 3 ∨ MirMsg.leave ∉ (mframe [MirMsg.leave]).msgs) ∧ (paired 3).inReset = false ∧
    (paired 3).pairState ≠ 0 ∧ (paired 3).mirrorUp = true ∧
    (True ↔ (mframe [MirMsg.leave]).etherType = 34997 ∧ (mframe [MirMsg.leave]).tagged = false ∧ (mframe [MirMsg.leave]).bytes ≤ 9216 ∧ (mframe [MirMsg.leave]).pairId = (paired 3).getF PR_CTL_PAIR_ID 0 ∧ (mframe [MirMsg.leave]).blockId = (paired 3).getF PR_PEER_PEER_ID 0) := by decide

theorem test_heartbeatsAndFrames_hypotheses_2 :
    (paired 3).pairState = 3 ∧ MirMsg.leave ∈ (mframe [MirMsg.leave]).msgs ∧
    (True ↔ early.etherType = 34997 ∧ early.tagged = false ∧ early.bytes ≤ 9216 ∧ early.pairId = (paired 2).getF PR_CTL_PAIR_ID 0 ∧ early.blockId = (paired 2).getF PR_PEER_PEER_ID 0) ∧
    (paired 2).mirrors = true ∧ (∀ j < early.msgs.length, (early.mseq + j) % 2 ^ 32 ≠ (paired 2).pair.expect) ∧ (mirroring 2 []).pairState ≠ 0 ∧
    (mirroring 2 []).mirrorUp = true ∧
    (True ↔ (mframe [MirMsg.scAdd 5 1 1, MirMsg.soft 4080 7 8]).etherType = 34997 ∧ (mframe [MirMsg.scAdd 5 1 1, MirMsg.soft 4080 7 8]).tagged = false ∧ (mframe [MirMsg.scAdd 5 1 1, MirMsg.soft 4080 7 8]).bytes ≤ 9216 ∧ (mframe [MirMsg.scAdd 5 1 1, MirMsg.soft 4080 7 8]).pairId = (mirroring 2 []).getF PR_CTL_PAIR_ID 0 ∧ (mframe [MirMsg.scAdd 5 1 1, MirMsg.soft 4080 7 8]).blockId = (mirroring 2 []).getF PR_PEER_PEER_ID 0) ∧
    (mirroring 2 []).mirrors = true ∧ (mframe [MirMsg.scAdd 5 1 1, MirMsg.soft 4080 7 8]).mseq % 2 ^ 32 = (mirroring 2 []).pair.expect ∧
    MirMsg.leave ∉ (mframe [MirMsg.scAdd 5 1 1, MirMsg.soft 4080 7 8]).msgs ∧
    (True ↔ (mframe [MirMsg.leave]).etherType = 34997 ∧ (mframe [MirMsg.leave]).tagged = false ∧ (mframe [MirMsg.leave]).bytes ≤ 9216 ∧ (mframe [MirMsg.leave]).pairId = (mirroring 2 []).getF PR_CTL_PAIR_ID 0 ∧ (mframe [MirMsg.leave]).blockId = (mirroring 2 []).getF PR_PEER_PEER_ID 0) ∧
    (mframe [MirMsg.leave]).mseq % 2 ^ 32 = (mirroring 2 []).pair.expect ∧ (mframe [MirMsg.leave]).msgs = [MirMsg.leave] := by decide

/-! ### Mirror messages -/

/-- `paired` with MSEQ 2^32 − 1 expected. -/
def last (st : Nat) : State := { paired st with pair := { (paired st).pair with expect := 2 ^ 32 - 1 } }
def counting : State := (((paired 2).setF TN_STATUS_STATE 0 1).setF SC_PART_LEN 0 8).setF SC_COUNT_VALUE 7 (2 ^ 48 - 2)
def ledgerMsg (s : State) (n : Nat) : ImgTen := { s.imgTen 63 with lgState := 2, pass := 7, lgNext := 8, pbase := 9, epoch := 3, mseq := n }
def waitsPass (lg : Nat) : State := { (paired 2).setF LG_STATUS_STATE 63 lg with pair := { (paired 2).pair with started := [1, 63] } }
def tenImg (s : State) (st : Nat) : ImgTen := { s.imgTen 63 with state := st, tnCfg := 8, stream := 9, mseq := 0 }
def mirrorsCtrs : State := (((paired 6).setF PR_TEN_SC_MIRROR 63 1).setF SC_PART_BASE 63 100).setF SC_PART_LEN 63 2
def homeImg (n : Nat) : ImgLive := { state := 2, jobView := 1, expelSent := 1, mseq := n }
def inSnapshot (st : Nat) : State := { paired st with pair := { (paired st).pair with inSnap := true, complete := 0, asked := 1 } }
def homeWord : Word := fld HT_ADDR_VALID 1 ||| fld HT_ADDR_ADDR 77
def govImg (s : State) (n : Nat) : ImgTen := { s.imgTen 63 with level := 5, spare := 6, mseq := n }
def govLoad : State := (inSnapshot 5).setF PR_TEN_GOV_MIRROR 63 1
def loadsCtr : State := { counting with pair := { counting.pair with asked := 1 } }
def heldWin : State := (((paired 5).setF PR_TEN_WIN_MIRROR 63 1).setF TN_STATUS_STATE 63 1).setF WN_CFG_EN 63 1
def instantDue (st : Nat) (at_ : Nat) : State := { heldWin.setF PR_STATUS_STATE 0 st with pair := { heldWin.pair with admitAt := some ⟨at_, 0⟩ } }

theorem test_mirrorMessages_hypotheses_1 :
    (mirroring 3 []).inReset = false ∧ (mirroring 3 []).pairState = 3 ∧ (paired 3).mirrors = false ∧
    (MirMsg.snapBegin 4 ≠ MirMsg.leave ∨ (paired 3).pairState ≠ 3) ∧ (mirroring 2 []).inReset = false ∧ (mirroring 2 []).mirrors = true ∧
    0 = (mirroring 2 []).pair.expect ∧ counting.inReset = false ∧ counting.mirrors = true ∧ 0 = counting.pair.expect ∧ (paired 5).inReset = false ∧
    (paired 5).mirrors = true ∧ 0 = (paired 5).pair.expect ∧
    ledgerMsg (paired 5) 0 = { state := ((paired 5).imgTen 63).state, tnCfg := ((paired 5).imgTen 63).tnCfg, stream := ((paired 5).imgTen 63).stream, wnCfg := ((paired 5).imgTen 63).wnCfg, cur := ((paired 5).imgTen 63).cur, next := ((paired 5).imgTen 63).next, lgState := 2, pass := 7, lgNext := 8, pbase := 9, epoch := 3, level := ((paired 5).imgTen 63).level, spare := ((paired 5).imgTen 63).spare } ∧
    (63 ∉ (paired 5).pair.started ∨ true = false) ∧ (waitsPass 4).inReset = false ∧ (waitsPass 4).mirrors = true ∧ 0 = (waitsPass 4).pair.expect ∧
    ledgerMsg (waitsPass 4) 0 = { state := ((waitsPass 4).imgTen 63).state, tnCfg := ((waitsPass 4).imgTen 63).tnCfg, stream := ((waitsPass 4).imgTen 63).stream, wnCfg := ((waitsPass 4).imgTen 63).wnCfg, cur := ((waitsPass 4).imgTen 63).cur, next := ((waitsPass 4).imgTen 63).next, lgState := 2, pass := 7, lgNext := 8, pbase := 9, epoch := 3, level := ((waitsPass 4).imgTen 63).level, spare := ((waitsPass 4).imgTen 63).spare } ∧
    63 ∈ (waitsPass 4).pair.started ∧ (waitsPass 4).lgState 63 ≠ 1 ∧ (waitsPass 1).inReset = false ∧ (waitsPass 1).mirrors = true ∧
    0 = (waitsPass 1).pair.expect ∧
    ledgerMsg (waitsPass 1) 0 = { state := ((waitsPass 1).imgTen 63).state, tnCfg := ((waitsPass 1).imgTen 63).tnCfg, stream := ((waitsPass 1).imgTen 63).stream, wnCfg := ((waitsPass 1).imgTen 63).wnCfg, cur := ((waitsPass 1).imgTen 63).cur, next := ((waitsPass 1).imgTen 63).next, lgState := 2, pass := 7, lgNext := 8, pbase := 9, epoch := 3, level := ((waitsPass 1).imgTen 63).level, spare := ((waitsPass 1).imgTen 63).spare } ∧
    63 ∈ (waitsPass 1).pair.started ∧ (waitsPass 1).lgState 63 = 1 ∧ (paired 6).inReset = false ∧ (paired 6).mirrors = true ∧
    0 = (paired 6).pair.expect := by decide

theorem test_mirrorMessages_hypotheses_2 :
    tenImg (paired 6) 7 = { state := 7, tnCfg := 8, stream := 9, wnCfg := ((paired 6).imgTen 63).wnCfg, cur := ((paired 6).imgTen 63).cur, next := ((paired 6).imgTen 63).next, lgState := ((paired 6).imgTen 63).lgState, pass := ((paired 6).imgTen 63).pass, lgNext := ((paired 6).imgTen 63).lgNext, pbase := ((paired 6).imgTen 63).pbase, epoch := ((paired 6).imgTen 63).epoch, level := ((paired 6).imgTen 63).level, spare := ((paired 6).imgTen 63).spare } ∧
    (False ↔ true = true ∧ (paired 6).flag PR_TEN_SC_MIRROR 63 = true ∧ ((paired 6).pairState = 2 ∨ (paired 6).pairState = 6)) ∧
    mirrorsCtrs.inReset = false ∧ mirrorsCtrs.mirrors = true ∧ 0 = mirrorsCtrs.pair.expect ∧
    tenImg mirrorsCtrs 1 = { state := 1, tnCfg := 8, stream := 9, wnCfg := (mirrorsCtrs.imgTen 63).wnCfg, cur := (mirrorsCtrs.imgTen 63).cur, next := (mirrorsCtrs.imgTen 63).next, lgState := (mirrorsCtrs.imgTen 63).lgState, pass := (mirrorsCtrs.imgTen 63).pass, lgNext := (mirrorsCtrs.imgTen 63).lgNext, pbase := (mirrorsCtrs.imgTen 63).pbase, epoch := (mirrorsCtrs.imgTen 63).epoch, level := (mirrorsCtrs.imgTen 63).level, spare := (mirrorsCtrs.imgTen 63).spare } ∧
    (True ↔ true = true ∧ mirrorsCtrs.flag PR_TEN_SC_MIRROR 63 = true ∧ (mirrorsCtrs.pairState = 2 ∨ mirrorsCtrs.pairState = 6)) ∧
    (inSnapshot 5).inReset = false ∧ (inSnapshot 5).mirrors = true ∧ 0 = (inSnapshot 5).pair.expect ∧
    homeImg 0 = { state := 2, jobView := 1, expelSent := 1 } ∧ (inSnapshot 5).pair.inSnap = true ∧ (paired 5).pair.inSnap = false ∧
    (homeWord = (paired 5).getReg Reg.HT_ADDR 255 ∨ (paired 5).duplicates 255 homeWord = false) ∧
    (paired 5).getReg Reg.HT_ADDR 200 ≠ (paired 5).getReg Reg.HT_ADDR 201 ∧ (paired 5).duplicates 201 ((paired 5).getReg Reg.HT_ADDR 200) = true ∧
    ((paired 2).setF GV_LEVEL_LEVEL 63 (5 * 2 ^ 32)).inReset = false ∧ ((paired 2).setF GV_LEVEL_LEVEL 63 (5 * 2 ^ 32)).mirrors = true ∧
    0 = ((paired 2).setF GV_LEVEL_LEVEL 63 (5 * 2 ^ 32)).pair.expect ∧ (paired 2).inReset = false ∧ (paired 2).mirrors = true ∧
    0 = (paired 2).pair.expect ∧
    govImg (paired 2) 0 = { state := ((paired 2).imgTen 63).state, tnCfg := ((paired 2).imgTen 63).tnCfg, stream := ((paired 2).imgTen 63).stream, wnCfg := ((paired 2).imgTen 63).wnCfg, cur := ((paired 2).imgTen 63).cur, next := ((paired 2).imgTen 63).next, lgState := ((paired 2).imgTen 63).lgState, pass := ((paired 2).imgTen 63).pass, lgNext := ((paired 2).imgTen 63).lgNext, pbase := ((paired 2).imgTen 63).pbase, epoch := ((paired 2).imgTen 63).epoch, level := 5, spare := 6 } ∧
    (False ↔ (paired 2).pairState = 5 ∧ (paired 2).pair.inSnap = true ∧ (paired 2).flag PR_TEN_GOV_MIRROR 63 = true) ∧ govLoad.inReset = false ∧
    govLoad.mirrors = true ∧ 0 = govLoad.pair.expect ∧
    govImg govLoad 0 = { state := (govLoad.imgTen 63).state, tnCfg := (govLoad.imgTen 63).tnCfg, stream := (govLoad.imgTen 63).stream, wnCfg := (govLoad.imgTen 63).wnCfg, cur := (govLoad.imgTen 63).cur, next := (govLoad.imgTen 63).next, lgState := (govLoad.imgTen 63).lgState, pass := (govLoad.imgTen 63).pass, lgNext := (govLoad.imgTen 63).lgNext, pbase := (govLoad.imgTen 63).pbase, epoch := (govLoad.imgTen 63).epoch, level := 5, spare := 6 } ∧
    (True ↔ govLoad.pairState = 5 ∧ govLoad.pair.inSnap = true ∧ govLoad.flag PR_TEN_GOV_MIRROR 63 = true) ∧
    (False ↔ ((paired 2).pairState = 5 ∨ (paired 2).pair.complete < (paired 2).pair.asked) ∧ (paired 2).counterActive 7 = true) := by decide

theorem test_mirrorMessages_hypotheses_3 :
    loadsCtr.inReset = false ∧ loadsCtr.mirrors = true ∧ 0 = loadsCtr.pair.expect ∧
    (True ↔ (loadsCtr.pairState = 5 ∨ loadsCtr.pair.complete < loadsCtr.pair.asked) ∧ loadsCtr.counterActive 7 = true) ∧ (paired 2).pairState ≠ 5 ∧
    (paired 5).pairState = 5 ∧ ((paired 5).running = false ∨ (paired 5).now16 ≤ unitsOf (641 * 65536)) ∧ heldWin.inReset = false ∧
    heldWin.mirrors = true ∧ 0 = heldWin.pair.expect ∧ heldWin.pairState = 5 ∧ heldWin.running = true ∧ unitsOf 5 < heldWin.now16 ∧
    (instantDue 5 5).inReset = false ∧ (instantDue 5 5).mirrors = true ∧ 0 = (instantDue 5 5).pair.expect ∧
    (instantDue 5 5).admitDue = some { at_ := 5, ep := 0 } ∧ (instantDue 5 (700 * 65536)).inReset = false ∧
    (instantDue 5 (700 * 65536)).mirrors = true ∧ 0 = (instantDue 5 (700 * 65536)).pair.expect ∧
    (instantDue 5 (700 * 65536)).admitDue = none := by decide

/-! ### The boundary -/

def pinHeld : State := { running with inReset := true, board := { running.board with chipRstN := false } }
def heldReset : State := { (paired 6).setF MYB_STATUS_RESET_CAUSE 0 2 with inReset := true }
def cored : State := (((ctx5 4 { pc := 12, latch := some 3 }).setF CX_STATUS_STATE 4 7).setF CX_STATUS_PRIOR 4 3).setF CX_STATUS_STATE 7 1
def onWireIdle : State := { up with ex := (onWire false).ex }
def noFail : BistResult := { banks := 0, cores := 0, imago := 0, exportLanes := 0, mirrorLanes := 0 }
def fails : BistResult := { banks := 3, cores := 2 ^ 63, imago := 5, exportLanes := 0x81, mirrorLanes := 2 }
/-- A core was mapped out before a block reset. -/
def fallenCore : State := { running.setF MYB_CAPS_CORES_OK 0 62 with board := { running.board with fallen := [(.core, 1)] } }
def testing (n : Nat) : State := { up.setF MYB_BIST_STAT_BUSY 0 1 with board := { up.board with bistUnits := n } }
def sel (n b w : Nat) : Nat := if n / 2 ^ b % 2 = 1 then w else 0
def powered (n : Nat) : State := { exUp with board := { exUp.board with grant := n } }
def holdTick : State := { (powered 300).setF TB_STATUS_HOLD_LEFT 0 3 with time := { (powered 300).time with holdRun := true } }
def sampled : State := { running.setF PW_SAMP_EN 0 1 with board := { running.board with sampTicks := 100000 } }
def reply : Sensor := { vin := 0x8000, iin := 1, pin := 2, temp := 3, status := 4 }
def sampling (n : Nat) : State := { sampled with board := { sampled.board with sampling := true, misses := n } }
def leased : State := { running.setF LS_CFG_EN 0 1 with leases := { ticks := 7, renewed := [(3, true)] } }
def paging : State := (ctx5 3 {}).setF TN_CFG_PAGE_EN 0 1

theorem test_resetAndClock_hypotheses :
    ((∃ rst, Instr.resetAssert false true = Instr.resetAssert false rst ∧ 1 = 1) ∨ Instr.resetAssert false true = Instr.resetAssert true false ∧ 1 = 2 ∨ ∃ d, Instr.resetAssert false true = Instr.blockReset d ∧ running.ready = true ∧ Fld.of d MYB_CTRL_BLOCK_RESET = 1 ∧ 1 = 3) ∧
    (pinHeld.board.pwrOk = false ∨ pinHeld.board.chipRstN = false) ∧ heldReset.inReset = true ∧ heldReset.board.pwrOk = true ∧
    heldReset.board.chipRstN = true ∧ running.inReset = false ∧ (running.setF MYB_STATUS_READY 0 0).inReset = false ∧
    (running.setF MYB_STATUS_READY 0 0).ready = false ∧ State.reset.inReset = true ∧ (sealQ running).inReset = false := by decide

theorem test_unitsAndSelfTest_hypotheses :
    cored.inReset = false ∧ cored.flag CORE_STAT_MAPPED_OUT 1 = false ∧ running0.inReset = false ∧ running0.flag IM_UNIT_MAPPED_OUT 0 = false ∧
    (paired 2).inReset = false ∧ (paired 2).pair.failedLanes / 2 ^ 1 % 2 = 0 ∧ running.inReset = false ∧ running.ready = true ∧ up.ready = true ∧
    Fld.of (fld MYB_BIST_GO 1 ||| fld MYB_BIST_UNITS 5) MYB_BIST_GO = 1 ∧
    (True ↔ up.flag TB_CTRL_RUN 0 = false ∧ up.flag TI_CTRL_ENABLE 0 = false ∧ up.flag EX_CFG_EN 0 = false ∧ up.flag PR_CTL_EN 0 = false ∧ (∀ u < 64, up.getF TN_STATUS_STATE u = 0) ∧ up.flag MYB_BIST_STAT_BUSY 0 = false) ∧
    (∀ p < 4, (up.exPort p).cur = none) ∧ onWireIdle.ready = true ∧
    (True ↔ onWireIdle.flag TB_CTRL_RUN 0 = false ∧ onWireIdle.flag TI_CTRL_ENABLE 0 = false ∧ onWireIdle.flag EX_CFG_EN 0 = false ∧ onWireIdle.flag PR_CTL_EN 0 = false ∧ (∀ u < 64, onWireIdle.getF TN_STATUS_STATE u = 0) ∧ onWireIdle.flag MYB_BIST_STAT_BUSY 0 = false) ∧
    Fld.of (fld MYB_BIST_GO 1) MYB_BIST_GO = 1 ∧
    (False ↔ running.flag TB_CTRL_RUN 0 = false ∧ running.flag TI_CTRL_ENABLE 0 = false ∧ running.flag EX_CFG_EN 0 = false ∧ running.flag PR_CTL_EN 0 = false ∧ (∀ u < 64, running.getF TN_STATUS_STATE u = 0) ∧ running.flag MYB_BIST_STAT_BUSY 0 = false) ∧
    up.inReset = false ∧
    (True ↔ (up.board.bistUnits / 2 % 2 = 1 → up.getF PW_ALLOC_CORE 0 ≠ 0) ∧ (up.board.bistUnits / 4 % 2 = 1 → up.getF PW_ALLOC_IMAGO 0 ≠ 0)) ∧
    (up.flag MYB_BIST_STAT_BUSY 0 = false ∨ ¬True) ∧ (testing 25).inReset = false ∧
    (True ↔ ((testing 25).board.bistUnits / 2 % 2 = 1 → (testing 25).getF PW_ALLOC_CORE 0 ≠ 0) ∧ ((testing 25).board.bistUnits / 4 % 2 = 1 → (testing 25).getF PW_ALLOC_IMAGO 0 ≠ 0)) ∧
    (testing 25).flag MYB_BIST_STAT_BUSY 0 = true := by decide

theorem test_powerArbiter_hypotheses :
    (powered 440).inReset = false ∧ running.inReset = false := by decide

theorem test_sensorReader_hypotheses :
    sampled.inReset = false ∧ sampled.flag PW_SAMP_EN 0 = true ∧ sampled.board.sampling = false ∧
    sampled.getF PW_SAMP_PERIOD_US 0 ≤ sampled.board.sampTicks ∧ running.inReset = false ∧
    (running.flag PW_SAMP_EN 0 = false ∨ running.board.sampling = true ∨ running.board.sampTicks < running.getF PW_SAMP_PERIOD_US 0) ∧
    running.board.sampling = false ∧ (sampling 2).inReset = false ∧ (sampling 2).board.sampling = true ∧
    (sampling 2).us ≤ (sampling 2).board.sampAt + 5000 ∧
    Or (@Eq (Option Sensor) (@none Sensor) (@none Sensor)) (@LT.lt Nat instLTNat (@HAdd.hAdd Nat Nat Nat (@instHAdd Nat instAddNat) (sampling (@OfNat.ofNat Nat (nat_lit 2) (instOfNatNat (nat_lit 2)))).board.sampAt (@OfNat.ofNat Nat (nat_lit 5000) (instOfNatNat (nat_lit 5000)))) (sampling (@OfNat.ofNat Nat (nat_lit 2) (instOfNatNat (nat_lit 2)))).us) := by decide

theorem test_hostWindow_hypotheses_1 :
    running.ready = true ∧ BitVec.toNat (16 : BitVec (24 : ℕ)) < (12582912 : ℕ) ∧ BitVec.toNat (16 : BitVec (24 : ℕ)) % (8 : ℕ) = (0 : ℕ) ∧
    locate (BitVec.toNat (16 : BitVec (24 : ℕ))) = some (Reg.MYB_SYSTEN, (0 : ℕ)) ∧ (Reg.MYB_SYSTEN ∉ commandRegs ∨ Reg.MYB_SYSTEN ∈ shutRegs) ∧
    Lanes.lo ≠ Lanes.full ∧ BitVec.toNat (16 : BitVec (24 : ℕ)) < (4194304 : ℕ) ∧ BitVec.toNat (5505016 : BitVec (24 : ℕ)) < (12582912 : ℕ) ∧
    BitVec.toNat (5505016 : BitVec (24 : ℕ)) % (8 : ℕ) = (0 : ℕ) ∧
    locate (BitVec.toNat (5505016 : BitVec (24 : ℕ))) = some (Reg.SC_EXP, (16383 : ℕ)) ∧ (Reg.SC_EXP ∉ commandRegs ∨ Reg.SC_EXP ∈ shutRegs) ∧
    BitVec.toNat (339968 : BitVec (24 : ℕ)) < (12582912 : ℕ) ∧ BitVec.toNat (339968 : BitVec (24 : ℕ)) % (8 : ℕ) = (0 : ℕ) ∧
    locate (BitVec.toNat (339968 : BitVec (24 : ℕ))) = some (Reg.SC_WPEND, (0 : ℕ)) ∧ (Reg.SC_WPEND ∉ commandRegs ∨ Reg.SC_WPEND ∈ shutRegs) ∧
    BitVec.toNat (339968 : BitVec (24 : ℕ)) < (4194304 : ℕ) ∧ leased.ready = true ∧ BitVec.toNat (614400 : BitVec (24 : ℕ)) % (8 : ℕ) = (0 : ℕ) ∧
    locate (BitVec.toNat (614400 : BitVec (24 : ℕ))) = some (Reg.LS_CFG, (0 : ℕ)) ∧ BitVec.toNat (4194296 : BitVec (24 : ℕ)) < (12582912 : ℕ) ∧
    BitVec.toNat (4194296 : BitVec (24 : ℕ)) % (8 : ℕ) = (0 : ℕ) ∧ locate (BitVec.toNat (4194296 : BitVec (24 : ℕ))) = none ∧
    ((0 : ℕ) = if (BitVec.toNat (4194296 : BitVec (24 : ℕ)) % if true = true then (8 : ℕ) else (4 : ℕ)) ≠ (0 : ℕ) then (2 : ℕ) else if true = false ∧ (4194304 : ℕ) ≤ BitVec.toNat (4194296 : BitVec (24 : ℕ)) ∧ BitVec.toNat (4194296 : BitVec (24 : ℕ)) < (5767168 : ℕ) then (1 : ℕ) else if true = true ∧ (12582912 : ℕ) ≤ BitVec.toNat (4194296 : BitVec (24 : ℕ)) then (3 : ℕ) else (0 : ℕ)) ∧
    ((2 : ℕ) = if (BitVec.toNat (4194292 : BitVec (24 : ℕ)) % if true = true then (8 : ℕ) else (4 : ℕ)) ≠ (0 : ℕ) then (2 : ℕ) else if true = false ∧ (4194304 : ℕ) ≤ BitVec.toNat (4194292 : BitVec (24 : ℕ)) ∧ BitVec.toNat (4194292 : BitVec (24 : ℕ)) < (5767168 : ℕ) then (1 : ℕ) else if false = true ∧ (12582912 : ℕ) ≤ BitVec.toNat (4194292 : BitVec (24 : ℕ)) then (3 : ℕ) else (0 : ℕ)) ∧
    BitVec.toNat (4194312 : BitVec (24 : ℕ)) % (8 : ℕ) = (0 : ℕ) ∧
    ((4194304 : ℕ) ≤ BitVec.toNat (4194312 : BitVec (24 : ℕ)) ∧ BitVec.toNat (4194312 : BitVec (24 : ℕ)) < (5767168 : ℕ) ∨ (12582912 : ℕ) ≤ BitVec.toNat (4194312 : BitVec (24 : ℕ))) ∧
    (BitVec.toNat (17 : BitVec (24 : ℕ)) % (8 : ℕ) ≠ (0 : ℕ) ∨ (12582912 : ℕ) ≤ BitVec.toNat (17 : BitVec (24 : ℕ))) ∧
    Fld.of (fld MYB_BLKID_LOCK 1 ||| fld MYB_BLKID_BLOCK_ID 77) MYB_BLKID_LOCK = 1 ∧
    (running.setReg Reg.IRQ_PEND 3 (BitVec.allOnes 64)).ready = true ∧ paging.ready = true := by decide

theorem test_hostWindow_hypotheses_2 :
    paging.flag TN_CFG_PAGE_EN 63 = false ∧ paging.flag TN_CFG_PAGE_EN 0 = true ∧ pairOffSt.ready = true ∧
    BitVec.toNat (655360 : BitVec (24 : ℕ)) % (8 : ℕ) = (0 : ℕ) ∧ locate (BitVec.toNat (655360 : BitVec (24 : ℕ))) = some (Reg.PR_CTL, (0 : ℕ)) ∧
    isCommand Reg.PR_CTL 0 pairEn (Instr.pairEnable pairEn) ∧ (paired 5).ready = true ∧ BitVec.toNat (655392 : BitVec (24 : ℕ)) < (12582912 : ℕ) ∧
    BitVec.toNat (655392 : BitVec (24 : ℕ)) % (8 : ℕ) = (0 : ℕ) ∧ locate (BitVec.toNat (655392 : BitVec (24 : ℕ))) = some (Reg.PR_OWN, (0 : ℕ)) ∧
    (Reg.PR_OWN ∉ commandRegs ∨ Reg.PR_OWN ∈ shutRegs) ∧
    (Lanes.full = Lanes.full ∨ BitVec.toNat (655392 : BitVec (24 : ℕ)) < (4194304 : ℕ)) := by decide

/-! ### Instruction words -/

theorem test_decodeAndEncodeAgree_hypotheses :
    issuer (Instr.add 5 fA) = some 5 ∧ (Instr.add 5 fA).wf = true ∧
    decodeEhrile 9 1356906504 = some (Instr.ld 9 { rd := 7, ra := 0, size := 3, sx := false, imm := 8 }) ∧ issuer Instr.tick = none := by decide

/-! ### Ill-formed commands

One for each check of `Instr.wf`, just outside its range. -/

theorem test_wf_refuses_1 : ∀ i ∈ ([
    .unitMapOut .core 64, .unitMapOut .bank 64, .unitMapOut .imago 4, .unitMapOut .exportLane 8, .unitMapOut .mirrorLane 2,
    .pathGenChange 512 0, .pathGenChange 0 16, .linkDlyWrite 512 .full 0, .timeWord [31, 32], .timeWordLoss 32, .flushApply 32,
    .harvestLatch 32, .antennaRecordIngest 32, .phaseAccumFlush 32, .phaseFlushApply 32, .ptpRx 512 0 0 [], .ptpRx 0 0 65536 [],
    .packetIngress 512 0 0, .packetIngress 0 0 65536, .packetDelivered 512 ⟨0, 0, 0, false⟩ 0 0 0,
    .packetDelivered 0 ⟨0, 0, 0, false⟩ 0 0 65536, .txDepart 128 0 0, .txDepart 0 0 65536, .gateFire 4096 false false,
    .gateDelayedLaunch 4096 0, .egressOpenExpire 512 0, .egressOpenExpire 0 8, .timerFire 256 0, .timerFire 0 4, .ctxMaskWrite 64 0 0,
    .ctxMaskWrite 0 4 0, .tnGatesWrite 64 0, .activate 64, .preempt 64, .preemptQuiesced 64, .chrysalisTrailerWritten 64, .retrySave 64,
    .restore 64 false, .restoreImageLoaded 64, .restoreFault 64 1 0, .restoreFault 0 0 0, .restoreFault 0 9 0, .release 64, .tenantReset 64,
    .tenantResetComplete 64, .tsRunStart 64 0, .tsRunStop 64 0, .tsForce 64 0, .tsManual 64 0, .sequencerEvaluate 64, .scPartWrite 64 0,
    .lgLoad 64, .lgRun 64, .lgRunTimed 64, .lgHold 64, .lgHoldAtPass 64, .lgHoldStopAtPass 64, .lgRelease 64, .lgStop 64,
    .ledgerEntryPrefetch 64] : List Instr), i.wf = false := by decide

theorem test_wf_refuses_2 : ∀ i ∈ ([
    .ledgerEvaluate 64, .phaseShortTimeout 64 0, .phaseGiveup 64 0, .phaseSettleExpire 64 0, .spillStart 64, .spillComplete 64,
    .drainStart 64, .drainComplete 64, .spPeakClear 64 0, .wnEnSet 64 0, .wnEnClear 64 0, .wnSeal 64 0, .wnVoid 64 0, .windowNaturalEnd 64,
    .windowCap 64, .voidSettle 64, .creditTimeout 64, .verdictEntry 64, .gvLevelWrite 64 0, .mirrorLedger 64 0 0 0 0 0 false,
    .mirrorWindow 64 0 0 0, .mirrorTenant 64 0 0 0 false, .mirrorGovCharge 64 0 0, .mirrorGovState 64 0 0, .chrysalisFault 64 1 0,
    .chrysalisFault 0 0 0, .chrysalisFault 0 9 0, .loadFault 0 0 0, .loadFault 9 0 0, .loadFault 1 (2 ^ 48) 0, .mbAck 256 0,
    .mbHdrRead 256 .full, .storeMemerrReport 256, .add 256 fA, .sub 256 fA, .and 256 fA, .or 256 fA, .xor 256 fA, .andn 256 fA, .sll 256 fA,
    .srl 256 fA, .sra 256 fA, .ror 256 fA, .clz 256 fA, .ctz 256 fA, .popc 256 fA, .min 256 fA, .max 256 fA, .minu 256 fA, .maxu 256 fA,
    .sext 256 fA, .zext 256 fA, .bswap 256 fA, .mul 256 fA, .mulhu 256 fA, .mulh 256 fA, .divu 256 fA, .remu 256 fA, .div 256 fA,
    .rem 256 fA] : List Instr), i.wf = false := by decide

theorem test_wf_refuses_3 : ∀ i ∈ ([
    .eq 256 fA, .ne 256 fA, .lt 256 fA, .ge 256 fA, .ltu 256 fA, .geu 256 fA, .tst 256 fA, .tstz 256 fA, .feq 256 fA, .flt 256 fA,
    .fle 256 fA, .funord 256 fA, .pand 256 fA, .por 256 fA, .pxor 256 fA, .pandn 256 fA, .sel 256 fA, .prd 256 fA, .pwr 256 fA,
    .fadd 256 fA, .fsub 256 fA, .fmul 256 fA, .ffma 256 fA, .fmin 256 fA, .fmax 256 fA, .fabs 256 fA, .fneg 256 fA, .fcvtSL 256 fA,
    .fcvtLS 256 fA, .fcvtBfS 256 fA, .fcvtSBf 256 fA, .fcvtE4S 256 fA, .fcvtE5S 256 fA, .fcvtSE4 256 fA, .fcvtSE5 256 fA, .jmpr 256 fA,
    .addi 256 (fI 0), .andi 256 (fI 0), .ori 256 (fI 0), .xori 256 (fI 0), .shi 256 (fI 0), .cmpi 256 (fI 0), .cmpiu 256 (fI 0),
    .br 256 ⟨0, false, 0⟩, .call 256 ⟨0, false, 0⟩, .ld 256 (fM 0 false 0), .st 256 (fM 0 false 0), .l 256 0, .rdtime 256 (fT 0 0 0),
    .rdctr 256 (fT 0 0 0), .emit 256 (fT 0 0 0), .deq 256 (fT 0 0 0), .scadd 256 (fT 0 0 0), .scwait 256 (fT 0 0 0), .scwaitComplete 256,
    .scrd 256 (fT 0 0 0), .atarm 256 (fT 0 0 0), .atcan 256 (fT 0 0 0), .harvest 256 (fT 0 0 0),
    .seal 256 (fT 0 0 0)] : List Instr), i.wf = false := by decide

theorem test_wf_refuses_4 : ∀ i ∈ ([
    .void 256 (fT 0 0 0), .hist 256 (fT 0 0 0), .sketch 256 (fT 0 0 0), .tlaunch 256 (fT 0 0 0), .twait 256 (fT 0 0 0),
    .mbpost 256 (fT 0 0 0), .fence 256 (fT 0 0 0), .yield 256 (fT 0 0 0), .halt 256 (fT 0 0 0), .trap 256 (fT 0 0 0), .peek 0 (fT 0 0 3),
    .peek 256 (fT 0 0 0), .depstat 0 (fT 0 0 0), .depstat 256 (fT 0 0 3), .antennaFlush 512, .anTagWrite 512 0, .liveRead 36864,
    .counterPreset 36864 0, .harvestTick (2 ^ 32), .portReconfigure 512 0, .portReconfigure 511 2, .taggedPacketEnd 512 ⟨none, 0, 0, []⟩,
    .queueSample 512 0 0 [], .portSampleInterval 512, .slotSummaryInterval 512, .linkFailure 512, .tracePacket ⟨0, 0, 0, 0, 65536, 0, []⟩,
    .htAddrWrite 256 0, .lsView 256 0, .lsDecide 256 0, .watchArm 512 0, .watchDisarm 512 0, .recordAppend { inRec 0 0x8307 with cls := 4 },
    .recordAppend { inRec 0 0x8307 with tenant := 64 }, .recordAppend (inRec 0 65536), .recordAppend { inRec 0 0x8307 with typ := 256 },
    .dmaFault 64 0 1 0, .dmaFault 0 16 1 0, .dmaFault 0 0 0 0, .dmaFault 0 0 9 0, .dsResume 64 0, .dsResume 0 16, .dsAbandon 64 0,
    .dsAbandon 0 16, .lossTallyTimeout 65536, .exportTake 32768, .frameFlushTimeout 64 0, .frameFlushTimeout 0 4, .frameStart 4,
    .frameEnd 4, .returnFrame 4 0 [], .exportRxOther 4, .portTrained 4, .pfcReceive 4 0 [0, 0, 0, 0, 0, 0, 0, 0], .pfcReceive 0 0 [1, 2],
    .pauseExpire 4 0, .pauseExpire 0 8, .exportLaneFailure 8, .launchStart 5, .launchComplete 5] : List Instr), i.wf = false := by decide

theorem test_wf_refuses_5 : ∀ i ∈ ([
    .modelLoad 64 0, .modelLoad 0 4, .modelUnload 64 0, .modelUnload 0 4, .modelCopyComplete 64 0, .modelCopyComplete 0 4,
    .weightStoreMemerr 64 0, .weightStoreMemerr 0 4, .beatReceive (beat true 7), .mirrorScAdd 16384 0 0, .mirrorScState 16384 0 0 0 0,
    .mirrorHome 256 0 0 0 0 0 false, .mirrorLaneFailure 2, .irqMaskWrite 4 0, .pmGrant 1024, .pmCut 1024 0, .pmCut 0 1601,
    .tenantPageRead 64 0 false, .tenantPageRead 0 65536 false, .antennaEvent 0 (.count 60 1), .antennaEvent 512 (.count 0 0),
    .chipEvent 3584] : List Instr), i.wf = false := by decide
/-! ### Hypotheses that `decide` cannot evaluate, for they hold free values or ask for a number -/

theorem test_launches_operands :
    running0.operands 0 (runsOn 0 eltwise) = ((opsOf running0 (runsOn 0 eltwise)).1, [], none) ∧
    runningS.operands 0 (runsOn 0 fromStore) = (opsS.1, opsS.2.1, some (1, 0)) := ⟨rfl, rfl⟩

/-- No queue takes the ALARM of the reset of queue 6. -/
theorem test_spill_alarm_elsewhere : alarmElsewhere spillBroken 6 :=
  ⟨by unfold quietSource; decide, fun p h => by rw [show spillBroken.route 0x8305 (spillBroken.getF QM_QCFG_TENANT 6) 0 = none by decide] at h; cases h⟩

/-- The three resets of `Obligations.ResetAndClock`. -/
theorem test_resets_hypotheses (c : Instr) (cause : Nat) :
    c = .resetAssert false true ∧ cause = 1 ∨ c = .resetAssert true false ∧ cause = 2 ∨
      c = .blockReset (fld MYB_CTRL_BLOCK_RESET 1) ∧ cause = 3 →
    (∃ rst, c = .resetAssert false rst ∧ cause = 1) ∨ (c = .resetAssert true false ∧ cause = 2) ∨
      (∃ d, c = .blockReset d ∧ carrying.ready = true ∧ MYB_CTRL_BLOCK_RESET.of d = 1 ∧ cause = 3) := by
  rintro (⟨rfl, rfl⟩ | ⟨rfl, rfl⟩ | ⟨rfl, rfl⟩)
  · exact .inl ⟨true, rfl, rfl⟩
  · exact .inr (.inl ⟨rfl, rfl⟩)
  · exact .inr (.inr ⟨_, rfl, by decide, by decide, rfl⟩)

/-- Offsets whose registers have commands of their own, for `Obligations.HostWindow`. -/
theorem test_hostWindow_commands :
    locate 0x8 = some (.MYB_BLKID, 0) ∧ MYB_BLKID_LOCK.of (fld MYB_BLKID_LOCK 1) = 1 ∧ locate 0x70010 = some (.QM_BANK, 0) ∧
    locate 0x70108 = some (.QM_QCFG, 0) ∧ locate 0x80FC0 = some (.WN_CFG, 63) ∧ locate 0x91FA8 = some (.GV_LEVEL, 62) ∧
    locate 0x138 = some (.IRQ_MASK, 3) ∧ locate 0xA0000 = some (.PR_CTL, 0) := by decide

/-! ### Words of the manual's worked example of encodings (chapter 04) -/

theorem test_worked_words :
    encodeEhrile (.addi 5 ⟨5, 3, 100⟩) = some 0x20A30064 ∧ encodeEhrile (.cmpi 5 ⟨0b11010, 5, 4096⟩) = some 0x37451000 ∧
    encodeEhrile (.br 5 ⟨2, false, 0x3FFFFD⟩) = some 0x413FFFFD ∧ encodeEhrile (.deq 5 ⟨1, 20, 21, 1, 0⟩) = some 0x8C34A900 ∧
    encodeEhrile (.emit 5 ⟨0, 10, 11, 3, 0x81⟩) = some 0x880A5B81 ∧ encodeEhrile (.l 5 0x080008) = some 0xFC080008 ∧
    encodeEhrile (.ld 5 ⟨7, 0, 3, false, 8⟩) = some 0x50E0C008 := by decide

/-! ### Effects worked out in the manual's examples, or by hand from its rules -/

/-- The state after a command. -/
def post (c : Instr) (s : State) : State := match exec c s with
  | .next t => t
  | _ => s

/-- The projection change of chapter 02: 2^28 ticks after the offset of 1,750,000,000 s. -/
theorem test_projection_value :
    ({ ofs := 1750000000 * 10 ^ 9 * 2 ^ 40, raw := 0x100000000, incr := 703678645794, epoch := 0 } : HistEntry).at 0x110000000 0 =
      (1750000000 * 10 ^ 9 + 171796544) * 2 ^ 40 + 421443665920 := by decide

/-- A grant of 6.0 W gives a budget of 1,000 cycles (R105). -/
theorem test_budget : budgetOf 6000 = 1000 := by decide

/-- The cut of chapter 13: 400 of 1,500 cycles used, 1,200 left, B = 1,000: 750 more. -/
theorem test_cut_budget :
    (((running.setF CORE_STAT_BUDGET 3 1500).setCore 3 { used := 400 }).cutCore 1000 1200 3).getF CORE_STAT_BUDGET 3 = 1150 := by decide

/-- The readings of chapter 13. -/
theorem test_linear11 : linearMilli 0xE368 = 54500 ∧ linearMilli 0x0B84 = 1800000 ∧ linearMilli 0x07FF = 0 := by decide

/-- The check values of the two CRCs over "123456789". -/
theorem test_crc : crc32c [49, 50, 51, 52, 53, 54, 55, 56, 57] = 0xE3069283 ∧ crc32 [49, 50, 51, 52, 53, 54, 55, 56, 57] = 0xCBF43926 := by decide

/-- 5,000 falls in bin 13 (chapter 04). -/
theorem test_hist_bin : histBin 5000 = 13 := by decide

/-- The SCADD of 25 at 2^48 − 10 of chapter 07: the entry saturates. -/
theorem test_scadd_saturates :
    (post (.scadd 5 (f0 2 3 0)) (counts (.scadd 5 (f0 2 3 0)) 7 25 (2 ^ 48 - 10))).getReg .SC_COUNT 7 = 0x4000FFFFFFFFFFFF := by decide

/-- Addition wraps (R129). -/
theorem test_add_wraps :
    ((post (.add 5 fA) (issuing (.add 5 fA) { g := regs2 (BitVec.allOnes 64) 2 })).ctx 5).gr 1 = 1 := by decide

theorem test_host_lock_is_kept :
    (post (.blkidLock (fld MYB_BLKID_LOCK 1 ||| 99)) (post (.blkidLock (fld MYB_BLKID_LOCK 1 ||| 77)) up)).blockId = 77 := by decide

/-- A queue that waits first in, first out; an empty queue idles. -/
theorem test_step_takes_the_front :
    (match step { up with pending := [.tick, .snapRead .full] } with | .next t => t.pending | _ => []) = [.snapRead .full] := by decide

/-- Register `rd` after an instruction over two operands. -/
def result (i : FmtA → Instr) (a b : Word) : Word := ((post (i fA) (issuing (i fA) { g := regs2 a b })).ctx 5).gr 1

/-- The division corners of R130. -/
theorem test_division_corners :
    result (.divu 5) 7 0 = BitVec.allOnes 64 ∧ result (.remu 5) 7 0 = 7 ∧ result (.div 5) 7 0 = -1 ∧ result (.rem 5) 7 0 = 7 ∧
    result (.div 5) (BitVec.twoPow 64 63) (-1) = BitVec.twoPow 64 63 ∧ result (.rem 5) (BitVec.twoPow 64 63) (-1) = 0 ∧
    result (.div 5) (-7) 2 = -3 ∧ result (.rem 5) (-7) 2 = -1 ∧ result (.mulh 5) (-1) 1 = BitVec.allOnes 64 := by decide

/-- 1.5 + 2.25 = 3.75 and 1.5 × 2.25 = 3.375 in FP32 (R134). -/
theorem test_float :
    (result (.fadd 5) 0x3FC00000 0x40100000).setWidth 32 = 0x40700000#32 ∧
    (result (.fmul 5) 0x3FC00000 0x40100000).setWidth 32 = 0x40580000#32 := by decide

/-- R353: of e, FP32 0x402DF854 keeps the bound of EXP and 2.71875 does not; SIGMOID of 0 is one half. -/
theorem test_table_function_bound : (match fxTable 0 fxOne with
    | some y => fxWithin (fread 0x402DF854) y && !fxWithin (fread 0x402E0000) y
    | none => false) = true ∧ fxTable 1 0 = some (2 ^ 159) := by
  decide +kernel

/-- Two launches of one ticket: the health unit moves on in the one whose entries it treats, and the other stays as it is (R356, R362). -/
theorem test_twin_tickets : (post (.verdictEntry 0) twins).launches 0 = [{ treats 1 with entry := 2 }, lnch eltwise] := by decide

/-- A gate that has held since the last tick of the older of two entries has waited one tick more than the newer one is old (R87). -/
theorem test_slip_over_entries :
    heldFor 0 { copied := true, lo := 640 * 65536 }
      [{ ofs := 640 * 2 ^ 40 + 703687441777, raw := 1001, incr := 703687441777, epoch := 0 },
        { ofs := 640 * 2 ^ 40, raw := 1000, incr := 703687441777, epoch := 0, succ := some 1001 }] 1001 = 1 := by decide

/-- A self-test that finds a core raises no field of MYB_CAPS, and one that passes raises it (R32). -/
theorem test_failed_test_raises_nothing :
    (fallenCore.provedUnits 1 .core).getF MYB_CAPS_CORES_OK 0 = 62 ∧
    (({ fallenCore with board := { fallenCore.board with bistUnits := 2 } } : State).provedAll).getF MYB_CAPS_CORES_OK 0 = 64 := by decide

/-- The bytes by which a microsecond was exceeded are charged to the next one, and only to it (R337). -/
theorem test_overshoot : ({ shaped := 70000, allowed := some 49000 } : ExPort).overshoot = 21000 ∧
    ({ shaped := 21000 } : ExPort).overshoot = 0 := by decide

/-- Of a queue whose last cell is closed, that cell is not spilled (R300). -/
theorem test_tail_cell_stays :
    spills.spillCell 6 = some { idx := 40, recs := [rec0 0], closed := true } ∧
    (spills.setQueue 6 { spills.queue 6 with back := [{ idx := 40, recs := [rec0 0], closed := true }] }).spillCell 6 = none := by decide

end Sys2Proof.Tests
end

/-! PROOFS. O11: what a tenant is granted (R97, R98). A write of TN_CTX_MASK goes through its 64 bits one after another; the bit of a
context decides what becomes of that context, and the other 63 leave its status, its record and its mask bit as they are. -/

namespace Sys2Proof.Machine

variable {ws : List Spot} {ps : List Part} {s u v : State} {t c d i n : Nat}

/-! ### Bits of a word -/

theorem bitOf_eq_getLsbD (w : Word) (n : Nat) : bitOf w n = w.getLsbD n := by
  simp only [bitOf, bitsOf, BitVec.getLsbD, Nat.testBit_eq_decide_div_mod_eq, Nat.add_sub_cancel_left, pow_one]
  rfl

theorem bitOf_putBits_same (w : Word) (b : Bool) (h : n < 64) : bitOf (putBits w n n b.toNat) n = b := by
  rw [bitOf_eq_getLsbD, getLsbD_putBits _ _ _ _ _ le_rfl h]
  cases b <;> simp

theorem bitOf_putBits_ne (w : Word) {m : Nat} (b : Nat) (h : m < 64) (hn : n ≠ m) : bitOf (putBits w m m b) n = bitOf w n := by
  rw [bitOf_eq_getLsbD, getLsbD_putBits _ _ _ _ _ le_rfl h, if_neg (by omega), bitOf_eq_getLsbD]

theorem bitOf_allBits (h : n < 64) : bitOf allBits n = true := by
  rw [bitOf_eq_getLsbD, allBits, BitVec.getLsbD_allOnes, decide_eq_true h]

theorem Fld.of_mod (f : Fld) (w : Word) : Fld.of w f % 2 ^ f.width = Fld.of w f := Nat.mod_mod _ _

/-! ### A context as its tenant's mask shows it -/

/-- The bit of context `c` in the masks of tenant `t`. -/
def State.granted (s : State) (t c : Nat) : Bool := bitOf (s.getReg .TN_CTX_MASK (4 * t + c / 64)) (c % 64)

/-- The mask bit of a context set to a Boolean. -/
def State.setGranted (s : State) (t c : Nat) (b : Bool) : State :=
  s.setReg .TN_CTX_MASK (4 * t + c / 64) (putBits (s.getReg .TN_CTX_MASK (4 * t + c / 64)) (c % 64) (c % 64) b.toNat)

theorem State.grant_eq (s : State) (t c : Nat) :
    s.grant t c = ((s.setF CX_STATUS_STATE c 1).setF CX_STATUS_TENANT c t).setGranted t c true := rfl

theorem State.turnOff_eq (s : State) (t c : Nat) :
    s.turnOff t c =
      (((((((s.setCtx c { s.ctx c with dep := none, wait := .none, latch := none }).setSkip c none).setF CX_STATUS_STATE c 0).setF
        CX_STATUS_IMAGE_VALID c 0).setF CX_STATUS_DEP c 0).setF CX_STATUS_TENANT c 0).setF CX_STATUS_PRIOR c 0).setGranted t c false := rfl

theorem State.granted_setGranted_same (s : State) (t c : Nat) (b : Bool) : (s.setGranted t c b).granted t c = b := by
  rw [granted, setGranted, getReg_setReg_same]
  exact bitOf_putBits_same _ _ (Nat.mod_lt _ (by decide))

theorem State.granted_setGranted_ne (s : State) (b : Bool) (h : c ≠ d) : (s.setGranted t d b).granted t c = s.granted t c := by
  by_cases hw : c / 64 = d / 64
  · rw [granted, setGranted, hw, getReg_setReg_same, bitOf_putBits_ne _ _ (Nat.mod_lt _ (by decide)) (by omega), granted, hw]
  · rw [granted, setGranted, getReg_setReg_ne _ _ (.inr (by omega)), granted]

theorem State.getF_setGranted {f : Fld} (hf : f.reg ≠ .TN_CTX_MASK) (b : Bool) (k : Nat) :
    (s.setGranted t c b).getF f k = s.getF f k := by
  simp only [getF, setGranted, getReg_setReg_ne _ _ (.inl hf)]

/-- Context `c`, its status and its bit in the masks of tenant `t` are the same in both states. -/
structure SameCtx (t c : Nat) (s u : State) : Prop where
  status : u.getReg .CX_STATUS c = s.getReg .CX_STATUS c
  ctx : u.ctx c = s.ctx c
  granted : u.granted t c = s.granted t c

namespace SameCtx

theorem refl (t c : Nat) (s : State) : SameCtx t c s s := ⟨rfl, rfl, rfl⟩

theorem trans (h1 : SameCtx t c s u) (h2 : SameCtx t c u v) : SameCtx t c s v :=
  ⟨h2.status.trans h1.status, h2.ctx.trans h1.ctx, h2.granted.trans h1.granted⟩

theorem getF (h : SameCtx t c s u) {f : Fld} (hf : f.reg = .CX_STATUS) : u.getF f c = s.getF f c := by
  simp only [State.getF, hf, h.status]

theorem cxState (h : SameCtx t c s u) : u.cxState c = s.cxState c := h.getF rfl

theorem tenantOf (h : SameCtx t c s u) : u.tenantOf c = s.tenantOf c := h.getF rfl

theorem imageValid (h : SameCtx t c s u) : u.flag CX_STATUS_IMAGE_VALID c = s.flag CX_STATUS_IMAGE_VALID c :=
  congrArg (· == 1) (h.getF rfl)

theorem resting (h : SameCtx t c s u) : u.resting c = s.resting c := by
  simp only [State.resting, h.cxState]

theorem setGranted (h : SameCtx t c s u) (b : Bool) (hd : c ≠ d) : SameCtx t c s (u.setGranted t d b) :=
  ⟨(State.getReg_setReg_ne _ _ (.inl (by decide))).trans h.status, h.ctx, (State.granted_setGranted_ne _ _ hd).trans h.granted⟩

/-- A field of the status of another context. -/
theorem setF (h : SameCtx t c s u) {f : Fld} (hf : f.reg = .CX_STATUS) (x : Nat) (hd : c ≠ d) : SameCtx t c s (u.setF f d x) :=
  ⟨(State.getReg_setF_ne _ _ _ _ _ _ (.inr hd)).trans h.status, h.ctx, by
    rw [State.granted, State.getReg_setF_ne _ _ _ _ _ _ (.inl (by rw [hf]; decide))]; exact h.granted⟩

theorem setCtx (h : SameCtx t c s u) (x : Ctx) (hd : c ≠ d) : SameCtx t c s (u.setCtx d x) :=
  ⟨h.status, (State.ctx_setCtx_ne _ _ hd).trans h.ctx, h.granted⟩

theorem setSkip (h : SameCtx t c s u) (x : Option Skip) : SameCtx t c s (u.setSkip d x) := ⟨h.status, h.ctx, h.granted⟩

end SameCtx

/-! ### A context granted and taken away -/

theorem State.grant_keeps (s : State) (h : c ≠ d) : SameCtx t c s (s.grant t d) :=
  (((SameCtx.refl t c s).setF rfl _ h).setF rfl _ h).setGranted true h

theorem State.turnOff_keeps (s : State) (h : c ≠ d) : SameCtx t c s (s.turnOff t d) :=
  ((((((((SameCtx.refl t c s).setCtx _ h).setSkip _).setF rfl _ h).setF rfl _ h).setF rfl _ h).setF rfl _ h).setF rfl _ h).setGranted
    false h

theorem State.grant_grants (s : State) (ht : t < 64) (c : Nat) :
    (s.grant t c).cxState c = 1 ∧ (s.grant t c).tenantOf c = t ∧ (s.grant t c).granted t c = true := by
  rw [grant_eq]
  refine ⟨?_, ?_, granted_setGranted_same _ _ _ _⟩
  · rw [cxState, getF_setGranted (by decide), getF_setF_apart _ _ _ _ _ _ rfl rfl, getF_setF_same _ _ _ _ rfl]
    rfl
  · rw [tenantOf, getF_setGranted (by decide), getF_setF_same _ _ _ _ rfl]
    exact Nat.mod_eq_of_lt ht

theorem State.turnOff_turnsOff (s : State) (t c : Nat) :
    (s.turnOff t c).cxState c = 0 ∧ (s.turnOff t c).flag CX_STATUS_IMAGE_VALID c = false ∧ (s.turnOff t c).granted t c = false := by
  rw [turnOff_eq]
  refine ⟨?_, ?_, granted_setGranted_same _ _ _ _⟩
  · rw [cxState, getF_setGranted (by decide), getF_setF_apart _ _ _ _ _ _ rfl rfl, getF_setF_apart _ _ _ _ _ _ rfl rfl,
      getF_setF_apart _ _ _ _ _ _ rfl rfl, getF_setF_apart _ _ _ _ _ _ rfl rfl, getF_setF_same _ _ _ _ rfl, Nat.zero_mod]
  · rw [flag, getF_setGranted (by decide), getF_setF_apart _ _ _ _ _ _ rfl rfl, getF_setF_apart _ _ _ _ _ _ rfl rfl,
      getF_setF_apart _ _ _ _ _ _ rfl rfl, getF_setF_same _ _ _ _ rfl, Nat.zero_mod]
    rfl

/-! ### One bit of the write -/

theorem State.maskBit_eq (s : State) (t c : Nat) (b : Bool) :
    s.maskBit t c b =
      if b && !s.granted t c && s.cxState c == 0 then s.grant t c
      else if !b && s.granted t c && s.resting c then s.turnOff t c else s := rfl

theorem State.maskBit_grants (h1 : s.granted t c = false) (h2 : s.cxState c = 0) : s.maskBit t c true = s.grant t c := by
  simp [maskBit_eq, h1, h2]

theorem State.maskBit_takes (h1 : s.granted t c = true) (h2 : s.resting c = true) : s.maskBit t c false = s.turnOff t c := by
  simp [maskBit_eq, h1, h2]

/-- A bit that says what the mask holds is without effect. -/
theorem State.maskBit_held (s : State) (t c : Nat) : s.maskBit t c (s.granted t c) = s := by
  cases h : s.granted t c <;> simp [maskBit_eq, h]

/-- A bit set for a context that is not OFF is without effect. -/
theorem State.maskBit_notOff (h : s.cxState c ≠ 0) : s.maskBit t c true = s := by simp [maskBit_eq, h]

/-- A bit cleared for a context that is not at rest is without effect. -/
theorem State.maskBit_busy (h : s.resting c = false) : s.maskBit t c false = s := by simp [maskBit_eq, h]

/-- The bit of one context leaves every other. -/
theorem State.maskBit_keeps (s : State) (b : Bool) (h : c ≠ d) : SameCtx t c s (s.maskBit t d b) := by
  rw [maskBit_eq]
  split
  · exact s.grant_keeps h
  · split
    · exact s.turnOff_keeps h
    · exact .refl t c s

/-! ### The whole write -/

theorem State.maskBits_succ {mask : Word} (s : State) (t i : Nat) (w : Word) (h : bitOf mask n = true) :
    s.maskBits t i w mask (n + 1) = (s.maskBits t i w mask n).maskBit t (64 * i + n) (bitOf w n) := by
  simp [maskBits, h]

/-- The first `n` bits leave a context that none of them names. -/
theorem State.maskBits_keeps (s : State) (w : Word) (hc : ∀ m < n, c ≠ 64 * i + m) (hn : n ≤ 64) :
    SameCtx t c s (s.maskBits t i w allBits n) := by
  induction n with
  | zero => exact .refl t c s
  | succ n ih =>
    rw [maskBits_succ _ _ _ _ (bitOf_allBits hn)]
    exact (ih (fun m hm => hc m (by omega)) (by omega)).trans (maskBit_keeps _ _ (hc n n.lt_succ_self))

/-- The context of bit `n` meets that bit as it was before the write, and keeps what the bit makes of it. -/
theorem State.maskBits_at (s : State) (t i : Nat) (w : Word) {k : Nat} (hn : n < k) (hk : k ≤ 64) :
    ∃ u, SameCtx t (64 * i + n) s u ∧
      SameCtx t (64 * i + n) (u.maskBit t (64 * i + n) (w.getLsbD n)) (s.maskBits t i w allBits k) := by
  induction k with
  | zero => omega
  | succ k ih =>
    rw [maskBits_succ _ _ _ _ (bitOf_allBits hk), bitOf_eq_getLsbD]
    by_cases h : n = k
    · subst h
      exact ⟨_, s.maskBits_keeps w (fun m hm => by omega) (by omega), .refl _ _ _⟩
    · obtain ⟨u, h1, h2⟩ := ih (by omega) (by omega)
      exact ⟨u, h1, h2.trans (maskBit_keeps _ _ (by omega))⟩

/-! ### What the write leaves unchanged -/

/-- What a write of TN_CTX_MASK may change. -/
def ctxMaskSpots (t i : Nat) : List Spot :=
  [Reg.at_ .TN_CTX_MASK (4 * t + i), CX_STATUS_STATE.all, CX_STATUS_TENANT.all, CX_STATUS_IMAGE_VALID.all, CX_STATUS_DEP.all,
    CX_STATUS_PRIOR.all]

theorem lists_ctxMask (t i : Nat) (h : c / 64 = i) : lists (ctxMaskSpots t i) ⟨.TN_CTX_MASK, 63, 0⟩ (4 * t + c / 64) = true := by
  subst h
  simp [lists, ctxMaskSpots, Reg.at_]

theorem State.setSkip_only (h : Only ws ps s u) (hp : Part.cores ∈ ps) (c : Nat) (x : Option Skip) : Only ws ps s (u.setSkip c x) :=
  setCore_only h hp _ _

theorem State.setGranted_only (h : Only (ctxMaskSpots t i) ps s u) (hc : c / 64 = i) (b : Bool) :
    Only (ctxMaskSpots t i) ps s (u.setGranted t c b) := h.setEntry _ _ _ (lists_ctxMask t i hc)

theorem State.grant_only (h : Only (ctxMaskSpots t i) ps s u) (hc : c / 64 = i) : Only (ctxMaskSpots t i) ps s (u.grant t c) :=
  setGranted_only ((h.setF CX_STATUS_STATE c 1 rfl rfl).setF CX_STATUS_TENANT c t rfl rfl) hc true

theorem State.turnOff_only (h : Only (ctxMaskSpots t i) [.ctxs, .cores] s u) (hc : c / 64 = i) :
    Only (ctxMaskSpots t i) [.ctxs, .cores] s (u.turnOff t c) := by
  have h1 := setSkip_only (setCtx_only h (by decide) c { u.ctx c with dep := none, wait := .none, latch := none }) (by decide) c none
  have h2 := (h1.setF CX_STATUS_STATE c 0 rfl rfl).setF CX_STATUS_IMAGE_VALID c 0 rfl rfl
  have h3 := ((h2.setF CX_STATUS_DEP c 0 rfl rfl).setF CX_STATUS_TENANT c 0 rfl rfl).setF CX_STATUS_PRIOR c 0 rfl rfl
  exact setGranted_only h3 hc false

theorem State.maskBit_only (h : Only (ctxMaskSpots t i) [.ctxs, .cores] s u) (hc : c / 64 = i) (b : Bool) :
    Only (ctxMaskSpots t i) [.ctxs, .cores] s (u.maskBit t c b) := .ite _ (grant_only h hc) (.ite _ (turnOff_only h hc) h)

theorem State.maskBits_only (s : State) (t i : Nat) (w mask : Word) (hn : n ≤ 64) :
    Only (ctxMaskSpots t i) [.ctxs, .cores] s (s.maskBits t i w mask n) := by
  induction n with
  | zero => exact .refl _ _ s
  | succ n ih => exact .ite _ (maskBit_only (ih (by omega)) (by omega) _) (ih (by omega))

/-! ### TN_CTX_MASK (R98) -/

theorem exec_ctxMaskWrite (data : Word) (hr : s.ready = true) (ht : t < 64) (hi : i < 4) :
    exec (.ctxMaskWrite t i data) s = .next (s.writeCtxMask t i data allBits) :=
  State.hostDoes_acts hr (by simp [ht, hi])

theorem State.granted_bit (s : State) (t i : Nat) (hn : n < 64) :
    s.granted t (64 * i + n) = bitOf (s.getReg .TN_CTX_MASK (4 * t + i)) n := by
  rw [granted, show (64 * i + n) / 64 = i by omega, show (64 * i + n) % 64 = n by omega]

section
variable {data : Word} (hn : n < 64)
include hn

theorem State.writeCtxMask_grants (ht : t < 64) (hd : data.getLsbD n = true) (hg : s.granted t (64 * i + n) = false)
    (hs : s.cxState (64 * i + n) = 0) :
    (s.writeCtxMask t i data allBits).cxState (64 * i + n) = 1 ∧ (s.writeCtxMask t i data allBits).tenantOf (64 * i + n) = t ∧
      (s.writeCtxMask t i data allBits).granted t (64 * i + n) = true := by
  obtain ⟨u, h1, h2⟩ := s.maskBits_at t i data hn le_rfl
  rw [hd, maskBit_grants (h1.granted.trans hg) (h1.cxState.trans hs)] at h2
  obtain ⟨hstate, htenant, hbit⟩ := u.grant_grants ht (64 * i + n)
  exact ⟨h2.cxState.trans hstate, h2.tenantOf.trans htenant, h2.granted.trans hbit⟩

theorem State.writeCtxMask_takes (hd : data.getLsbD n = false) (hg : s.granted t (64 * i + n) = true)
    (hs : s.resting (64 * i + n) = true) :
    (s.writeCtxMask t i data allBits).cxState (64 * i + n) = 0 ∧
      (s.writeCtxMask t i data allBits).flag CX_STATUS_IMAGE_VALID (64 * i + n) = false ∧
      (s.writeCtxMask t i data allBits).granted t (64 * i + n) = false := by
  obtain ⟨u, h1, h2⟩ := s.maskBits_at t i data hn le_rfl
  rw [hd, maskBit_takes (h1.granted.trans hg) (h1.resting.trans hs)] at h2
  obtain ⟨hstate, himage, hbit⟩ := u.turnOff_turnsOff t (64 * i + n)
  exact ⟨h2.cxState.trans hstate, h2.imageValid.trans himage, h2.granted.trans hbit⟩

/-- A context whose bit has no effect on it leaves the whole write as it was. -/
theorem State.writeCtxMask_keeps
    (h : ∀ u, SameCtx t (64 * i + n) s u → u.maskBit t (64 * i + n) (data.getLsbD n) = u) :
    SameCtx t (64 * i + n) s (s.writeCtxMask t i data allBits) := by
  obtain ⟨u, h1, h2⟩ := s.maskBits_at t i data hn le_rfl
  rw [h u h1] at h2
  exact h1.trans h2

theorem State.writeCtxMask_held (hg : s.granted t (64 * i + n) = data.getLsbD n) :
    SameCtx t (64 * i + n) s (s.writeCtxMask t i data allBits) :=
  writeCtxMask_keeps hn (fun u hu => by rw [← hg, ← hu.granted, maskBit_held])

theorem State.writeCtxMask_notOff (hd : data.getLsbD n = true) (hs : s.cxState (64 * i + n) ≠ 0) :
    SameCtx t (64 * i + n) s (s.writeCtxMask t i data allBits) :=
  writeCtxMask_keeps hn (fun u hu => by rw [hd, maskBit_notOff (by rwa [hu.cxState])])

theorem State.writeCtxMask_busy (hd : data.getLsbD n = false) (hs : s.resting (64 * i + n) = false) :
    SameCtx t (64 * i + n) s (s.writeCtxMask t i data allBits) :=
  writeCtxMask_keeps hn (fun u hu => by rw [hd, maskBit_busy (hu.resting.trans hs)])

end

/-- The contexts of the other three words. -/
theorem State.writeCtxMask_elsewhere (s : State) (t : Nat) (data : Word) (hc : c / 64 ≠ i) :
    SameCtx t c s (s.writeCtxMask t i data allBits) := s.maskBits_keeps data (fun m hm => by omega) le_rfl

theorem tenantGrants_contexts : contextGrants := by
  intro s t i data hr ht hi
  refine ⟨_, exec_ctxMaskWrite data hr ht hi, s.maskBits_only t i data allBits le_rfl,
    ?grants, ?takes, ?held, ?notOff, ?busy, ?elsewhere⟩
  case elsewhere =>
    intro c hc
    have h := s.writeCtxMask_elsewhere t data hc
    exact ⟨h.cxState, h.ctx⟩
  all_goals
    intro n hn
    rw [← State.granted_bit _ t i hn, ← State.granted_bit _ t i hn]
  case grants => exact State.writeCtxMask_grants hn ht
  case takes => exact State.writeCtxMask_takes hn
  case held =>
    intro hg
    have h := State.writeCtxMask_held hn hg
    exact ⟨h.cxState, h.granted.trans hg⟩
  case notOff =>
    intro hd hg hs
    have h := State.writeCtxMask_notOff (t := t) hn hd hs
    exact ⟨h.cxState, h.tenantOf, h.granted.trans hg⟩
  case busy =>
    intro hd hg hs
    have h := State.writeCtxMask_busy (t := t) hn hd hs
    exact ⟨h.cxState, h.granted.trans hg⟩

/-! ### TN_GATES (R97) -/

/-- The fields of TN_GATES under a write of the whole register. -/
theorem storeFields_tnGates (armed : Bool) (w old : Word) :
    storeFields armed w allBits Reg.TN_GATES.fields old = putBits (putBits old 28 16 (TN_GATES_COUNT.of w)) 11 0 (TN_GATES_BASE.of w) :=
  rfl

theorem State.getF_storeGates_base (s : State) (t : Nat) (w : Word) :
    (s.store .TN_GATES t w allBits false).getF TN_GATES_BASE t = TN_GATES_BASE.of w := by
  rw [store, storeFields_tnGates, getF, TN_GATES_BASE, getReg_setReg_same, bitsOf_putBits_same _ _ _ _ (by decide) (by decide)]
  exact Fld.of_mod TN_GATES_BASE w

theorem State.getF_storeGates_count (s : State) (t : Nat) (w : Word) :
    (s.store .TN_GATES t w allBits false).getF TN_GATES_COUNT t = TN_GATES_COUNT.of w := by
  rw [store, storeFields_tnGates, getF, TN_GATES_COUNT, getReg_setReg_same,
    bitsOf_putBits_apart _ _ _ _ _ _ (by decide) (by decide) (by decide), bitsOf_putBits_same _ _ _ _ (by decide) (by decide)]
  exact Fld.of_mod TN_GATES_COUNT w

/-- A bit that a field's place does not have lies outside the field. -/
theorem Fld.not_inside_of_has_at {f : Fld} {b : Nat} (h : (f.at_ t).has f.reg t b = false) : ¬ (f.lo ≤ b ∧ b ≤ f.hi) := by
  rintro ⟨hlo, hhi⟩
  simp [Spot.has, Fld.at_, hlo, hhi] at h

theorem State.storeGates_only (s : State) (t : Nat) (w : Word) :
    Only [TN_GATES_BASE.at_ t, TN_GATES_COUNT.at_ t] [] s (s.store .TN_GATES t w allBits false) := by
  refine (Only.refl _ _ s).setReg _ _ _ (fun b hb => ?_)
  have hbase : ¬ (0 ≤ b ∧ b ≤ 11) := Fld.not_inside_of_has_at (hb (TN_GATES_BASE.at_ t) (by simp))
  have hcount : ¬ (16 ≤ b ∧ b ≤ 28) := Fld.not_inside_of_has_at (hb (TN_GATES_COUNT.at_ t) (by simp))
  rw [storeFields_tnGates, getLsbD_putBits _ _ _ _ _ (by decide) (by decide), if_neg hbase,
    getLsbD_putBits _ _ _ _ _ (by decide) (by decide), if_neg hcount]

/-- The write goes through, or the register keeps its value. -/
theorem State.writeGates_eq (s : State) (t : Nat) (w : Word) :
    s.writeGates t w allBits =
      if s.tnState t ≠ 0 ∨ 4096 < TN_GATES_BASE.of w + TN_GATES_COUNT.of w ∨
        (TN_GATES_COUNT.of w ≠ 0 ∧ s.gatesMeet t (TN_GATES_BASE.of w) (TN_GATES_COUNT.of w) = true)
      then s else s.store .TN_GATES t w allBits false := by
  simp [writeGates, getF_storeGates_base, getF_storeGates_count, or_assoc]

theorem exec_tnGatesWrite (data : Word) (hr : s.ready = true) (ht : t < 64) :
    exec (.tnGatesWrite t data) s = .next (s.writeGates t data allBits) := State.hostDoes_acts hr (decide_eq_true ht)

theorem tenantGrants_gates : gateRangeWrite := by
  intro s t data hr ht
  simp only [Idle, Does, exec_tnGatesWrite data hr ht, s.writeGates_eq]
  refine ⟨fun hfree hfits hapart => ⟨_, rfl, ?_⟩, fun h => ?_, fun h => ?_, fun h1 h2 => ?_⟩
  · rw [if_neg]
    · exact ⟨s.storeGates_only t data, s.getF_storeGates_base t data, s.getF_storeGates_count t data⟩
    · rintro (h | h | ⟨h1, h2⟩)
      · exact h hfree
      · omega
      · rcases hapart with h | h
        · exact h1 h
        · simp [h] at h2
  · rw [if_pos (.inl h)]
  · rw [if_pos (.inr (.inl h))]
  · rw [if_pos (.inr (.inr ⟨h1, h2⟩))]

/-- Settles O11: the bits of a TN_CTX_MASK write one after another, and the three reasons that discard a TN_GATES write. -/
theorem tenantGrants : Obligations.TenantGrants := ⟨tenantGrants_contexts, tenantGrants_gates⟩

end Sys2Proof.Machine

/-! PROOFS. What every instruction does beside its own effect: its issue, a change of its context alone, its trap. -/

namespace Sys2Proof.Machine

variable {ws : List Spot} {ps : List Part} {s t u : State} {c d : Nat} {x y : Ctx}

/-! ### Registers that a frame does not name -/

/-- Some listed place lies in the register. -/
def touches (ws : List Spot) (r : Reg) : Bool := ws.any (fun p => decide (p.reg = r))

theorem Only.getReg (h : Only ws ps s t) {r : Reg} (hr : touches ws r = false) (i : Nat) : t.getReg r i = s.getReg r i := by
  refine BitVec.eq_of_getLsbD_eq (fun b _ => h.regs r i b (fun p hp => ?_))
  have hne : p.reg ≠ r := by simpa using List.any_eq_false.1 hr p hp
  simp [Spot.has, hne]

theorem Only.getF (h : Only ws ps s t) {f : Fld} (hf : touches ws f.reg = false) (i : Nat) : t.getF f i = s.getF f i := by
  simp only [State.getF, h.getReg hf]

theorem Only.flag (h : Only ws ps s t) {f : Fld} (hf : touches ws f.reg = false) (i : Nat) : t.flag f i = s.flag f i := by
  simp only [State.flag, h.getF hf]

theorem Only.arrBit (h : Only ws ps s t) {r : Reg} (hr : touches ws r = false) (b : Nat) : t.arrBit r b = s.arrBit r b := by
  simp only [State.arrBit, h.getReg hr]

/-! ### A context beside its flow trace -/

/-- The context without its flow trace. -/
def Ctx.bare (x : Ctx) : Ctx := { x with flow := {} }

@[simp] theorem Ctx.bare_next (x : Ctx) : x.next.bare = x.bare.next := rfl

@[simp] theorem Ctx.bare_setG (x : Ctx) (n : BitVec 5) (v : Word) : (x.setG n v).bare = x.bare.setG n v := by
  unfold setG; split <;> rfl

@[simp] theorem Ctx.bare_setP (x : Ctx) (n : Nat) (b : Bool) : (x.setP n b).bare = x.bare.setP n b := by
  unfold setP; split <;> rfl

theorem Ctx.next_setG (x : Ctx) (n : BitVec 5) (v : Word) : (x.setG n v).next = x.next.setG n v := by
  unfold setG; split <;> rfl

theorem Ctx.next_setP (x : Ctx) (n : Nat) (b : Bool) : (x.setP n b).next = x.next.setP n b := by
  unfold setP; split <;> rfl

/-- From `s` to `t` no context changes, but for the flow trace of context `c`. -/
structure FlowOnly (c : Nat) (s t : State) : Prop where
  ctx : (t.ctx c).bare = (s.ctx c).bare
  others : ∀ d, d ≠ c → t.ctx d = s.ctx d

theorem FlowOnly.of_ctxs (h : t.ctxs = s.ctxs) : FlowOnly c s t :=
  ⟨by simp only [State.ctx, h], fun d _ => by simp only [State.ctx, h]⟩

theorem FlowOnly.refl (c : Nat) (s : State) : FlowOnly c s s := .of_ctxs rfl

theorem FlowOnly.trans (h1 : FlowOnly c s t) (h2 : FlowOnly c t u) : FlowOnly c s u :=
  ⟨h2.ctx.trans h1.ctx, fun d hd => (h2.others d hd).trans (h1.others d hd)⟩

theorem FlowOnly.ite (p : Prop) [Decidable p] (h1 : FlowOnly c s t) (h2 : FlowOnly c s u) : FlowOnly c s (if p then t else u) := by
  split <;> assumption

/-- A frame without the contexts. -/
theorem FlowOnly.of_only (h : Only ws ps s t) (hp : Part.ctxs ∉ ps) : FlowOnly c s t := .of_ctxs (h.parts .ctxs hp)

theorem State.setFlow_flowOnly (s : State) (c : Nat) (f : Flow) : FlowOnly c s (s.setFlow c f) :=
  ⟨by rw [setFlow, ctx_setCtx_same]; rfl, fun _ hd => ctx_setCtx_ne _ _ hd⟩

theorem State.offerFlow_flowOnly (s : State) (c typ slots : Nat) (payload : List Byte) :
    FlowOnly c s (s.offerFlow c typ slots payload) := by
  have h := append_only (List.Subset.refl formSpots) (List.Subset.refl formParts) 3 s (.refl _ _ s)
    (s.unitRec typ slots 2 (s.tenantOf c) (0x8200 + c) payload)
  have h1 : FlowOnly c s _ := .of_only h (by decide)
  exact .ite _ h1 (h1.trans (setFlow_flowOnly _ _ _))

theorem State.syncFlow_flowOnly (s : State) (c reason : Nat) : FlowOnly c s (s.syncFlow c reason) :=
  (s.setFlow_flowOnly c _).trans (offerFlow_flowOnly _ _ _ _ _)

theorem State.sendFlow_flowOnly (s : State) (c typ : Nat) (payload : List Byte) : FlowOnly c s (s.sendFlow c typ payload) :=
  .ite _ (s.syncFlow_flowOnly c 3) (s.offerFlow_flowOnly c typ 1 payload)

theorem State.flushFlow_flowOnly (s : State) (c : Nat) : FlowOnly c s (s.flushFlow c) :=
  .ite _ (.refl c s) ((s.setFlow_flowOnly c _).trans (sendFlow_flowOnly _ _ _ _))

theorem State.draw_flowOnly (s : State) (c : Nat) : FlowOnly c s s.draw.2 := .of_ctxs rfl

theorem State.firstFlow_flowOnly (s : State) (c : Nat) : FlowOnly c s (s.firstFlow c) := by
  have h1 := s.setFlow_flowOnly c { (s.ctx c).flow with first := false }
  have h2 := h1.trans (draw_flowOnly _ c)
  exact .ite _ (.refl c s) (.ite _ h1 (h2.trans ((offerFlow_flowOnly _ c _ _ _).trans (syncFlow_flowOnly _ c 2))))

theorem State.endFlow_flowOnly (s : State) (c : Nat) : FlowOnly c s (s.endFlow c) := by
  have h1 := (s.draw_flowOnly c).trans (flushFlow_flowOnly _ c)
  have h2 := h1.trans (syncFlow_flowOnly _ c 3)
  exact .ite _ (.refl c s) (.ite _ (.ite _ h2 h1) ((FlowOnly.ite _ h2 h1).trans (offerFlow_flowOnly _ c _ _ _)))

/-! ### Issue (R104, R105) -/

/-- What an issue changes before the instruction acts. -/
theorem State.begin_frame (s : State) (c : Nat) :
    Only (CORE_STAT_ISSUED.at_ (coreOf c) :: formSpots) (.ctxs :: .cores :: formParts) s (s.begin c) :=
  begin_only (.refl _ _ s) (List.subset_cons_self _ _) (fun _ hp => .tail _ (.tail _ hp)) (by decide) c
    (by simp [lists, CORE_STAT_ISSUED, Fld.at_]) (by decide)

theorem State.begin_flowOnly (s : State) (c : Nat) : FlowOnly c s (s.begin c) := by
  have h1 := fun x => setCore_only (.refl (CORE_STAT_ISSUED.at_ (coreOf c) :: counterSpots) [.cores] s) (by decide) (coreOf c) x
  have h2 := fun x => countBlock_only ((h1 x).incF CORE_STAT_ISSUED (coreOf c) rfl (by simp [lists, CORE_STAT_ISSUED, Fld.at_]))
    (List.subset_cons_self _ _) 13 1
  exact (FlowOnly.of_only (h2 _) (by decide)).trans (firstFlow_flowOnly _ c)

@[simp] theorem State.bare_ctx_begin (s : State) (c : Nat) : ((s.begin c).ctx c).bare = (s.ctx c).bare := (s.begin_flowOnly c).ctx

/-- What a context shows beside its flow trace is the same after the issue. -/
theorem State.of_ctx_begin {α : Type} (p : Ctx → α) (hp : ∀ x : Ctx, p x.bare = p x) (s : State) (c : Nat) :
    p ((s.begin c).ctx c) = p (s.ctx c) := by rw [← hp, bare_ctx_begin, hp]

@[simp] theorem State.latch_begin (s : State) (c : Nat) : ((s.begin c).ctx c).latch = (s.ctx c).latch := s.of_ctx_begin _ (fun _ => rfl) c
@[simp] theorem State.snap_begin (s : State) (c : Nat) : ((s.begin c).ctx c).snap = (s.ctx c).snap := s.of_ctx_begin _ (fun _ => rfl) c
@[simp] theorem State.gr_begin (s : State) (c : Nat) (n : BitVec 5) : ((s.begin c).ctx c).gr n = (s.ctx c).gr n :=
  s.of_ctx_begin (·.gr n) (fun _ => rfl) c
@[simp] theorem State.guard_begin (s : State) (c : Nat) (f : FmtA) : ((s.begin c).ctx c).guard f = (s.ctx c).guard f :=
  s.of_ctx_begin (·.guard f) (fun _ => rfl) c

theorem State.tenantOf_begin (s : State) (c : Nat) : (s.begin c).tenantOf c = s.tenantOf c := (s.begin_frame c).getF rfl c

/-- An instruction that the context fetches is executed after the issue. -/
theorem Fetches.issue_eq {i : Instr} {need word : Nat} (h : Fetches s c need i) (hw : encodeEhrile i = some word) (illegal takesPrefix : Bool)
    (run : State → Exec) : s.issue c need word illegal takesPrefix run = (s.begin c).execute c word illegal takesPrefix run := by
  have hword : s.fetchWord c = word := Option.some.inj (h.word.symm.trans hw)
  simp [State.issue, h.issues, h.inside, hword]

/-! ### An instruction that changes its context alone -/

/-- From `s` to `t` nothing changes but context `c`, which becomes `y`. -/
structure CtxOnly (c : Nat) (s t : State) (y : Ctx) : Prop where
  ctx : t.ctx c = y
  others : ∀ d, d ≠ c → t.ctx d = s.ctx d
  only : Only [] [.ctxs] s t

theorem CtxOnly.refl (c : Nat) (s : State) : CtxOnly c s s (s.ctx c) := ⟨rfl, fun _ _ => rfl, .refl _ _ s⟩

theorem CtxOnly.setCtx (h : CtxOnly c s t y) (x : Ctx) : CtxOnly c s (t.setCtx c x) x :=
  ⟨State.ctx_setCtx_same _ _ _, fun d hd => (State.ctx_setCtx_ne _ _ hd).trans (h.others d hd), State.setCtx_only h.only (by decide) c x⟩

theorem CtxOnly.writeG (h : CtxOnly c s t y) (n : BitVec 5) (v : Word) : CtxOnly c s (t.writeG c n v) (y.setG n v) := by
  rw [State.writeG, h.ctx]; exact h.setCtx _

theorem CtxOnly.writeP (h : CtxOnly c s t y) (n : Nat) (b : Bool) : CtxOnly c s (t.writeP c n b) (y.setP n b) := by
  rw [State.writeP, h.ctx]; exact h.setCtx _

theorem CtxOnly.retire (h : CtxOnly c s t y) : CtxOnly c s (t.retire c (t.nextPc c)) y.next := by
  rw [State.retire, State.nextPc, h.ctx]; exact h.setCtx _

/-- An instruction that no L precedes, whose encoding is sound and that goes on in sequence after it has changed its context alone. -/
theorem Fetches.sets {i : Instr} {need word : Nat} {illegal takesPrefix : Bool} {run : State → Exec} (h : Fetches s c need i)
    (hl : (s.ctx c).latch = none) (hx : exec i s = s.issue c need word illegal takesPrefix run) (hw : encodeEhrile i = some word)
    (hi : illegal = false) (hr : run (s.begin c) = t.goOn c) (ht : CtxOnly c (s.begin c) t y) (hy : y.next.bare = x.bare) :
    Sets i c s x := by
  subst hi
  have hrun : exec i s = .next (t.retire c (t.nextPc c)) := by
    rw [hx, h.issue_eq hw]; exact State.execute_done (.inr (by rwa [State.latch_begin])) hr
  obtain ⟨hctx, hothers, honly⟩ := ht.retire
  exact ⟨_, hrun, (congrArg Ctx.bare hctx).trans hy, fun d hd => (hothers d hd).trans ((s.begin_flowOnly c).others d hd), honly, trivial⟩

/-! ### Traps (R103, R166) -/

theorem State.arrBit_setArrBit_same (s : State) (r : Reg) (b : Nat) (v : Bool) : (s.setArrBit r b v).arrBit r b = v := by
  rw [arrBit, setArrBit, getReg_setReg_same]
  exact bitOf_putBits_same _ _ (Nat.mod_lt _ (by decide))

/-- A vector that is raised is pending. -/
theorem State.arrBit_raise (s : State) (v : Nat) : (s.raise v).arrBit .IRQ_PEND v = true := by
  have h := s.arrBit_setArrBit_same .IRQ_PEND v true
  unfold raise
  split
  · assumption
  · dsimp only
    split
    · exact h
    · exact h

/-- A trap's interrupt changes the interrupt registers alone. -/
theorem State.raiseTrap_frame (s : State) (t : Nat) : Only tenantIrqSpots [.out] s (s.raiseTenant t IRQ_TCAUSE_TRAP) :=
  raiseTenant_only (.refl _ _ s) (List.Subset.refl _) (by decide) t _ rfl rfl

/-- A tenant's TRAP cause reads 1 once it is raised, and the tenant's vector is pending. -/
theorem State.raiseTrap_reads (s : State) (t : Nat) : (s.raiseTenant t IRQ_TCAUSE_TRAP).flag IRQ_TCAUSE_TRAP t = true ∧
    (s.raiseTenant t IRQ_TCAUSE_TRAP).arrBit .IRQ_PEND (64 + t) = true := by
  have h := raise_only (.refl irqSpots [.out] (s.setFlag IRQ_TCAUSE_TRAP t true)) (List.Subset.refl _) (by decide) (64 + t)
  refine ⟨?_, arrBit_raise _ _⟩
  rw [raiseTenant, h.flag rfl, flag, setFlag, getF_setF_same _ _ _ _ rfl]
  rfl

/-- The trap shown in the registers of its context: CX_TRAP and STATE. -/
def State.showTrap (s : State) (c cause info : Nat) : State :=
  ((s.setF CX_TRAP_CAUSE c cause).setF CX_TRAP_INFO c info).setF CX_STATUS_STATE c 6

theorem State.showTrap_reads (s : State) (c cause info : Nat) :
    (s.showTrap c cause info).getF CX_TRAP_CAUSE c = cause % 2 ^ 16 ∧ (s.showTrap c cause info).getF CX_TRAP_INFO c = info % 2 ^ 48 ∧
      (s.showTrap c cause info).cxState c = 6 := by
  refine ⟨?_, ?_, getF_setF_same _ _ _ _ rfl⟩
  · rw [showTrap, getF_setF_apart _ _ _ _ _ _ rfl rfl, getF_setF_apart _ _ _ _ _ _ rfl rfl, getF_setF_same _ _ _ _ rfl]
    rfl
  · rw [showTrap, getF_setF_apart _ _ _ _ _ _ rfl rfl, getF_setF_same _ _ _ _ rfl]
    rfl

/-- A trapped context: at the boundary of its instruction, the latch empty. -/
def Ctx.trapped (x : Ctx) : Ctx := { x with pc := x.boundary, latch := none }

@[simp] theorem Ctx.bare_trapped (x : Ctx) : x.trapped.bare = x.bare.trapped := rfl

/-- The steps of a trap: the context, the end of its flow trace, the registers, the tenant's interrupt. -/
theorem State.trapCtx_eq (s : State) (c cause info : Nat) :
    s.trapCtx c cause info =
      (((s.setCtx c (s.ctx c).trapped).endFlow c).showTrap c cause info).raiseTenant (s.tenantOf c) IRQ_TCAUSE_TRAP := rfl

theorem State.trapCtx_contexts (s : State) (c cause info : Nat) :
    ((s.trapCtx c cause info).ctx c).bare = (s.ctx c).trapped.bare ∧ ∀ d, d ≠ c → (s.trapCtx c cause info).ctx d = s.ctx d := by
  have hshow : FlowOnly c ((s.setCtx c (s.ctx c).trapped).endFlow c) (((s.setCtx c (s.ctx c).trapped).endFlow c).showTrap c cause info) :=
    .of_ctxs rfl
  have h := ((endFlow_flowOnly _ c).trans hshow).trans (.of_only (raiseTrap_frame _ (s.tenantOf c)) (by decide))
  rw [trapCtx_eq]
  exact ⟨h.ctx.trans (by rw [ctx_setCtx_same]), fun d hd => (h.others d hd).trans (ctx_setCtx_ne _ _ hd)⟩

theorem State.trapCtx_frame (s : State) (c cause info : Nat) :
    Only (trapSpots s c) (.ctxs :: .out :: formParts) s (s.trapCtx c cause info) := by
  have hform : formSpots ⊆ trapSpots s c := List.subset_append_left _ _
  have hirq : irqSpots ⊆ trapSpots s c := by simp [irqSpots, trapSpots]
  have h1 := endFlow_only (setCtx_only (.refl (trapSpots s c) (.ctxs :: .out :: formParts) s) (by decide) c (s.ctx c).trapped) hform
    (fun _ hp => .tail _ (.tail _ hp)) (by decide) c
  have h2 := ((h1.setF CX_TRAP_CAUSE c cause rfl (by simp [lists, trapSpots, Fld.at_])).setF CX_TRAP_INFO c info rfl
    (by simp [lists, trapSpots, Fld.at_])).setF CX_STATUS_STATE c 6 rfl (by simp [lists, trapSpots, Fld.at_])
  exact raise_only (h2.setFlag IRQ_TCAUSE_TRAP (s.tenantOf c) true rfl (by simp [lists, trapSpots, Fld.at_])) hirq (by decide) _

theorem State.trapCtx_reads (s : State) (c cause info : Nat) :
    (s.trapCtx c cause info).getF CX_TRAP_CAUSE c = cause % 2 ^ 16 ∧ (s.trapCtx c cause info).getF CX_TRAP_INFO c = info % 2 ^ 48 ∧
      (s.trapCtx c cause info).cxState c = 6 ∧ (s.trapCtx c cause info).flag IRQ_TCAUSE_TRAP (s.tenantOf c) = true ∧
      (s.trapCtx c cause info).arrBit .IRQ_PEND (64 + s.tenantOf c) = true := by
  rw [trapCtx_eq, (raiseTrap_frame _ _).getF rfl, (raiseTrap_frame _ _).getF rfl, cxState, (raiseTrap_frame _ _).getF rfl]
  obtain ⟨hcause, hinfo, hstate⟩ := showTrap_reads ((s.setCtx c (s.ctx c).trapped).endFlow c) c cause info
  exact ⟨hcause, hinfo, hstate, raiseTrap_reads _ _⟩

/-- An instruction that no L precedes, whose encoding is sound and that traps before it has changed anything. -/
theorem Fetches.traps {i : Instr} {need word cause info : Nat} {illegal takesPrefix : Bool} {run : State → Exec} (h : Fetches s c need i)
    (hl : (s.ctx c).latch = none) (hx : exec i s = s.issue c need word illegal takesPrefix run) (hw : encodeEhrile i = some word)
    (hi : illegal = false) (hr : run (s.begin c) = .trap cause info (s.begin c)) (hc : cause < 2 ^ 16) : Traps i c s cause info := by
  subst hi
  have hrun : exec i s = .next ((s.begin c).trapCtx c cause info) := by
    rw [hx, h.issue_eq hw]; simp [State.execute, hl, hr]
  obtain ⟨hctx, hothers⟩ := (s.begin c).trapCtx_contexts c cause info
  have hframe := (s.begin c).trapCtx_frame c cause info
  have hreads := (s.begin c).trapCtx_reads c cause info
  rw [trapSpots, s.tenantOf_begin c] at hframe
  rw [s.tenantOf_begin c, Nat.mod_eq_of_lt hc] at hreads
  obtain ⟨hcause, hinfo, hstate, hflag, hpend⟩ := hreads
  refine ⟨_, hrun, hctx.trans ?_, fun d hd => (hothers d hd).trans ((s.begin_flowOnly c).others d hd), hframe,
    hcause, hinfo, hstate, hflag, hpend, trivial⟩
  rw [Ctx.bare_trapped, State.bare_ctx_begin]
  rfl

end Sys2Proof.Machine

/-! PROOFS. O25: RDTIME and RDCTR (R142, R143). -/

namespace Sys2Proof.Machine

variable {s t : State} {c : Nat} {x y : Ctx}

/-! ### What an issue leaves as it was -/

theorem State.time_begin (s : State) (c : Nat) : (s.begin c).time = s.time := (s.begin_frame c).parts .time (by decide)

theorem State.taps_begin (s : State) (c : Nat) : (s.begin c).taps = s.taps := (s.begin_frame c).parts .taps (by decide)

theorem State.running_begin (s : State) (c : Nat) : (s.begin c).running = s.running := (s.begin_frame c).flag rfl 0

theorem State.epoch_begin (s : State) (c : Nat) : (s.begin c).epoch = s.epoch := (s.begin_frame c).getF rfl 0

theorem State.rawNow_begin (s : State) (c : Nat) : (s.begin c).rawNow = s.rawNow := by simp only [rawNow, time_begin]

theorem State.fabNow_begin (s : State) (c : Nat) : (s.begin c).fabNow = s.fabNow := by
  simp only [fabNow, fabAt, rawNow_begin, time_begin]

theorem State.shortNow_begin (s : State) (c : Nat) : (s.begin c).shortNow = s.shortNow := by simp only [shortNow, fabNow_begin]

theorem State.timeWordOf_begin (s : State) (c : Nat) (n : Snap) (sel : Nat) : (s.begin c).timeWordOf n sel = s.timeWordOf n sel := by
  simp only [timeWordOf, (s.begin_frame c).getF (f := TB_STATUS_HOLD_LEFT) rfl, (s.begin_frame c).getF (f := TB_CTRL_QUALITY) rfl]

theorem State.firstSlot_begin (s : State) (c p : Nat) : (s.begin c).firstSlot p = s.firstSlot p := by
  simp only [firstSlot, taps_begin]

theorem State.portOwner_begin (s : State) (c p : Nat) : (s.begin c).portOwner p = s.portOwner p := by
  simp only [portOwner, firstSlot_begin, tnState, (s.begin_frame c).getF (f := TN_STATUS_STATE) rfl,
    (s.begin_frame c).getReg (r := .TN_PORT_MASK) rfl]

theorem State.countable_begin (s : State) (c t i : Nat) : (s.begin c).countable t i = s.countable t i := by
  simp only [countable, sysTenant, portOf, taps_begin, portOwner_begin, (s.begin_frame c).getF (f := MYB_SYSTEN_SYS_TENANT) rfl]

/-! ### RDTIME and RDCTR -/

/-- The snapshot that SEL 0 latches. -/
def State.snapNow (s : State) : Snap := { raw := s.rawNow % 2 ^ 64, fab := s.fabNow, epoch := s.epoch }

theorem State.snapNow_begin (s : State) (c : Nat) : (s.begin c).snapNow = s.snapNow := by
  simp only [snapNow, rawNow_begin, fabNow_begin, epoch_begin]

/-- The context with another snapshot. -/
def Ctx.withSnap (x : Ctx) (n : Snap) : Ctx := { x with snap := n }

theorem Ctx.bare_withSnap (x : Ctx) (n : Snap) : (x.withSnap n).bare = x.bare.withSnap n := rfl

/-- The words of SEL 1 to 4, as a table. -/
theorem State.timeWordOf_of_table {n : Snap} {k : Nat} {v : Word} (s : State)
    (h : [BitVec.ofNat 64 n.raw, BitVec.ofNat 64 (n.epoch % 65536 * 2 ^ 48 + secOf n.fab),
      BitVec.ofNat 64 (n.epoch % 65536 * 2 ^ 48 + nsOf n.fab * 2 ^ 16 + fracOf n.fab),
      BitVec.ofNat 64 (s.getF TB_STATUS_HOLD_LEFT 0 * 2 ^ 16 + s.getF TB_CTRL_QUALITY 0)][k]? = some v) :
    k < 4 ∧ s.timeWordOf n (k + 1) = v := by
  match k, h with
  | 0, h | 1, h | 2, h | 3, h => exact ⟨by decide, Option.some.inj h⟩

/-- An instruction of format T that gives g[rd] and p[PD] after it has changed its context alone. -/
theorem Fetches.result_sets {i : Instr} {op : Nat} {f : FmtT} {v : Word} {ok illegal : Bool} {run : State → Exec} (h : Fetches s c 1 i)
    (hl : (s.ctx c).latch = none) (hx : exec i s = s.issueT c op f illegal run) (hw : encodeEhrile i = some (encT op f))
    (hi : illegal = false) (hr : run (s.begin c) = t.result c f v ok) (ht : CtxOnly c (s.begin c) t y) (hy : y.bare = x.bare) :
    Sets i c s ((x.next.setG f.rd v).setP f.pd.toNat ok) :=
  h.sets hl hx hw hi hr ((ht.writeG f.rd v).writeP f.pd.toNat ok) (by simp [Ctx.next_setP, Ctx.next_setG, hy])

section
variable {f : FmtT} (hl : (s.ctx c).latch = none)
include hl

section
variable (h : Fetches s c 1 (.rdtime c f)) (ha : f.ra = 0) (hb : f.rb = 0)
include h ha hb

/-- Before time has started RDTIME gives 0 with p[PD] = 0 and latches nothing. -/
theorem Fetches.rdtime_stopped (hctl : f.ctl.toNat < 5) (hs : s.running = false) :
    Sets (.rdtime c f) c s (((s.ctx c).next.setG f.rd 0).setP f.pd.toNat false) :=
  h.result_sets hl rfl rfl (by simp [ha, hb, hctl]) (by simp [State.running_begin, hs]) (.refl c _) (s.bare_ctx_begin c)

/-- SEL 0 gives the short stamp and latches the snapshot. -/
theorem Fetches.rdtime_latches (hctl : f.ctl = 0) (hs : s.running = true) :
    Sets (.rdtime c f) c s (((((s.ctx c).next.withSnap s.snapNow).setG f.rd (BitVec.ofNat 64 s.shortNow)).setP f.pd.toNat true)) :=
  h.result_sets hl rfl rfl (by simp [ha, hb, hctl])
    (by simp only [State.running_begin, hs, hctl, State.shortNow_begin, if_true, Bool.not_true, Bool.false_eq_true, if_false]; rfl)
    ((CtxOnly.refl c _).setCtx _) (x := (s.ctx c).withSnap s.snapNow) (y := ((s.begin c).ctx c).withSnap (s.begin c).snapNow)
    (by rw [Ctx.bare_withSnap, State.bare_ctx_begin, State.snapNow_begin]; rfl)

/-- SEL 1 to 4 give a part of the snapshot, or the quality. -/
theorem Fetches.rdtime_reads (hctl : f.ctl ≠ 0) (h5 : f.ctl.toNat < 5) (hs : s.running = true) :
    Sets (.rdtime c f) c s (((s.ctx c).next.setG f.rd (s.timeWordOf (s.ctx c).snap f.ctl.toNat)).setP f.pd.toNat true) :=
  h.result_sets hl rfl rfl (by simp [ha, hb, h5])
    (by simp only [State.running_begin, hs, hctl, State.timeWordOf_begin, State.snap_begin, Bool.not_true, Bool.false_eq_true, if_false])
    (.refl c _) (s.bare_ctx_begin c)

end

section
variable (h : Fetches s c 1 (.rdctr c f)) (hb : f.rb = 0) (hctl : f.ctl.toNat < 2)
include h hb hctl

theorem Fetches.rdctr_traps (hc : s.countable (s.tenantOf c) ((s.ctx c).gr f.ra).toNat = false) :
    Traps (.rdctr c f) c s 0x0004 ((s.ctx c).gr f.ra).toNat :=
  h.traps hl rfl rfl (by simp [hb, hctl]) (by simp [State.countable_begin, State.tenantOf_begin, hc]) (by decide)

/-- BANK 0 gives the live counter as the read token meets it. -/
theorem Fetches.rdctr_live (hc : s.countable (s.tenantOf c) ((s.ctx c).gr f.ra).toNat = true) (h0 : f.ctl = 0) :
    Sets (.rdctr c f) c s (((s.ctx c).next.setG f.rd ((s.begin c).liveValue ((s.ctx c).gr f.ra).toNat)).setP f.pd.toNat
      ((s.begin c).liveOvf ((s.ctx c).gr f.ra).toNat)) :=
  h.result_sets hl rfl rfl (by simp [hb, hctl]) (by simp [State.countable_begin, State.tenantOf_begin, hc, h0]) (.refl c _)
    (s.bare_ctx_begin c)

/-- BANK 1 gives the harvest shadow. -/
theorem Fetches.rdctr_shadow (hc : s.countable (s.tenantOf c) ((s.ctx c).gr f.ra).toNat = true) (h0 : f.ctl ≠ 0) :
    Sets (.rdctr c f) c s (((s.ctx c).next.setG f.rd (s.getReg .HV_SHADOW ((s.ctx c).gr f.ra).toNat)).setP f.pd.toNat
      (s.arrBit .HV_OVF ((s.ctx c).gr f.ra).toNat)) :=
  h.result_sets hl rfl rfl (by simp [hb, hctl])
    (by simp only [State.countable_begin, State.tenantOf_begin, State.gr_begin, hc, h0, (s.begin_frame c).getReg (r := .HV_SHADOW) rfl,
      (s.begin_frame c).arrBit (r := .HV_OVF) rfl, Bool.not_true, Bool.false_eq_true, if_false]) (.refl c _) (s.bare_ctx_begin c)

end

end

/-- Settles O25: RDTIME by its SEL and by whether time has started, RDCTR by its BANK and by the grant. -/
theorem timeAndCounterReads : Obligations.TimeAndCounterReads := by
  rintro s c f hl hb x rfl
  refine ⟨fun ha h => ⟨fun hs hctl => h.rdtime_stopped hl ha hb hctl hs, fun hs hctl => h.rdtime_latches hl ha hb hctl hs,
    fun v hs hv hctl => ?reads⟩, fun h hctl i hi => ?counters⟩
  case reads =>
    have hpos : f.ctl.toNat - 1 + 1 = f.ctl.toNat := Nat.sub_add_cancel (Nat.pos_of_ne_zero (fun he => hctl (BitVec.eq_of_toNat_eq he)))
    obtain ⟨hlt, rfl⟩ := s.timeWordOf_of_table hv
    rw [hpos]
    exact h.rdtime_reads hl ha hb hctl (by omega) hs
  case counters =>
    subst hi
    exact ⟨fun hc h0 => h.rdctr_live hl hb hctl hc h0, fun hc h1 => h.rdctr_shadow hl hb hctl hc (by rw [h1]; decide),
      fun hc => h.rdctr_traps hl hb hctl hc⟩

end Sys2Proof.Machine

/-! PROOFS. O19: the integer functions of two registers (R129, R130). Each function of the model is first shown to be the number that the rule
gives; what the instructions share is then one lemma. -/

namespace Sys2Proof.Machine

/-! ### The integer functions as numbers (R129, R130) -/

theorem amount_lt (b : Word) : amount b < 64 := Nat.mod_lt _ (by decide)

theorem add_eq_ofNat (a b : Word) : a + b = BitVec.ofNat 64 (a.toNat + b.toNat) := by
  apply BitVec.eq_of_toNat_eq
  rw [BitVec.toNat_add, BitVec.toNat_ofNat]

theorem sub_eq_ofInt (a b : Word) : a - b = BitVec.ofInt 64 (a.toNat - b.toNat) := by
  apply BitVec.eq_of_toNat_eq
  have := a.isLt
  have := b.isLt
  simp only [BitVec.toNat_sub, BitVec.toNat_ofInt]
  omega

theorem sllOf_eq (a b : Word) : sllOf a b = BitVec.ofNat 64 (a.toNat * 2 ^ amount b) :=
  BitVec.eq_of_toNat_eq (by rw [sllOf, BitVec.toNat_shiftLeft, Nat.shiftLeft_eq, BitVec.toNat_ofNat])

theorem srlOf_eq (a b : Word) : srlOf a b = BitVec.ofNat 64 (a.toNat / 2 ^ amount b) := by
  rw [← Nat.shiftRight_eq_div_pow, ← BitVec.toNat_ushiftRight, BitVec.ofNat_toNat, BitVec.setWidth_eq, srlOf]

theorem sraOf_eq (a b : Word) : sraOf a b = BitVec.ofInt 64 (a.toInt / 2 ^ amount b) := by
  rw [sraOf, BitVec.sshiftRight, Int.shiftRight_eq_div_pow]
  push_cast; rfl

theorem rorOf_eq (a b : Word) : rorOf a b = BitVec.ofNat 64 (a.toNat / 2 ^ amount b + a.toNat * 2 ^ (64 - amount b)) := by
  have hn := amount_lt b
  have hdisj : (a >>> amount b) &&& (a <<< (64 - amount b)) = 0#64 := by
    refine BitVec.eq_of_getLsbD_eq (fun i hi => ?_)
    rw [BitVec.getLsbD_and, BitVec.getLsbD_ushiftRight, BitVec.getLsbD_shiftLeft, BitVec.getLsbD_zero]
    by_cases h : i < 64 - amount b
    · simp [h]
    · rw [BitVec.getLsbD_of_ge _ _ (by omega), Bool.false_and]
  rw [rorOf, BitVec.rotateRight_def, Nat.mod_eq_of_lt hn, ← BitVec.add_eq_or_of_and_eq_zero _ _ hdisj]
  apply BitVec.eq_of_toNat_eq
  simp [Nat.shiftRight_eq_div_pow, Nat.shiftLeft_eq]

theorem size_eq_log2_succ {n : Nat} (h : n ≠ 0) : n.size = n.log2 + 1 :=
  eq_of_forall_ge_iff (fun k => by rw [Nat.size_le, ← Nat.log2_lt h, Nat.lt_iff_add_one_le])

theorem clzOf_eq (a : Word) : clzOf a = BitVec.ofNat 64 (64 - a.toNat.size) := by
  unfold clzOf
  by_cases ha : a = 0
  · subst ha
    rfl
  · have h : a.toNat ≠ 0 := fun h => ha (BitVec.eq_of_toNat_eq h)
    rw [if_neg ha, size_eq_log2_succ h, Nat.add_sub_add_right 63 1]

theorem testBit_of_lt_padicValNat {n j : Nat} (h : j < padicValNat 2 n) : n.testBit j = false := by
  obtain ⟨m, hm⟩ := pow_padicValNat_dvd (p := 2) (n := n)
  rw [hm, Nat.testBit_two_pow_mul, decide_eq_false (by omega), Bool.false_and]

theorem testBit_padicValNat {n : Nat} (h : n ≠ 0) : n.testBit (padicValNat 2 n) = true := by
  obtain ⟨m, hm⟩ := pow_padicValNat_dvd (p := 2) (n := n)
  have hodd : ¬ 2 ∣ m := fun ⟨k, hk⟩ => pow_succ_padicValNat_not_dvd (p := 2) h ⟨k, by rw [pow_succ, mul_assoc, ← hk, ← hm]⟩
  generalize padicValNat 2 n = v at hm
  subst hm
  simp [Nat.testBit_two_pow_mul, Nat.testBit_zero, Nat.two_dvd_ne_zero.1 hodd]

theorem ctzOf_eq (a : Word) : ctzOf a = BitVec.ofNat 64 (if a = 0 then 64 else padicValNat 2 a.toNat) := by
  unfold ctzOf
  congr 1
  by_cases ha : a = 0
  · subst ha
    exact List.findIdx_eq_length_of_false (by simp)
  · have h : a.toNat ≠ 0 := fun h => ha (BitVec.eq_of_toNat_eq h)
    have hlt : padicValNat 2 a.toNat < (List.range 64).length := by
      rw [List.length_range, ← Nat.pow_lt_pow_iff_right (a := 2) (by decide)]
      exact (Nat.le_of_dvd (Nat.pos_of_ne_zero h) pow_padicValNat_dvd).trans_lt a.isLt
    rw [if_neg ha, List.findIdx_eq hlt]
    simp only [List.getElem_range, BitVec.getLsbD]
    exact ⟨testBit_padicValNat h, fun j hj => testBit_of_lt_padicValNat hj⟩

theorem length_filter_eq_sum {α : Type} (p : α → Bool) (l : List α) : (l.filter p).length = (l.map (fun x => (p x).toNat)).sum := by
  induction l with
  | nil => rfl
  | cons x l ih => cases h : p x <;> simp [h, ih, Nat.add_comm]

theorem popcOf_eq (a : Word) : popcOf a = BitVec.ofNat 64 ((List.range 64).map (fun i => (a.getLsbD i).toNat)).sum := by
  rw [popcOf, length_filter_eq_sum]

theorem min_eq_ofInt (a b : Word) : (if a.slt b then a else b) = BitVec.ofInt 64 (min a.toInt b.toInt) := by
  simp only [min_def_lt, apply_ite (BitVec.ofInt 64), BitVec.ofInt_toInt, BitVec.slt_iff_toInt_lt]

theorem max_eq_ofInt (a b : Word) : (if a.slt b then b else a) = BitVec.ofInt 64 (max a.toInt b.toInt) := by
  simp only [max_def_lt, apply_ite (BitVec.ofInt 64), BitVec.ofInt_toInt, BitVec.slt_iff_toInt_lt]

theorem minu_eq_ofNat (a b : Word) : (if a < b then a else b) = BitVec.ofNat 64 (min a.toNat b.toNat) := by
  simp only [min_def_lt, apply_ite (BitVec.ofNat 64), BitVec.ofNat_toNat, BitVec.setWidth_eq, BitVec.lt_def]

theorem maxu_eq_ofNat (a b : Word) : (if a < b then b else a) = BitVec.ofNat 64 (max a.toNat b.toNat) := by
  simp only [max_def_lt, apply_ite (BitVec.ofNat 64), BitVec.ofNat_toNat, BitVec.setWidth_eq, BitVec.lt_def]

theorem sextOf_eq (a b : Word) : sextOf a b = (a.setWidth (amount b + 1)).signExtend 64 := by
  have hn := amount_lt b
  refine BitVec.eq_of_getLsbD_eq (fun i hi => ?_)
  simp only [sextOf, BitVec.getLsbD_sshiftRight, BitVec.getLsbD_signExtend, BitVec.getLsbD_shiftLeft, BitVec.getLsbD_setWidth,
    BitVec.msb_eq_getLsbD_last]
  by_cases h : i < amount b + 1
  · have h1 : 63 - amount b + i < 64 := by omega
    have h2 : 63 - amount b + i - (63 - amount b) = i := by omega
    simp [hi, h, h1, h2]
  · have h1 : ¬ 63 - amount b + i < 64 := by omega
    have h2 : 64 - 1 - (63 - amount b) = amount b := by omega
    have h3 : ¬ 63 < 63 - amount b := by omega
    simp [hi, h, h1, h2, h3]

theorem zextOf_eq (a b : Word) : zextOf a b = BitVec.ofNat 64 (a.toNat % 2 ^ (amount b + 1)) := by
  have hn := amount_lt b
  apply BitVec.eq_of_toNat_eq
  have hw : 2 ^ 64 = 2 ^ (amount b + 1) * 2 ^ (63 - amount b) := by rw [← pow_add]; congr 1; omega
  rw [zextOf, BitVec.toNat_ushiftRight, BitVec.toNat_shiftLeft, Nat.shiftLeft_eq, Nat.shiftRight_eq_div_pow, BitVec.toNat_ofNat, hw,
    Nat.mul_mod_mul_right, Nat.mul_div_cancel _ (by positivity)]
  exact (Nat.mod_eq_of_lt ((Nat.mod_lt _ (by positivity)).trans_le (Nat.le_mul_of_pos_right _ (by positivity)))).symm

theorem leNat_append (bs cs : List Byte) : leNat (bs ++ cs) = leNat bs + 256 ^ bs.length * leNat cs := by
  induction bs with
  | nil => simp [leNat]
  | cons b bs ih => rw [List.cons_append, leNat, ih, leNat, List.length_cons, pow_succ]; ring

theorem beNat_cons (b : Byte) (bs : List Byte) : beNat (b :: bs) = b.toNat * 256 ^ bs.length + beNat bs := by
  rw [beNat, List.reverse_cons, leNat_append, List.length_reverse, beNat, leNat, leNat]
  ring

theorem length_leBytes (n v : Nat) : (leBytes n v).length = n := by
  induction n generalizing v with
  | zero => rfl
  | succ n ih => rw [leBytes, List.length_cons, ih]

/-- The bytes of a number read in the other order. -/
theorem beNat_leBytes (n v : Nat) :
    beNat (leBytes n v) = ((List.range n).map (fun i => v / 256 ^ i % 256 * 256 ^ (n - 1 - i))).sum := by
  induction n generalizing v with
  | zero => rfl
  | succ n ih =>
    rw [leBytes, beNat_cons, length_leBytes, ih, List.range_succ_eq_map, List.map_cons, List.sum_cons, List.map_map]
    congr 1
    · simp
    · refine congrArg List.sum (List.map_congr_left fun i _ => ?_)
      rw [Function.comp, Nat.div_div_eq_div_mul, ← Nat.pow_succ', show n - 1 - i = n + 1 - 1 - i.succ by omega]

theorem bswapOf_eq (a : Word) :
    bswapOf a = BitVec.ofNat 64 ((List.range 8).map (fun i => a.toNat / 256 ^ i % 256 * 256 ^ (7 - i))).sum := by
  rw [bswapOf, beNat_leBytes]

theorem mul_eq_ofNat (a b : Word) : a * b = BitVec.ofNat 64 (a.toNat * b.toNat) :=
  BitVec.eq_of_toNat_eq (by rw [BitVec.toNat_mul, BitVec.toNat_ofNat])

theorem divOf_eq (a b : Word) : divOf a b = if b = 0 then BitVec.ofInt 64 (-1)
    else if a.toInt = -(2 ^ 63) ∧ b.toInt = -1 then BitVec.ofInt 64 (-(2 ^ 63)) else BitVec.ofInt 64 (a.toInt.tdiv b.toInt) := by
  refine ite_congr rfl (fun _ => by decide) (fun _ => ?_)
  split
  case isTrue h =>
    obtain ⟨ha, hb⟩ := h
    rw [ha, hb]; decide
  case isFalse => rfl

theorem remOf_eq (a b : Word) : remOf a b = if b = 0 then a
    else if a.toInt = -(2 ^ 63) ∧ b.toInt = -1 then 0 else BitVec.ofInt 64 (a.toInt - a.toInt.tdiv b.toInt * b.toInt) := by
  refine ite_congr rfl (fun _ => rfl) (fun _ => ?_)
  split
  case isTrue h =>
    obtain ⟨ha, hb⟩ := h
    rw [ha, hb]; decide
  case isFalse => rw [Int.tmod_def, Int.mul_comm]

/-! ### Format A under its guard (R126) -/

/-- The instruction writes the function `g` of ra and rb into rd when its guard holds. -/
def Computes (mk : Nat → FmtA → Instr) (g : Word → Word → Word) : Prop :=
  ∀ (s : State) (c : Nat) (f : FmtA), Fetches s c 1 (mk c f) → (s.ctx c).latch = none →
    Sets (mk c f) c s (if (s.ctx c).guard f then
      (s.ctx c).next.setG f.rd (g ((s.ctx c).gr f.ra) ((s.ctx c).gr f.rb)) else (s.ctx c).next)

/-- It does when the model's meaning `ex` of it is `binA` of a function that equals `g`. -/
theorem computes_of_binA (ex : Nat → FmtA → State → Res) {mk : Nat → FmtA → Instr} {op fn : Nat} {g g' : Word → Word → Word}
    (hx : ∀ c f s, exec (mk c f) s = ex c f s ∧ ex c f s = s.binA c op fn f g' ∧ encodeEhrile (mk c f) = some (encA op fn f))
    (hg : ∀ a b, g' a b = g a b) : Computes mk g := by
  intro s c f h hl
  obtain ⟨hexec, hbin, hword⟩ := hx c f s
  have hctx := CtxOnly.refl c (s.begin c)
  rw [← hg]
  cases hguard : (s.ctx c).guard f
  case false => exact h.sets hl (hexec.trans hbin) hword rfl (by simp [hguard]) hctx (by simp)
  case true =>
    exact h.sets hl (hexec.trans hbin) hword rfl (by simp [hguard]) (hctx.writeG f.rd (g' ((s.ctx c).gr f.ra) ((s.ctx c).gr f.rb)))
      (by simp [Ctx.next_setG])

/-- Settles O19: each of the functions is the one that R129 or R130 lists, and the rest is common to them. -/
theorem integerInstructions : Obligations.IntegerInstructions := by
  unfold Obligations.IntegerInstructions
  change ∀ e ∈ (_ : List ((Nat → FmtA → Instr) × (Word → Word → Word))), Computes e.1 e.2
  simp only [List.forall_mem_cons]
  exact ⟨
    computes_of_binA execAdd (fun _ _ _ => ⟨rfl, rfl, rfl⟩) add_eq_ofNat,
    computes_of_binA execSub (fun _ _ _ => ⟨rfl, rfl, rfl⟩) sub_eq_ofInt,
    computes_of_binA execAnd (fun _ _ _ => ⟨rfl, rfl, rfl⟩) (fun _ _ => rfl),
    computes_of_binA execOr (fun _ _ _ => ⟨rfl, rfl, rfl⟩) (fun _ _ => rfl),
    computes_of_binA execXor (fun _ _ _ => ⟨rfl, rfl, rfl⟩) (fun _ _ => rfl),
    computes_of_binA execAndn (fun _ _ _ => ⟨rfl, rfl, rfl⟩) (fun _ _ => rfl),
    computes_of_binA execSll (fun _ _ _ => ⟨rfl, rfl, rfl⟩) sllOf_eq,
    computes_of_binA execSrl (fun _ _ _ => ⟨rfl, rfl, rfl⟩) srlOf_eq,
    computes_of_binA execSra (fun _ _ _ => ⟨rfl, rfl, rfl⟩) sraOf_eq,
    computes_of_binA execRor (fun _ _ _ => ⟨rfl, rfl, rfl⟩) rorOf_eq,
    computes_of_binA execClz (fun _ _ _ => ⟨rfl, rfl, rfl⟩) (fun a _ => clzOf_eq a),
    computes_of_binA execCtz (fun _ _ _ => ⟨rfl, rfl, rfl⟩) (fun a _ => ctzOf_eq a),
    computes_of_binA execPopc (fun _ _ _ => ⟨rfl, rfl, rfl⟩) (fun a _ => popcOf_eq a),
    computes_of_binA execMin (fun _ _ _ => ⟨rfl, rfl, rfl⟩) min_eq_ofInt,
    computes_of_binA execMax (fun _ _ _ => ⟨rfl, rfl, rfl⟩) max_eq_ofInt,
    computes_of_binA execMinu (fun _ _ _ => ⟨rfl, rfl, rfl⟩) minu_eq_ofNat,
    computes_of_binA execMaxu (fun _ _ _ => ⟨rfl, rfl, rfl⟩) maxu_eq_ofNat,
    computes_of_binA execSext (fun _ _ _ => ⟨rfl, rfl, rfl⟩) sextOf_eq,
    computes_of_binA execZext (fun _ _ _ => ⟨rfl, rfl, rfl⟩) zextOf_eq,
    computes_of_binA execBswap (fun _ _ _ => ⟨rfl, rfl, rfl⟩) (fun a _ => bswapOf_eq a),
    computes_of_binA execMul (fun _ _ _ => ⟨rfl, rfl, rfl⟩) mul_eq_ofNat,
    computes_of_binA execMulhu (fun _ _ _ => ⟨rfl, rfl, rfl⟩) (fun _ _ => rfl),
    computes_of_binA execMulh (fun _ _ _ => ⟨rfl, rfl, rfl⟩) (fun _ _ => rfl),
    computes_of_binA execDivu (fun _ _ _ => ⟨rfl, rfl, rfl⟩) (fun _ _ => rfl),
    computes_of_binA execRemu (fun _ _ _ => ⟨rfl, rfl, rfl⟩) (fun _ _ => rfl),
    computes_of_binA execDiv (fun _ _ _ => ⟨rfl, rfl, rfl⟩) divOf_eq,
    computes_of_binA execRem (fun _ _ _ => ⟨rfl, rfl, rfl⟩) remOf_eq,
    List.forall_mem_nil _⟩

end Sys2Proof.Machine
